-- ==== Sys2Proof/Word.lean ====
section
/-! DEFINITION. Words, fixed-length tables and the plainest integer arithmetic of the manual's Conventions. -/

namespace Sys2Proof

abbrev Byte := BitVec 8

/-- A station second count (00_scope, Terms: S). -/
abbrev Second := BitVec 32

/-- An event sequence number (R96). -/
abbrev EventSeq := BitVec 32

/-- Unit u of the manual is the index u − 1. -/
abbrev UnitId := Fin 6

/-- A line by its line number 8×(u−1)+k (00_scope, Conventions). -/
abbrev LineId := Fin 48

/-- A trip file slot (R112). -/
abbrev SlotId := Fin 16

/-- A fixed number of like things. -/
structure Table (n : Nat) (α : Type) where
  list : List α
  size : list.length = n
  deriving DecidableEq, Repr

namespace Table

variable {n : Nat} {α β : Type}

def get (t : Table n α) (i : Fin n) : α := t.list.get (i.cast t.size.symm)

def set (t : Table n α) (i : Fin n) (a : α) : Table n α :=
  ⟨t.list.set i a, by rw [List.length_set]; exact t.size⟩

def modify (t : Table n α) (i : Fin n) (f : α → α) : Table n α := t.set i (f (t.get i))

def map (f : α → β) (t : Table n α) : Table n β :=
  ⟨t.list.map f, by rw [List.length_map]; exact t.size⟩

/-- Every entry changed by a function of its index. -/
def mapIdx (f : Fin n → α → β) (t : Table n α) : Table n β :=
  ⟨(List.finRange n).map fun i => f i (t.get i), by rw [List.length_map, List.length_finRange]⟩

def fill (n : Nat) (a : α) : Table n α := ⟨List.replicate n a, List.length_replicate⟩

def build (f : Fin n → α) : Table n α :=
  ⟨(List.finRange n).map f, by rw [List.length_map, List.length_finRange]⟩

end Table

/-- "Clamped to ±x" (00_scope, Conventions). -/
def clamp (limit x : Int) : Int := max (-limit) (min limit x)

/-- "Saturating at x" (00_scope, Conventions). -/
def satAdd (cap a b : Nat) : Nat := min cap (a + b)

end Sys2Proof
end

