-- ==== Sys2Proof/Syntax.lean ====
section
/-! DEFINITION. The names the manual uses, the requests of the service ports (R190, R204) and the
commands of the block: one constructor of `Instr` for each row of spec/opcode_table.json. -/

namespace Sys2Proof

/-- The service ports (R190). -/
inductive Port
  | g | p | s
  deriving DecidableEq, Repr

/-- The time references (R27). -/
inductive RefId
  | ref1 | ref2
  deriving DecidableEq, Repr

/-- The operating modes (05, table of modes). -/
inductive Mode
  | stand | spin | gen | pump | cond
  deriving DecidableEq, Repr

/-- The fast lines of a unit (R60): u.0 and u.1. -/
inductive FastLine
  | masterTrip | breaker
  deriving DecidableEq, Repr

/-- One value for each port. -/
structure PerPort (α : Type) where
  g : α
  p : α
  s : α
  deriving DecidableEq, Repr

/-- One value for each reference. -/
structure PerRef (α : Type) where
  ref1 : α
  ref2 : α
  deriving DecidableEq, Repr

/-- One value for each operating mode. -/
structure PerMode (α : Type) where
  stand : α
  spin : α
  gen : α
  pump : α
  cond : α
  deriving DecidableEq, Repr

variable {α β γ : Type}

def PerPort.get (x : PerPort α) : Port → α
  | .g => x.g
  | .p => x.p
  | .s => x.s

def PerPort.set (x : PerPort α) (q : Port) (a : α) : PerPort α :=
  match q with
  | .g => { x with g := a }
  | .p => { x with p := a }
  | .s => { x with s := a }

def PerPort.modify (x : PerPort α) (q : Port) (f : α → α) : PerPort α := x.set q (f (x.get q))

def PerPort.map (f : α → β) (x : PerPort α) : PerPort β := ⟨f x.g, f x.p, f x.s⟩

def PerPort.map2 (f : α → β → γ) (x : PerPort α) (y : PerPort β) : PerPort γ :=
  ⟨f x.g y.g, f x.p y.p, f x.s y.s⟩

def PerPort.all (a : α) : PerPort α := ⟨a, a, a⟩

def PerRef.get (x : PerRef α) : RefId → α
  | .ref1 => x.ref1
  | .ref2 => x.ref2

def PerRef.set (x : PerRef α) (r : RefId) (a : α) : PerRef α :=
  match r with
  | .ref1 => { x with ref1 := a }
  | .ref2 => { x with ref2 := a }

def PerMode.get (x : PerMode α) : Mode → α
  | .stand => x.stand
  | .spin => x.spin
  | .gen => x.gen
  | .pump => x.pump
  | .cond => x.cond

def PerMode.set (x : PerMode α) (m : Mode) (a : α) : PerMode α :=
  match m with
  | .stand => { x with stand := a }
  | .spin => { x with spin := a }
  | .gen => { x with gen := a }
  | .pump => { x with pump := a }
  | .cond => { x with cond := a }

def PerMode.map (f : α → β) (x : PerMode α) : PerMode β :=
  ⟨f x.stand, f x.spin, f x.gen, f x.pump, f x.cond⟩

def PerMode.all (a : α) : PerMode α := ⟨a, a, a, a, a⟩

/-- Values in the manual's order STAND, SPIN, GEN, PUMP, COND. -/
def PerMode.toList (x : PerMode α) : List α := [x.stand, x.spin, x.gen, x.pump, x.cond]

def RefId.other : RefId → RefId
  | .ref1 => .ref2
  | .ref2 => .ref1

/-- A tally as a request body gives it: hours, then milliseconds within the hour (R133, R203). -/
structure TallyBody where
  hours : BitVec 24
  millis : BitVec 24
  deriving DecidableEq, Repr

/-- The body of PRESET TALLY (R140, R204). -/
structure PresetBody where
  unit : Byte
  spin : TallyBody
  gen : TallyBody
  pump : TallyBody
  cond : TallyBody
  starts : BitVec 24
  trips : BitVec 24
  closings : BitVec 24
  deriving DecidableEq, Repr

/-- A request as its owner takes it: its name and the values of its body (R204). -/
inductive Request
  | nop
  | status
  | identify
  | clearPort
  | readTime
  | readReferences
  | readLines (unit : Byte)
  | readUnit (unit : Byte)
  | readEvents (count : Byte)
  | seekEvents (selector : Byte) (sequence : EventSeq)
  | listTripFiles
  | readTripFile (slot : Byte)
  | readSummary (index part : Byte)
  | readJournal (part : Byte)
  | readSettings (item qualifier : Byte)
  | setTime (second : Second) (micros : BitVec 24)
  | selectReference (mode : Byte)
  | clearTripFile (slot : Byte) (tripSecond : Second)
  | presetTally (body : PresetBody)
  | lockPresets
  | writeSettings (item qualifier : Byte) (value : List Byte)
  | saveSettings
  | restart
  | setTest (unit : Byte)
  | endTest (unit : Byte)
  | takeShift (crew : Byte)
  | handOver (crew : Byte)
  | accept (crew : Byte)
  | withdraw
  | acknowledgeTripFile (slot : Byte) (tripSecond : Second)
  | permitPreset (unit : Byte)
  deriving DecidableEq, Repr

/-- What READ LINES brings: the unit its body names (R204), and the pin levels at the cycle at which it is
taken (R74). -/
structure LinesLook where
  unit : Byte
  pins : BitVec 48
  deriving DecidableEq, Repr

/-- The commands of the block, one for each row of spec/opcode_table.json. Operands carry what the
event brings from outside: pin levels, bytes, what a flash operation left, the values of a request. -/
inductive Instr
  | powerOn
  | endOfRecovery
  | baseline (pins : BitVec 48)
  | restart (port : Port)
  | restartLine
  | powerFailWarning
  | powerFailRelease
  | oscillatorCycle
  | secondBoundary
  | millisecondBoundary
  | pulseEdge (ref : RefId) (rising : Bool)
  | timeMessage (ref : RefId) (bytes : List Byte)
  | messageByteTimeout (ref : RefId)
  | pulseLossTimeout (ref : RefId)
  | latePulse (ref : RefId)
  | unpairedMarkTimeout
  | strobeRelease
  | wordEnd
  | echoCheck (asserted : Bool)
  | fastLineEdge (unit : UnitId) (line : FastLine) (high : Bool)
  | fastLineDebounceEnd (unit : UnitId) (line : FastLine)
  | scanInstant (pins : BitVec 48)
  | chatterWindowClose (line : LineId)
  | chatterOff (line : LineId)
  | settling (unit : UnitId)
  | testExpiry (unit : UnitId)
  | windowEnd (slot : SlotId)
  | permitLapse (unit : UnitId)
  | checkpointInterval
  | countPace
  | checkpointBegin
  | programEnd (left : Option (List Byte))
  | eraseEnd (left : List Byte)
  | settingsEraseEnd (left : List Byte)
  | settingsProgramEnd (left : Option (List Byte))
  | graceEnd
  | offerLapse
  | frameBegin (port : Port)
  | frameEnd (port : Port) (bytes : List Byte)
  | frameAbort (port : Port)
  | responseFinished (port : Port) (orphan : Bool)
  | nop (port : Port)
  | status (port : Port)
  | identify (port : Port)
  | clearPort (port : Port)
  | readTime (port : Port)
  | readReferences (port : Port)
  | readLines (port : Port) (look : LinesLook)
  | readUnit (port : Port) (unit : Byte)
  | readEvents (port : Port) (count : Byte)
  | seekEvents (port : Port) (selector : Byte) (sequence : EventSeq)
  | listTripFiles (port : Port)
  | readTripFile (port : Port) (slot : Byte)
  | readSummary (port : Port) (index part : Byte)
  | readJournal (port : Port) (part : Byte)
  | readSettings (port : Port) (item qualifier : Byte)
  | setTime (port : Port) (second : Second) (micros : BitVec 24)
  | selectReference (port : Port) (mode : Byte)
  | clearTripFile (port : Port) (slot : Byte) (tripSecond : Second)
  | presetTally (port : Port) (body : PresetBody)
  | lockPresets (port : Port)
  | writeSettings (port : Port) (item qualifier : Byte) (value : List Byte)
  | saveSettings (port : Port)
  | setTest (port : Port) (unit : Byte)
  | endTest (port : Port) (unit : Byte)
  | takeShift (port : Port) (crew : Byte)
  | handOver (port : Port) (crew : Byte)
  | accept (port : Port) (crew : Byte)
  | withdraw (port : Port)
  | acknowledgeTripFile (port : Port) (slot : Byte) (tripSecond : Second)
  | permitPreset (port : Port) (unit : Byte)
  | messageByte (ref : RefId) (byte : Byte) (stopHigh : Bool) (sinceStart : Nat)
  | dclkDdataChange
  | powerLoss
  deriving DecidableEq, Repr

end Sys2Proof
end

