-- ==== Sys2Proof/Config.lean ====
section
/-! DEFINITION. What the manual fixes as constants, the settings with their defaults (12.4), and the
free values (constants with no body) for what the manual leaves open. -/

namespace Sys2Proof

/-- The roles of lines (R67). -/
inductive Role
  | running | pump | condenser | tripCause | event | spare | masterTrip | breaker
  deriving DecidableEq, Repr

/-- The six roles of lines u.2 to u.7, in that order (R68). -/
abbrev LinePlan := Table 6 Role

/-- A set of the 13 notice kinds, REF in bit 0, in the order of R191 (R192, item 0x19 of R205). -/
abbrev NoticeSet := BitVec 13

/-- The working settings (12.4, R205), each in the unit of its item. -/
structure Settings where
  /-- Ts, µs (R23) -/
  stepThreshold : Nat
  /-- H, ns per second (R23) -/
  holdoverDrift : Nat
  alarmClass : Nat
  /-- µs (R45) -/
  spacingTolerance : Nat
  /-- µs (R45) -/
  disagreementLimit : Nat
  priority : RefId
  /-- P (R53) -/
  bitPeriodP : Nat
  /-- D (R53) -/
  delayD : Nat
  /-- ms (R53) -/
  strobeWidth : Nat
  plans : Table 6 LinePlan
  /-- u.0 in bit 0, 1 for inverted (R205) -/
  polarities : Table 6 Byte
  /-- µs (R63) -/
  scanPeriod : Nat
  /-- µs (R73) -/
  fastDebounce : Nat
  /-- µs (R73) -/
  scannedDebounce : Nat
  chatterLimit : Nat
  /-- s (R73) -/
  chatterWindow : Nat
  /-- ms (R88) -/
  settleTime : Nat
  /-- h (R88) -/
  testLength : Nat
  /-- ms (R128) -/
  tripWindow : Nat
  /-- ms (R128) -/
  lookback : Nat
  /-- min (R150) -/
  checkpointInterval : Nat
  /-- minutes of the day (R164) -/
  instants : List Nat
  /-- min (R164) -/
  earlyMargin : Nat
  /-- min (R164) -/
  grace : Nat
  enables : PerPort NoticeSet
  deriving DecidableEq, Repr

namespace Config

/-- The default line plan (R67). -/
def defaultPlan : LinePlan :=
  ⟨[.running, .pump, .condenser, .tripCause, .tripCause, .event], rfl⟩

/-- The defaults of 12.4. -/
def defaults : Settings where
  stepThreshold := 500
  holdoverDrift := 50
  alarmClass := 4
  spacingTolerance := 2000
  disagreementLimit := 100
  priority := .ref1
  bitPeriodP := 49
  delayD := 1
  strobeWidth := 10
  plans := Table.fill 6 defaultPlan
  polarities := Table.fill 6 0
  scanPeriod := 500
  fastDebounce := 200
  scannedDebounce := 4000
  chatterLimit := 10
  chatterWindow := 2
  settleTime := 3000
  testLength := 8
  tripWindow := 2000
  lookback := 20
  checkpointInterval := 6
  instants := [360, 840, 1320]
  earlyMargin := 30
  grace := 30
  enables := PerPort.all 0x1FFF#13

/-- One second of run clock, in ns. -/
def second : Nat := 1000000000

/-- The bound of Q and I, ppb (R11). -/
def rateLimit : Int := 200000

/-- The ceiling of U, ns (R19, R20). -/
def uncertaintyCap : Nat := 1000000000

/-- The tally cap, ms (R131). -/
def tallyCap : Nat := 3599999999999

/-- The count cap (R134). -/
def countCap : Nat := 9999999

/-- The cap of 16-bit saturating counts. -/
def smallCap : Nat := 65535

/-- Records the ring holds (R97). -/
def ringSize : Nat := 1024

/-- Entries an operate list holds (R119). -/
def listSize : Nat := 16

/-- Entries the shift log holds (R179). -/
def logSize : Nat := 12

/-- The life of a permit and of an offer, ns (R139, R172). -/
def tenMinutes : Nat := 600000000000

/-- The pace of COUNT checkpoints, ns (R150). -/
def countPace : Nat := 10000000000

/-- Bytes of a flash sector and of a record (09, 9.1). -/
def sectorSize : Nat := 4096
def recordSize : Nat := 512

/-- Markers of the records in flash (R148, R194, R209). -/
def journalMarker : BitVec 32 := 0x5C4A3D71#32
def identityMarker : BitVec 32 := 0x5C4A1DE7#32
def settingsMarker : BitVec 32 := 0x5C4A53E7#32

/-- The factory identity record that sector 33 holds at `State.reset` (R194): the vendor and part
names of the manual; revision, serial number and date 0. DESIGN CHOICE, log 2, unsafe. -/
def factoryIdentity : List Byte :=
  [0x5C, 0x4A, 0x1D, 0xE7]
    ++ [0x43, 0x68, 0x61, 0x6C, 0x6A, 0x6F, 0x72] ++ List.replicate 9 0
    ++ [0x49, 0x76, 0x61, 0x72, 0x64, 0x20, 0x36, 0x53, 0x54] ++ List.replicate 7 0
    ++ List.replicate 472 0
    ++ [0x46, 0x42, 0x10, 0xE0]

/-- What a byte holds that an abandoned erase or an interrupted program leaves behind: a free value
for each such event and each byte (R157, R162; log 8, safe). -/
opaque flashResidue : Nat → Nat → Byte

/-- Whether the high level counts as the shorter one in a learning period whose two levels lasted
equally long; the manual states no result there (R31; log 9, safe). -/
opaque tiedLevelsHighShorter : Nat → Bool

/-- The claim term of a claim class the table of 1.8 does not list (log 10, safe). -/
opaque unlistedClaimTerm : Nat → Nat

/-- The code byte that the refusal of a complete frame of no bytes echoes; such a frame holds none
(R183, R187; log 47, safe). -/
opaque absentCode : Nat → Byte

end Config

end Sys2Proof
end

