-- ==== Sys2Proof/WellFormed.lean ====
section
/-! DEFINITION. Which commands can be sent: the checks on operands that the manual's formats fix. -/

namespace Sys2Proof

/-- What an end of a flash program reports: nothing, or that its read-back differed, with the 512 bytes the
slot is left holding (R148, R153). -/
def wellFormedLeft (left : Option (List Byte)) : Bool :=
  match left with
  | none => true
  | some bytes => bytes.length == Config.recordSize

/-- What an end of an erase reports: the sector's bytes up to the last one that is not 0xFF (9.1). -/
def wellFormedResidue (left : List Byte) : Bool := decide (left.length ≤ Config.sectorSize)

/-- A complete time message: twelve bytes with the sync and the length in place (R28). -/
def wellFormedMessage (bytes : List Byte) : Bool :=
  bytes.length == 12 && bytes[0]? == some 0xA7#8 && bytes[1]? == some 12#8

/-- The operand checks, constructor by constructor. -/
def Instr.wellFormed : Instr → Bool
  | .timeMessage _ bytes => wellFormedMessage bytes
  | .programEnd left => wellFormedLeft left
  | .settingsProgramEnd left => wellFormedLeft left
  | .eraseEnd left => wellFormedResidue left
  | .settingsEraseEnd left => wellFormedResidue left
  -- a body holds at most 60 bytes, two of them item and qualifier (R183, R204)
  | .writeSettings _ _ _ value => decide (value.length ≤ 58)
  | .powerOn | .endOfRecovery | .baseline _ | .restart _ | .restartLine | .powerFailWarning
  | .powerFailRelease | .oscillatorCycle | .secondBoundary | .millisecondBoundary
  | .pulseEdge _ _ | .messageByteTimeout _ | .pulseLossTimeout _ | .latePulse _
  | .unpairedMarkTimeout | .strobeRelease | .wordEnd | .echoCheck _ | .fastLineEdge _ _ _
  | .fastLineDebounceEnd _ _ | .scanInstant _ | .chatterWindowClose _ | .chatterOff _
  | .settling _ | .testExpiry _ | .windowEnd _ | .permitLapse _ | .checkpointInterval
  | .countPace | .checkpointBegin | .graceEnd | .offerLapse | .frameBegin _ | .frameEnd _ _ | .frameAbort _
  | .responseFinished _ _ | .nop _ | .status _ | .identify _ | .clearPort _ | .readTime _
  | .readReferences _ | .readLines _ _ | .readUnit _ _ | .readEvents _ _ | .seekEvents _ _ _
  | .listTripFiles _ | .readTripFile _ _ | .readSummary _ _ _ | .readJournal _ _ | .readSettings _ _ _
  | .setTime _ _ _ | .selectReference _ _ | .clearTripFile _ _ _ | .presetTally _ _
  | .lockPresets _ | .saveSettings _ | .setTest _ _ | .endTest _ _ | .takeShift _ _
  | .handOver _ _ | .accept _ _ | .withdraw _ | .acknowledgeTripFile _ _ _
  | .permitPreset _ _ | .messageByte _ _ _ _ | .dclkDdataChange | .powerLoss => true

end Sys2Proof
end

