-- ==== Sys2Proof/Decode.lean ====
section
/-! DEFINITION. The opcode table of this block gives no row any bits: its commands are events and
requests, not words. So no word spells a command, and `decodeTableWord` answers none for all. -/

namespace Sys2Proof

/-- The command that a word spells by the table's bits: none, since no row of
spec/opcode_table.json has bits (98_reader: n_rows_with_fixed 0, n_rows_with_fields 0). -/
def decodeTableWord (_nbits _w : Nat) : Option Instr := none

end Sys2Proof
end

