-- ==== Sys2Proof/Machine/State.lean ====
section
/-! DEFINITION. The state of the part: every piece of state the manual gives its blocks, as plain
data, the reasons a step can stop, and the machine at power-on. -/

namespace Sys2Proof.Machine

/-- Reasons to stop with a fault. There is none: the manual defines the result of every request in
every state (00_scope) and the effect of every event, so no meaning raises a fault. -/
inductive Fault
  deriving DecidableEq, Repr

/-- Reasons to refuse a command. -/
inductive Refusal
  /-- Raised only by `exec` for a command that has no meaning yet; there is none at present. Safe. -/
  | notModelled (mnemonic : String)
  deriving DecidableEq, Repr

/-- The position in the power-on sequence (R196). -/
inductive Phase
  /-- supply absent (after POWER_LOSS) -/
  | off
  /-- step 1 taken: every block at its power-on values -/
  | starting
  /-- step 3: the journal is being recovered -/
  | recovering
  /-- steps 4 to 6: station time runs, the baseline is awaited -/
  | baselining
  /-- step 9 reached -/
  | running
  deriving DecidableEq, Repr

/-! ### Readings and records -/

/-- A date with the class in force and the run clock beside it (R4). -/
structure Stamp where
  second : Second
  micros : Nat
  cls : Nat
  runClock : Nat
  deriving DecidableEq, Repr

/-- The kinds of record (R94). -/
inductive Kind
  | lineOn | lineOff | chatterOn | chatterOff | mode | trip | fileClosed | breakerFail
  | testOn | testOff | timeStep | timeSet | refState | refSelect | quality | disagree
  | distFault | handover | journal | preset | start
  deriving DecidableEq, Repr

/-- A record as a block hands it to the Event Ring (06, 6.2): without sequence and STEP_NEAR. -/
structure Entry where
  kind : Kind
  /-- line number, unit number or 0xFF -/
  field : Byte
  stamp : Stamp
  datum : BitVec 16
  test : Bool := false
  scanned : Bool := false
  derived : Bool := false
  deriving DecidableEq, Repr

/-- A completed record (R93). -/
structure Record where
  seq : EventSeq
  second : Second
  micros : Nat
  kind : Kind
  field : Byte
  cls : Nat
  test : Bool
  scanned : Bool
  stepNear : Bool
  derived : Bool
  datum : BitVec 16
  deriving DecidableEq, Repr

/-! ### Timebase (01) -/

inductive TbState
  | free | acquire | locked | holdover
  deriving DecidableEq, Repr

structure LastStep where
  runClock : Nat
  e : Int
  deriving DecidableEq, Repr

structure Timebase where
  /-- station time advances (from step 4 of R196 on) -/
  advancing : Bool
  /-- S -/
  second : Second
  /-- N -/
  nanos : Nat
  /-- The MODEL's own: S, N, the class and the timebase state as they stood when the present cycle began,
  which every reading of the cycle shows whatever has moved them since (R4, R5, R47; log 45). -/
  cycleSecond : Second
  cycleNanos : Nat
  cycleClass : Nat
  cycleState : TbState
  /-- E -/
  residue : Int
  /-- Q -/
  rate : Int
  /-- I -/
  integral : Int
  /-- U -/
  uncertainty : Nat
  outliers : Nat
  state : TbState
  unset : Bool
  runClock : Nat
  lastStep : Option LastStep
  alarm : Bool
  deriving DecidableEq, Repr

/-- The MODEL's own marks of what the present oscillator cycle has brought and nobody has taken yet:
a second boundary (R2), a run-clock millisecond boundary (R3), a scan instant (R63). -/
structure DueMarks where
  second : Bool
  millisecond : Bool
  scan : Bool
  deriving DecidableEq, Repr

/-! ### Reference Monitor (02) -/

inductive RefState
  | absent | listen | check | qualified | unsynced
  deriving DecidableEq, Repr

/-- The causes of failure (R33). -/
inductive FailCause
  | noMessage | twoMessages | badCheck | badMessage | discontinuous | earlyPulse | latePulse
  deriving DecidableEq, Repr

/-- A captured pulse edge (R5). -/
structure Capture where
  second : Second
  nanos : Nat
  runClock : Nat
  deriving DecidableEq, Repr

/-- The fields of a time message (R28). -/
structure MessageInfo where
  second : Second
  claim : Nat
  flags : Byte
  sequence : Byte
  deriving DecidableEq, Repr

/-- A window message (R29), with the fault of R28 when it has one. -/
structure WindowMessage where
  info : MessageInfo
  fault : Option FailCause
  deriving DecidableEq, Repr

structure SeenEdge where
  runClock : Nat
  /-- the level after the edge -/
  high : Bool
  deriving DecidableEq, Repr

structure LevelSpan where
  high : Bool
  length : Nat
  deriving DecidableEq, Repr

/-- The learning record (R31). -/
structure Learning where
  lastEdge : Option SeenEdge
  /-- the first complete level of the period in progress -/
  firstLevel : Option LevelSpan
  /-- the shorter level of the last period, when that was decisive -/
  shorter : Option Bool
  deriving DecidableEq, Repr

/-- A complete message not yet taken, with its completion time (R28). -/
structure Arrived where
  bytes : List Byte
  runClock : Nat
  deriving DecidableEq, Repr

structure Reference where
  state : RefState
  /-- the active level: some true for high -/
  polarity : Option Bool
  count : Nat
  anchor : Option Capture
  window : Option WindowMessage
  /-- the second holds two messages -/
  two : Bool
  previous : Option Second
  lastMessage : Option MessageInfo
  claim : Option Nat
  lastFailure : Option FailCause
  learning : Learning
  /-- the current second has failed by an early pulse -/
  failed : Bool
  /-- the run clock the pulse-loss timer measures from -/
  lossFrom : Nat
  /-- the message receiver's partial message and the end of its last byte -/
  received : List Byte
  lastByteEnd : Nat
  arrived : Option Arrived
  deriving DecidableEq, Repr

inductive SelectionMode
  | auto | ref1 | ref2 | none
  deriving DecidableEq, Repr

/-- A marked pulse without a partner yet (R41). -/
structure Mark where
  ref : RefId
  second : Second
  runClock : Nat
  deriving DecidableEq, Repr

structure Selection where
  mode : SelectionMode
  selected : Option RefId
  disagree : Bool
  disagreeCount : Nat
  agreeCount : Nat
  lastDifference : Int
  unpaired : Option Mark
  /-- the reference-lost latches (R43) -/
  lost : PerPort Bool
  deriving DecidableEq, Repr

/-! ### Distribution Driver (03) -/

/-- The time word (R48). -/
structure TimeWord where
  second : Second
  cls : Nat
  invalid : Bool
  stepped : Bool
  holdover : Bool
  testAny : Bool
  check : Byte
  deriving DecidableEq, Repr

inductive WordState
  | idle | delay | sending
  deriving DecidableEq, Repr

structure Distribution where
  word : Option TimeWord
  asserted : Bool
  /-- L -/
  lead : Nat
  /-- W in ns, doubled for a minute strobe -/
  width : Nat
  wordState : WordState
  bit : Nat
  /-- T ÷ 2 in ns, as taken at the leading edge -/
  halfPeriod : Nat
  /-- D, as taken at the leading edge -/
  delay : Nat
  /-- changes of DCLK and DDATA made since the leading edge -/
  changes : Nat
  dclk : Bool
  ddata : Bool
  latency : Nat
  stepPending : Bool
  echoPending : Bool
  fault : Bool
  correct : Nat
  cuts : Nat
  /-- pin: DSTROBE shows the asserted level while it is driven asserted -/
  readsBack : Bool
  deriving DecidableEq, Repr

/-! ### Line Scanner (04) -/

/-- A pending change (R62, R64). -/
structure PendingChange where
  /-- the first edge or first sample -/
  stamp : Stamp
  /-- the line is at the pending level (and not back at the filtered level) -/
  atPending : Bool
  /-- fast lines: the run clock from which the line has been on that side -/
  since : Nat
  /-- scanned lines: consecutive samples on that side -/
  samples : Nat
  deriving DecidableEq, Repr

inductive Chatter
  | quiet
  | counting (start : Nat) (base : Bool) (count : Nat)
  | chattering (held : Bool) (quietStart : Nat)
  deriving DecidableEq, Repr

structure Line where
  /-- the pin is high -/
  raw : Bool
  inverted : Bool
  role : Role
  filtered : Bool
  pend : Option PendingChange
  chatter : Chatter
  suppressed : Nat
  lastRecorded : Bool
  deriving DecidableEq, Repr

structure Lines where
  tab : Table 48 Line
  /-- scan period in force, µs -/
  period : Nat
  awaiting : Bool
  deriving DecidableEq, Repr

/-! ### Mode Detector (05) -/

structure ModeLevels where
  running : Bool
  breaker : Bool
  pump : Bool
  condenser : Bool
  deriving DecidableEq, Repr

structure Candidate where
  mode : Mode
  start : Stamp
  deriving DecidableEq, Repr

structure TestRun where
  start : Stamp
  deadline : Nat
  deriving DecidableEq, Repr

structure UnitMode where
  levels : ModeLevels
  settled : Option Mode
  since : Option Stamp
  candidate : Option Candidate
  /-- some while IN -/
  test : Option TestRun
  deriving DecidableEq, Repr

/-! ### Event Ring (06) -/

structure Ring where
  /-- oldest first -/
  records : List Record
  next : EventSeq
  writePos : Nat
  cursors : PerPort EventSeq
  losses : PerPort Nat
  /-- START has been completed since power-on -/
  started : Bool
  /-- records handed before START, oldest first (R110) -/
  deferred : List Entry
  /-- the newest journal record carried POWER_FAIL (R161) -/
  orderly : Bool
  deriving DecidableEq, Repr

/-! ### Trip File Table (07) -/

inductive FileState
  | opened | closed | acknowledged
  deriving DecidableEq, Repr

structure Operate where
  line : LineId
  /-- µs from the trip -/
  offset : Int
  scanned : Bool
  runClock : Nat
  deriving DecidableEq, Repr

structure TripFile where
  state : FileState
  unit : UnitId
  second : Second
  micros : Nat
  runClock : Nat
  cls : Nat
  test : Bool
  cut : Bool
  breakerClosed : Bool
  modeBefore : Option Mode
  genTally : Nat
  pumpTally : Nat
  windowEnd : Nat
  /-- ms -/
  lookback : Nat
  operates : List Operate
  overflow : Nat
  firstOut : Option LineId
  ambiguous : Bool
  breakerOpen : Option Int
  precededBy : Option UnitId
  deriving DecidableEq, Repr

structure Trips where
  /-- none is FREE -/
  slots : Table 16 (Option TripFile)
  order : List SlotId
  deriving DecidableEq, Repr

/-! ### Tally Unit (08) -/

structure LastTrip where
  second : Second
  cls : Nat
  firstOut : Option LineId
  deriving DecidableEq, Repr

structure UnitTally where
  tallies : PerMode Nat
  saturated : PerMode Bool
  counted : Option Mode
  starts : Nat
  trips : Nat
  closings : Nat
  lastTrip : Option LastTrip
  permit : Option Nat
  deriving DecidableEq, Repr

structure TallyUnit where
  units : Table 6 UnitTally
  locked : Bool
  deriving DecidableEq, Repr

/-! ### Tally Journal and flash (09) -/

/-- The causes of a checkpoint, as a flag set in the order of R209. -/
abbrev Causes := BitVec 6

inductive Cause
  | interval | count | preset | cut | trip | powerFail
  deriving DecidableEq, Repr

structure ShiftIdentity where
  number : BitVec 32
  crew : Byte
  start : Second
  nextDue : Second
  deriving DecidableEq, Repr

structure JournalUnit where
  tallies : PerMode Nat
  starts : Nat
  trips : Nat
  closings : Nat
  lastTrip : Option LastTrip
  deriving DecidableEq, Repr

/-- The values of a journal record (R148). -/
structure JournalRecord where
  seq : BitVec 32
  second : Second
  cls : Nat
  causes : Causes
  integral : Int
  retired : BitVec 32
  shift : ShiftIdentity
  units : Table 6 JournalUnit
  deriving DecidableEq, Repr

/-- The newest record copy and the slot that holds it (R152, R163). -/
structure NewestRecord where
  record : JournalRecord
  sector : Fin 32
  slot : Fin 8
  deriving DecidableEq, Repr

inductive JournalState
  | normal | degraded | failed | empty
  deriving DecidableEq, Repr

/-- How far the power-fail checkpoint is while the power-fail state is TAKEN (R157). -/
inductive PowerFailStage
  | none | waiting | firstTry | secondTry | done
  deriving DecidableEq, Repr

structure Journal where
  sector : Fin 32
  slot : Fin 8
  nextSeq : BitVec 32
  /-- sector 0 in bit 0 -/
  retired : BitVec 32
  retireOnLeave : Bool
  reErase : Option (Fin 32)
  owedErase : Option (Fin 32)
  state : JournalState
  /-- no bit set: no checkpoint pending -/
  pending : Causes
  countChanged : Bool
  lastCapture : Option Nat
  recoveredAt : Nat
  /-- a failed program's record that waits for an erase before its retry (R153) -/
  retry : Option JournalRecord
  newest : Option NewestRecord
  programFailures : Nat
  eraseFailures : Nat
  /-- the power-fail state is TAKEN -/
  taken : Bool
  stage : PowerFailStage
  /-- pin: the power-fail warning line is asserted -/
  warning : Bool
  deriving DecidableEq, Repr

/-- The one flash operation in flight (R156). -/
inductive FlashOp
  | none
  | program (sector : Fin 32) (slot : Fin 8) (record : JournalRecord)
  | erase (sector : Fin 32)
  | settingsErase
  | settingsProgram
  deriving DecidableEq, Repr

/-- The flash array: cells with strictly rising addresses, none holding 0xFF; an address that is not
listed reads as 0xFF, as erased flash does (09, 9.1). -/
abbrev Memory := List Host.Cell

structure Flash where
  mem : Memory
  op : FlashOp
  /-- sector 32 was left by a save that did not end SAVED (R157, R201, 12.5; log 29) -/
  spoiled : Bool
  deriving DecidableEq, Repr

/-! ### Shift Controller (10) -/

inductive ShiftState
  | onShift | due | offered
  deriving DecidableEq, Repr

structure Offer where
  crewOut : Byte
  start : Nat
  deriving DecidableEq, Repr

structure SummaryUnit where
  buckets : PerMode Nat
  starts : Nat
  trips : Nat
  testTime : Nat
  inTest : Bool
  deriving DecidableEq, Repr

/-- A shift summary (R176). -/
structure Summary where
  number : BitVec 32
  crewOut : Byte
  crewIn : Byte
  start : Second
  dueSecond : Option Second
  cutSecond : Option Second
  elapsed : Nat
  units : Table 6 SummaryUnit
  firstSeq : EventSeq
  lastSeq : Option EventSeq
  worstClass : Nat
  timeSteps : Nat
  missed : Nat
  /-- ns of run clock -/
  overdue : Nat
  closedFiles : Option (List SlotId)
  journalAtCut : Option JournalState
  isPartial : Bool
  deriving DecidableEq, Repr

structure ShiftUnit where
  counted : Option Mode
  inTest : Bool
  deriving DecidableEq, Repr

structure Shift where
  identity : ShiftIdentity
  state : ShiftState
  dueStart : Option Nat
  /-- some while the overdue flag is set -/
  overdueSince : Option Nat
  missedWatch : Option Second
  offer : Option Offer
  units : Table 6 ShiftUnit
  /-- none until it opens at power-on (R181) -/
  running : Option Summary
  /-- oldest first -/
  log : List Summary
  deriving DecidableEq, Repr

/-! ### Port Controllers (11) -/

/-- The result codes (R190). -/
inductive Result
  | ok | busy | badCheck | badLength | unknown | notPermitted | wrongState | wrongCrew | badValue
  | notHeld | locked | journalFailed | starting
  deriving DecidableEq, Repr

structure Response where
  code : Byte
  result : Result
  body : List Byte
  deriving DecidableEq, Repr

/-- A response being built (R186): the request, whether its owner has taken it, and its answer. -/
structure Build where
  request : Request
  taken : Bool
  answer : Option Response
  deriving DecidableEq, Repr

inductive Slot
  | empty
  | building (build : Build)
  | finished (response : Response) (order : Nat)
  | sending (response : Response)
  deriving DecidableEq, Repr

/-- The 13 notice kinds (R191), REF first. -/
inductive Notice
  | ref | step | quality | trip | file | due | overdue | journal | loss | dist | restart
  | settings | test
  deriving DecidableEq, Repr

structure PortState where
  slotA : Slot
  slotB : Slot
  orphans : List Build
  dropped : Bool
  aborted : Bool
  restarted : Bool
  refusals : Nat
  latches : NoticeSet
  inFrame : Bool
  /-- the status byte of the present or last frame (R185) -/
  status : Byte
  finishCount : Nat
  deriving DecidableEq, Repr

/-! ### Settings Store (12) -/

inductive SaveStage
  | waitErase | erasing | waitProgram | programming
  deriving DecidableEq, Repr

structure Save where
  stage : SaveStage
  values : Settings
  deriving DecidableEq, Repr

inductive SaveOutcome
  | saved | eraseFailed | programFailed | abandoned
  deriving DecidableEq, Repr

structure SettingsStore where
  working : Settings
  /-- The MODEL's own: the working settings as they stood when the present cycle began, for the
  settings that are judged anew from the cycle after a write (R73, R80, R150, R168; log 37). -/
  atCycle : Settings
  stored : Settings
  /-- the stored-copy state is VALID -/
  valid : Bool
  /-- the load source of the last power-on is DEFAULTS -/
  fromDefaults : Bool
  save : Option Save
  outcome : Option SaveOutcome
  deriving DecidableEq, Repr

/-- The copy of the factory identity (R194). -/
structure Identity where
  vendor : List Byte
  part : List Byte
  revision : Byte
  serial : BitVec 32
  date : Second
  ok : Bool
  deriving DecidableEq, Repr

/-! ### The machine -/

structure State where
  phase : Phase
  tb : Timebase
  due : DueMarks
  refs : PerRef Reference
  sel : Selection
  dist : Distribution
  lines : Lines
  modes : Table 6 UnitMode
  ring : Ring
  trips : Trips
  tally : TallyUnit
  journal : Journal
  flash : Flash
  shift : Shift
  ports : PerPort PortState
  settings : SettingsStore
  identity : Identity
  /-- supplies the next free value (log 8) -/
  freeCount : Nat
  /-- the commands that wait, first in, first out -/
  pending : List Instr
  deriving DecidableEq, Repr

/-! ### Power-on values, block by block -/

def Timebase.powerOn : Timebase where
  advancing := false
  second := 0
  nanos := 0
  cycleSecond := 0
  cycleNanos := 0
  cycleClass := 7
  cycleState := .free
  residue := 0
  rate := 0
  integral := 0
  uncertainty := Config.uncertaintyCap
  outliers := 0
  state := .free
  unset := true
  runClock := 0
  lastStep := none
  alarm := true

def Learning.empty : Learning := ⟨none, none, none⟩

def Reference.powerOn : Reference where
  state := .absent
  polarity := none
  count := 0
  anchor := none
  window := none
  two := false
  previous := none
  lastMessage := none
  claim := none
  lastFailure := none
  learning := Learning.empty
  failed := false
  lossFrom := 0
  received := []
  lastByteEnd := 0
  arrived := none

def Selection.powerOn : Selection where
  mode := .auto
  selected := none
  disagree := false
  disagreeCount := 0
  agreeCount := 0
  lastDifference := 0
  unpaired := none
  lost := PerPort.all false

def Distribution.powerOn : Distribution where
  word := none
  asserted := false
  lead := 0
  width := 0
  wordState := .idle
  bit := 0
  halfPeriod := 0
  delay := 0
  changes := 0
  dclk := false
  ddata := false
  latency := 2
  stepPending := false
  echoPending := false
  fault := false
  correct := 0
  cuts := 0
  readsBack := true

/-- The role of line k of a unit under a line plan (R67). -/
def LinePlan.role (plan : LinePlan) (k : Nat) : Role :=
  if k = 0 then .masterTrip else if k = 1 then .breaker else plan.list.getD (k - 2) .spare

def Line.powerOn (l : LineId) : Line where
  raw := false
  inverted := false
  role := LinePlan.role Config.defaultPlan (l.val % 8)
  filtered := false
  pend := none
  chatter := .quiet
  suppressed := 0
  lastRecorded := false

def UnitMode.powerOn : UnitMode where
  levels := ⟨false, false, false, false⟩
  settled := none
  since := none
  candidate := none
  test := none

def Ring.powerOn : Ring where
  records := []
  next := 0
  writePos := 0
  cursors := PerPort.all 0
  losses := PerPort.all 0
  started := false
  deferred := []
  orderly := false

def UnitTally.powerOn : UnitTally where
  tallies := PerMode.all 0
  saturated := PerMode.all false
  counted := none
  starts := 0
  trips := 0
  closings := 0
  lastTrip := none
  permit := none

def Journal.powerOn : Journal where
  sector := 0
  slot := 0
  nextSeq := 0
  retired := 0
  retireOnLeave := false
  reErase := none
  owedErase := none
  state := .empty
  pending := 0
  countChanged := false
  lastCapture := none
  recoveredAt := 0
  retry := none
  newest := none
  programFailures := 0
  eraseFailures := 0
  taken := false
  stage := .none
  warning := false

/-- The factory-fresh array: sector 33 holds the identity record, everything else is blank (log 2). -/
def Flash.factory : Flash where
  mem := (List.range Config.recordSize).zipWith (fun i b => (33 * Config.sectorSize + i, b))
    Config.factoryIdentity
  op := .none
  spoiled := false

def Shift.powerOn : Shift where
  identity := ⟨0, 0, 0, 0⟩
  state := .onShift
  dueStart := none
  overdueSince := none
  missedWatch := none
  offer := none
  units := Table.fill 6 ⟨none, false⟩
  running := none
  log := []

def PortState.powerOn : PortState where
  slotA := .empty
  slotB := .empty
  orphans := []
  dropped := false
  aborted := false
  restarted := false
  refusals := 0
  latches := 0
  inFrame := false
  status := 0
  finishCount := 0

def SettingsStore.powerOn : SettingsStore where
  working := Config.defaults
  atCycle := Config.defaults
  stored := Config.defaults
  valid := false
  fromDefaults := true
  save := none
  outcome := none

def Identity.unread : Identity := ⟨[], [], 0, 0, 0, false⟩

/-- The machine at power-on: step 1 of R196 has given every block its power-on values, and steps 2
and 3 have not begun. -/
def State.reset : State where
  phase := .starting
  tb := Timebase.powerOn
  due := ⟨false, false, true⟩
  refs := ⟨Reference.powerOn, Reference.powerOn⟩
  sel := Selection.powerOn
  dist := Distribution.powerOn
  lines := ⟨Table.build Line.powerOn, Config.defaults.scanPeriod, true⟩
  modes := Table.fill 6 UnitMode.powerOn
  ring := Ring.powerOn
  trips := ⟨Table.fill 16 none, []⟩
  tally := ⟨Table.fill 6 UnitTally.powerOn, false⟩
  journal := Journal.powerOn
  flash := Flash.factory
  shift := Shift.powerOn
  ports := PerPort.all PortState.powerOn
  settings := SettingsStore.powerOn
  identity := Identity.unread
  freeCount := 0
  pending := []

end Sys2Proof.Machine
end

