-- ==== Sys2Proof/Machine/Flags.lean ====
section
/-! DEFINITION. The quality class, the notice latches and the packed flag bytes: every flag the manual
computes, with the codes of its enumerations. -/

namespace Sys2Proof

/-- The mode codes (R94). -/
def Mode.code : Mode → Nat
  | .stand => 0
  | .spin => 1
  | .gen => 2
  | .pump => 3
  | .cond => 4

def RefId.code : RefId → Nat
  | .ref1 => 1
  | .ref2 => 2

def Role.code : Role → Nat
  | .running => 0
  | .pump => 1
  | .condenser => 2
  | .tripCause => 3
  | .event => 4
  | .spare => 5
  | .masterTrip => 6
  | .breaker => 7

/-- The letter of a port in ASCII (R194). -/
def Port.letter : Port → Byte
  | .g => 0x47
  | .p => 0x50
  | .s => 0x53

end Sys2Proof

namespace Sys2Proof.Machine

/-! ### Quality class (R21) -/

/-- The table of R21. -/
def classOfUncertainty (u : Nat) : Nat :=
  if u ≤ 1000 then 1
  else if u ≤ 10000 then 2
  else if u ≤ 100000 then 3
  else if u ≤ 1000000 then 4
  else if u ≤ 10000000 then 5
  else 6

/-- The class in force (R21): 7 while the unset flag is set, otherwise read from U. -/
def Timebase.cls (t : Timebase) : Nat := if t.unset then 7 else classOfUncertainty t.uncertainty

def State.cls (s : State) : Nat := s.tb.cls

/-- The claim term (table of 1.8). -/
def claimTerm (claim : Nat) : Nat :=
  match claim with
  | 1 => 100
  | 2 => 1000
  | 3 => 10000
  | 4 => 100000
  | 5 => 1000000
  | other => Config.unlistedClaimTerm other

/-- A claim is clean when its class lies in 1..5 and its receiver-alarm flag is clear (02, 2.3). -/
def MessageInfo.clean (m : MessageInfo) : Bool :=
  decide (1 ≤ m.claim ∧ m.claim ≤ 5) && !m.flags.getLsbD 0

/-! ### Notice latches (R191, R192) -/

def Notice.index : Notice → Nat
  | .ref => 0
  | .step => 1
  | .quality => 2
  | .trip => 3
  | .file => 4
  | .due => 5
  | .overdue => 6
  | .journal => 7
  | .loss => 8
  | .dist => 9
  | .restart => 10
  | .settings => 11
  | .test => 12

def Notice.bit (k : Notice) : NoticeSet := 1#13 <<< k.index

def PortState.raise (k : Notice) (p : PortState) : PortState :=
  { p with latches := p.latches ||| k.bit }

/-- A block raises a notice in all three ports (R191). -/
def State.raiseAll (k : Notice) (s : State) : State :=
  { s with ports := s.ports.map (PortState.raise k) }

/-- The notice line is asserted exactly while a set latch is in the enable set (R192). -/
def State.noticeLine (s : State) (q : Port) : Bool :=
  (s.ports.get q).latches &&& s.settings.working.enables.get q != 0

/-! ### Slots and the status byte (R185, R204) -/

def Slot.isEmpty : Slot → Bool
  | .empty => true
  | _ => false

def Slot.isBuilding : Slot → Bool
  | .building _ => true
  | _ => false

def Slot.isFinished : Slot → Bool
  | .finished _ _ => true
  | _ => false

def PortState.busy (p : PortState) : Bool := p.slotA.isBuilding || p.slotB.isBuilding

def PortState.ready (p : PortState) : Bool := p.slotA.isFinished || p.slotB.isFinished

/-- Flags packed into a byte, the first in the most significant place given. -/
def packFlags (flags : List Bool) : Nat := flags.foldl (fun acc b => 2 * acc + b.toNat) 0

/-- The status byte at the beginning of a frame (R185), packed as R204 lays it out. -/
def PortState.statusByte (starting : Bool) (p : PortState) : Byte :=
  BitVec.ofNat 8 (packFlags
    [p.busy, p.ready, p.dropped, p.latches != 0, starting, p.restarted, p.aborted, false])

/-- STARTING is shown until the power-on sequence has reached its end (R185, R195). -/
def State.isStarting (s : State) : Bool := decide (s.phase ≠ .running)

/-! ### Codes of the enumerations -/

/-- The kind codes (R94). -/
def Kind.code : Kind → Byte
  | .lineOn => 0x01
  | .lineOff => 0x02
  | .chatterOn => 0x03
  | .chatterOff => 0x04
  | .mode => 0x05
  | .trip => 0x06
  | .fileClosed => 0x07
  | .breakerFail => 0x08
  | .testOn => 0x09
  | .testOff => 0x0A
  | .timeStep => 0x0B
  | .timeSet => 0x0C
  | .refState => 0x0D
  | .refSelect => 0x0E
  | .quality => 0x0F
  | .disagree => 0x10
  | .distFault => 0x11
  | .handover => 0x12
  | .journal => 0x13
  | .preset => 0x14
  | .start => 0x15

def modeCode (m : Option Mode) : Nat :=
  match m with
  | some m => m.code
  | none => 0

def RefState.code : RefState → Nat
  | .absent => 0
  | .listen => 1
  | .check => 2
  | .qualified => 3
  | .unsynced => 4

def selectionCode (r : Option RefId) : Nat :=
  match r with
  | some r => r.code
  | none => 0

def SelectionMode.code : SelectionMode → Nat
  | .auto => 0
  | .ref1 => 1
  | .ref2 => 2
  | .none => 3

def JournalState.code : JournalState → Nat
  | .normal => 0
  | .degraded => 1
  | .failed => 2
  | .empty => 3

def TbState.code : TbState → Nat
  | .free => 0
  | .acquire => 1
  | .locked => 2
  | .holdover => 3

def FailCause.code : FailCause → Nat
  | .noMessage => 1
  | .twoMessages => 2
  | .badCheck => 3
  | .badMessage => 4
  | .discontinuous => 5
  | .earlyPulse => 6
  | .latePulse => 7

def Chatter.code : Chatter → Nat
  | .quiet => 0
  | .counting _ _ _ => 1
  | .chattering _ _ => 2

def FileState.code : FileState → Nat
  | .opened => 1
  | .closed => 2
  | .acknowledged => 3

def ShiftState.code : ShiftState → Nat
  | .onShift => 0
  | .due => 1
  | .offered => 2

def SaveOutcome.code : SaveOutcome → Nat
  | .saved => 0
  | .eraseFailed => 1
  | .programFailed => 2
  | .abandoned => 3

/-- The result codes (R204). -/
def Result.code : Result → Byte
  | .ok => 0x00
  | .busy => 0x01
  | .badCheck => 0x02
  | .badLength => 0x03
  | .unknown => 0x04
  | .notPermitted => 0x05
  | .wrongState => 0x06
  | .wrongCrew => 0x07
  | .badValue => 0x08
  | .notHeld => 0x09
  | .locked => 0x0A
  | .journalFailed => 0x0B
  | .starting => 0x0C

/-- The HANDOVER subkinds (R94). -/
inductive Subkind
  | due | offered | withdrawn | lapsed | overdue | cut | taken | missed
  deriving DecidableEq, Repr

def Subkind.code : Subkind → Nat
  | .due => 1
  | .offered => 2
  | .withdrawn => 3
  | .lapsed => 4
  | .overdue => 5
  | .cut => 6
  | .taken => 7
  | .missed => 8

/-- The bit of a cause in the causes byte of a journal record (R209). -/
def Cause.bit : Cause → Causes
  | .interval => 0b000001
  | .count => 0b000010
  | .preset => 0b000100
  | .cut => 0b001000
  | .trip => 0b010000
  | .powerFail => 0b100000

/-- A datum with one value in its high byte and one in its low byte (R94). -/
def datumOf (high low : Nat) : BitVec 16 := BitVec.ofNat 16 (high * 256 + low)

end Sys2Proof.Machine
end

