-- ==== Sys2Proof/Machine/Memory.lean ====
section
/-! DEFINITION. The flash array as bytes (09, 9.1): erased flash reads 0xFF, programming only turns
bits from one to zero, an erase sets a whole sector. -/

namespace Sys2Proof.Machine

/-- What an unlisted address reads as: an erased byte (09, 9.1). -/
def Memory.erased : Byte := 0xFF

/-- The canonical form: addresses strictly rising, no cell equal to what an unlisted address reads. -/
def Memory.wf : Memory → Bool
  | [] => true
  | [(_, v)] => v != Memory.erased
  | (a, v) :: (b, w) :: rest =>
    decide (a < b) && v != Memory.erased && Memory.wf ((b, w) :: rest)

/-- One byte of the array. -/
def Memory.read (m : Memory) (a : Nat) : Byte :=
  match m with
  | [] => Memory.erased
  | (b, v) :: rest => if b = a then v else Memory.read rest a

/-- The cells below an address. -/
def Memory.below (m : Memory) (a : Nat) : Memory := m.takeWhile fun c => decide (c.1 < a)

/-- The cells at and above an address. -/
def Memory.from (m : Memory) (a : Nat) : Memory := m.dropWhile fun c => decide (c.1 < a)

/-- Bytes laid out from an address as cells, erased bytes left unlisted. -/
def Memory.layout (a : Nat) : List Byte → Memory
  | [] => []
  | v :: rest =>
    if v = Memory.erased then Memory.layout (a + 1) rest else (a, v) :: Memory.layout (a + 1) rest

/-- Replace `len` bytes from address `a` by the bytes given; missing ones become erased. -/
def Memory.replace (m : Memory) (a len : Nat) (bytes : List Byte) : Memory :=
  m.below a ++ Memory.layout a (bytes.take len) ++ m.from (a + len)

/-- `len` bytes read out of cells that start at or above address `a`. -/
def Memory.expand : Nat → Nat → Memory → List Byte
  | 0, _, _ => []
  | len + 1, a, [] => Memory.erased :: Memory.expand len (a + 1) []
  | len + 1, a, (b, v) :: rest =>
    if b = a then v :: Memory.expand len (a + 1) rest
    else Memory.erased :: Memory.expand len (a + 1) ((b, v) :: rest)

/-- `len` bytes from address `a`. -/
def Memory.slice (m : Memory) (a len : Nat) : List Byte := Memory.expand len a (m.from a)

/-- Every byte of a stretch reads 0xFF. -/
def Memory.blank (m : Memory) (a len : Nat) : Bool :=
  match m.from a with
  | [] => true
  | c :: _ => decide (a + len ≤ c.1)

/-- Programming a stretch: a bit becomes zero where either the array or the data has zero (9.1). -/
def Memory.program (m : Memory) (a : Nat) (bytes : List Byte) : Memory :=
  m.replace a bytes.length (List.zipWith (· &&& ·) (m.slice a bytes.length) bytes)

/-- The address of a journal slot (9.1: 8 slots of 512 bytes a sector). -/
def slotAddress (sector : Fin 32) (slot : Fin 8) : Nat :=
  sector.val * Config.sectorSize + slot.val * Config.recordSize

/-- The address of sector 32, the stored settings, and of sector 33, the factory identity (9.1). -/
def settingsAddress : Nat := 32 * Config.sectorSize
def identityAddress : Nat := 33 * Config.sectorSize

/-- Erase of a sector: it then holds what the erase left, 0xFF where that says nothing (R155). -/
def Memory.eraseSector (m : Memory) (sector : Nat) (left : List Byte) : Memory :=
  m.replace (sector * Config.sectorSize) Config.sectorSize left

def Memory.sectorBlank (m : Memory) (sector : Nat) : Bool :=
  m.blank (sector * Config.sectorSize) Config.sectorSize

/-- The bytes an interrupted operation leaves: free values (log 8). -/
def residue (count len : Nat) : List Byte := (List.range len).map (Config.flashResidue count)

/-! ### The 32-bit check of records in flash (R148) -/

/-- One bit of the cyclic redundancy check with generator 0x04C11DB7. -/
def crcBit (c : BitVec 32) : BitVec 32 :=
  if c.msb then (c <<< 1) ^^^ 0x04C11DB7#32 else c <<< 1

/-- One byte, most significant bit first. -/
def crcByte (c : BitVec 32) (b : Byte) : BitVec 32 :=
  let c0 := c ^^^ (b.setWidth 32 <<< 24)
  crcBit (crcBit (crcBit (crcBit (crcBit (crcBit (crcBit (crcBit c0)))))))

/-- Initial value all ones, inverted at the end (R148). -/
def crc (bytes : List Byte) : BitVec 32 := ~~~ bytes.foldl crcByte 0xFFFFFFFF#32

end Sys2Proof.Machine
end

