-- ==== Sys2Proof/Machine/Ops.lean ====
section
/-! DEFINITION. The operations every block shares: updates of one block's state, readings of the
Timebase (R4), the completion of records (R95, R99), checkpoint requests (R149) and flash access. -/

namespace Sys2Proof.Machine

/-! ### Updates of one part of the state -/

def State.withTb (s : State) (t : Timebase) : State := { s with tb := t }
def State.withDue (s : State) (d : DueMarks) : State := { s with due := d }
def State.withSel (s : State) (x : Selection) : State := { s with sel := x }
def State.withDist (s : State) (d : Distribution) : State := { s with dist := d }
def State.withRing (s : State) (r : Ring) : State := { s with ring := r }
def State.withTrips (s : State) (t : Trips) : State := { s with trips := t }
def State.withJournal (s : State) (j : Journal) : State := { s with journal := j }
def State.withFlash (s : State) (f : Flash) : State := { s with flash := f }
def State.withShift (s : State) (x : Shift) : State := { s with shift := x }
def State.withSettings (s : State) (x : SettingsStore) : State := { s with settings := x }

def State.setRef (s : State) (r : RefId) (x : Reference) : State :=
  { s with refs := s.refs.set r x }

def State.setLine (s : State) (l : LineId) (x : Line) : State :=
  { s with lines := { s.lines with tab := s.lines.tab.set l x } }

def State.setMode (s : State) (u : UnitId) (x : UnitMode) : State :=
  { s with modes := s.modes.set u x }

def State.setTally (s : State) (u : UnitId) (x : UnitTally) : State :=
  { s with tally := { s.tally with units := s.tally.units.set u x } }

def State.setSlot (s : State) (i : SlotId) (f : Option TripFile) : State :=
  { s with trips := { s.trips with slots := s.trips.slots.set i f } }

def State.setPort (s : State) (q : Port) (x : PortState) : State :=
  { s with ports := s.ports.set q x }

/-! ### Lists of the numbered things -/

def allUnits : List UnitId := List.finRange 6
def allLines : List LineId := List.finRange 48
def allSlots : List SlotId := List.finRange 16
def allPorts : List Port := [.g, .p, .s]
def allRefs : List RefId := [.ref1, .ref2]

/-- A step of the machine for each element of a list, in the order of the list. -/
def State.forEach {ι : Type} (s : State) (xs : List ι) (f : ι → State → State) : State :=
  xs.foldl (fun t x => f x t) s

/-- Line u.k (00_scope, Conventions). -/
def lineOf (u : UnitId) (k : Fin 8) : LineId := ⟨8 * u.val + k.val, by omega⟩

/-- The unit of a line. -/
def LineId.unit (l : LineId) : UnitId := ⟨l.val / 8, by omega⟩

/-- The k of line u.k. -/
def LineId.index (l : LineId) : Nat := l.val % 8

/-- The line number of a unit's fast line (R60). -/
def fastLine (u : UnitId) (f : FastLine) : LineId :=
  match f with
  | .masterTrip => lineOf u 0
  | .breaker => lineOf u 1

/-- Lines u.2 to u.7 are scanned lines (R60). -/
def LineId.scanned (l : LineId) : Bool := decide (2 ≤ LineId.index l)

/-- The unit number 1 to 6 as a byte. -/
def unitByte (u : UnitId) : Byte := BitVec.ofNat 8 (u.val + 1)

/-- The unit a body names, when the number lies in 1 to 6. -/
def unitNamed (b : Byte) : Option UnitId :=
  if h : 1 ≤ b.toNat ∧ b.toNat ≤ 6 then some ⟨b.toNat - 1, by omega⟩ else none

/-- The slot a body names, when the number lies in 0 to 15. -/
def slotNamed (b : Byte) : Option SlotId :=
  if h : b.toNat < 16 then some ⟨b.toNat, h⟩ else none

/-! ### Readings and STEP_NEAR -/

/-- One reading of the present oscillator cycle: S, N, the class and the run clock as they stood at its
start (R4; log 45). -/
def State.reading (s : State) : Stamp where
  second := s.tb.cycleSecond
  micros := s.tb.cycleNanos / 1000
  cls := s.tb.cycleClass
  runClock := s.tb.runClock

/-- Whether the last step lies near a record dated at a run-clock value and completed now (R16). -/
def State.stepNear (s : State) (dated : Nat) : Bool :=
  match s.tb.lastStep with
  | none => false
  | some l => decide (dated < l.runClock + Config.second ∧ l.runClock ≤ s.tb.runClock)

/-! ### The Event Ring -/

/-- The oldest sequence follows from the next one and the number held (R97). -/
def Ring.oldest (r : Ring) : EventSeq := r.next - BitVec.ofNat 32 r.records.length

/-- The number of records a port has not read (R98). -/
def Ring.unread (r : Ring) (q : Port) : BitVec 32 := r.next - r.cursors.get q

/-- A full ring discards its oldest record; a port whose cursor pointed at it moves on, counts a loss
and has LOSS raised (R99). -/
def State.discardOldest (s : State) : State :=
  let old := s.ring.oldest
  { s with
    ring := { s.ring with
      records := s.ring.records.drop 1
      cursors := s.ring.cursors.map fun c => if c = old then c + 1 else c
      losses := PerPort.map2 (fun n c => if c = old then satAdd Config.smallCap n 1 else n)
        s.ring.losses s.ring.cursors }
    ports := PerPort.map2 (fun (x : PortState) c => if c = old then x.raise .loss else x)
      s.ports s.ring.cursors }

/-- The record an entry becomes (R93, R95). -/
def Entry.record (e : Entry) (seq : EventSeq) (near : Bool) : Record where
  seq := seq
  second := e.stamp.second
  micros := e.stamp.micros
  kind := e.kind
  field := e.field
  cls := e.stamp.cls
  test := e.test
  scanned := e.scanned
  stepNear := near
  derived := e.derived
  datum := e.datum

/-- The Event Ring completes a record (R95). -/
def State.complete (s : State) (e : Entry) : State :=
  let r := e.record s.ring.next (s.stepNear e.stamp.runClock)
  let t := if s.ring.records.length < Config.ringSize then s else s.discardOldest
  t.withRing { t.ring with
    records := t.ring.records ++ [r]
    next := t.ring.next + 1
    writePos := (t.ring.writePos + 1) % Config.ringSize }

/-- A block hands a record to the Event Ring, which completes it, or holds it until START has been
completed (R95, R110). -/
def State.append (s : State) (e : Entry) : State :=
  if s.ring.started then s.complete e
  else s.withRing { s.ring with deferred := s.ring.deferred ++ [e] }

/-- A record with unit field 0xFF dated by a reading now. -/
def State.note (s : State) (kind : Kind) (datum : BitVec 16) : State :=
  s.append { kind := kind, field := 0xFF, stamp := s.reading, datum := datum }

/-- A record of a unit dated by a stamp. -/
def State.noteUnit (s : State) (kind : Kind) (u : UnitId) (stamp : Stamp) (datum : BitVec 16)
    (test : Bool) : State :=
  s.append { kind := kind, field := unitByte u, stamp := stamp, datum := datum, test := test }

/-! ### The test state of a unit -/

def State.inTest (s : State) (u : UnitId) : Bool := (s.modes.get u).test.isSome

/-! ### Checkpoint requests -/

/-- A request makes a checkpoint pending or adds its cause; while the journal is FAILED it is ignored
(R149). -/
def State.requestCheckpoint (s : State) (c : Cause) : State :=
  if s.journal.state = .failed then s
  else s.withJournal { s.journal with pending := s.journal.pending ||| c.bit }

/-- The run clock the interval and the pace are measured from (R150). -/
def Journal.since (j : Journal) : Nat := j.lastCapture.getD j.recoveredAt

/-- A count has risen: the mark is set, and a COUNT request arises at once when the pace allows it
(R134, R150). -/
def State.countRose (s : State) : State :=
  let t := s.withJournal { s.journal with countChanged := true }
  if s.journal.since + Config.countPace ≤ s.tb.runClock then t.requestCheckpoint .count else t

/-! ### Free values -/

/-- The next `len` free bytes, and the counter moved on (log 8). -/
def State.freeBytes (s : State) (len : Nat) : List Byte × State :=
  (residue s.freeCount len, { s with freeCount := s.freeCount + 1 })

end Sys2Proof.Machine
end

