-- ==== Sys2Proof/Machine/Operands.lean ====
section
/-! DEFINITION. The byte layouts of values (R203), the operand forms of requests (R204) and the frame
checks (R184): how a request is read from a frame and how an answer is laid out. -/

namespace Sys2Proof.Machine

/-! ### Field types (R203) -/

/-- A value of `n` bytes, most significant byte first. -/
def be : Nat → Nat → List Byte
  | 0, _ => []
  | n + 1, v => BitVec.ofNat 8 (v / 256 ^ n) :: be n v

/-- A signed value of `n` bytes in two's complement. -/
def beInt (n : Nat) (v : Int) : List Byte := be n (v % (256 ^ n : Nat)).toNat

/-- The number that bytes spell, most significant first. -/
def ofBe (bytes : List Byte) : Nat := bytes.foldl (fun acc b => acc * 256 + b.toNat) 0

/-- The number that bytes spell in two's complement. -/
def ofBeInt (bytes : List Byte) : Int :=
  let v := ofBe bytes
  if 2 * v < 256 ^ bytes.length then (v : Int) else (v : Int) - (256 ^ bytes.length : Nat)

def secondBytes (x : Second) : List Byte := be 4 x.toNat

/-- Date: second, then microseconds in 3 bytes. -/
def dateBytes (second : Second) (micros : Nat) : List Byte := secondBytes second ++ be 3 micros

def stampDate (t : Stamp) : List Byte := dateBytes t.second t.micros

/-- One byte: a class, an enumeration or a flag set of up to eight flags. -/
def byteOf (v : Nat) : List Byte := be 1 v

def flagByte (b : Bool) : List Byte := be 1 b.toNat

/-- Run-clock or ns value, 8 bytes. -/
def clockBytes (v : Nat) : List Byte := be 8 v

/-- "Signed value": any number no other type names, 4 bytes. -/
def numberBytes (v : Int) : List Byte := beInt 4 v

def countBytes (v : Nat) : List Byte := be 3 v

def smallBytes (v : Nat) : List Byte := be 2 v

/-- Time left, 4 bytes. -/
def leftBytes (v : Nat) : List Byte := be 4 v

/-- Tally: hours with the saturated flag in the top bit, then milliseconds within the hour (R133). -/
def tallyBytes (t : Nat) (saturated : Bool) : List Byte :=
  be 3 (t / 3600000 + if saturated then 2 ^ 23 else 0) ++ be 3 (t % 3600000)

/-- Optional value: a presence byte, then the value, sent as zeros when absent. -/
def optionBytes (len : Nat) (x : Option (List Byte)) : List Byte :=
  match x with
  | some v => 1 :: v
  | none => 0 :: List.replicate len 0

/-- A flag set, the first flag in the least significant bit (R203). -/
def flagSet (flags : List Bool) : Nat :=
  flags.foldr (fun b acc => 2 * acc + b.toNat) 0

/-- What is left before an end, in whole units rounded up (R89, R126, R144, R163, R180). -/
def timeLeft (end_ now unitNs : Nat) : Nat := (end_ - now + (unitNs - 1)) / unitNs

/-! ### Checks (R184) -/

/-- The two's complement of the 8-bit sum. -/
def checkByte (bytes : List Byte) : Byte := - bytes.foldl (· + ·) 0

/-- A response as it is sent: code, result, body length, body, check (R183, R204). -/
def Response.bytes (r : Response) : List Byte :=
  let head := r.code :: r.result.code :: BitVec.ofNat 8 r.body.length :: r.body
  head ++ [checkByte head]

/-- The bytes DO carries in the frame in progress before its zeros: the status byte, then the response
bound to the frame (R183). -/
def PortState.sent (p : PortState) : List Byte :=
  p.status :: match p.slotA, p.slotB with
    | .sending r, _ => r.bytes
    | _, .sending r => r.bytes
    | _, _ => []

/-! ### Bits on the lines (R51, R183) -/

/-- Bit `i` of bytes that are sent most significant bit first, counted from the first bit; after the last
byte every bit is 0 (R51, R183). -/
def bitOf (bytes : List Byte) (i : Nat) : Bool := (bytes.getD (i / 8) 0).getLsbD (7 - i % 8)

/-- The DO bit that goes with clock `i` of the frame in progress: the status byte, the bound response, and
then zeros for as long as the master clocks (R183). -/
def PortState.dataOut (p : PortState) (i : Nat) : Bool := bitOf p.sent i

/-- The byte that eight bits spell, the most significant first (R183). -/
def byteOfBits (bits : List Bool) : Byte :=
  BitVec.ofNat 8 (bits.foldl (fun acc b => 2 * acc + b.toNat) 0)

/-- The bytes that the DI bits of a frame spell (R183): the operand of FRAME_END. Bits that fill no byte
spell none; a frame that ends with such bits is FRAME_ABORT (R188). -/
def bytesOfBits : List Bool → List Byte
  | a :: b :: c :: d :: e :: f :: g :: h :: rest =>
    byteOfBits [a, b, c, d, e, f, g, h] :: bytesOfBits rest
  | _ => []

/-! ### Requests (R190, R204) -/

end Sys2Proof.Machine

namespace Sys2Proof

open Sys2Proof.Machine

/-- The request codes (R204). -/
def Request.code : Request → Byte
  | .nop => 0x00
  | .status => 0x01
  | .identify => 0x02
  | .clearPort => 0x03
  | .readTime => 0x10
  | .readReferences => 0x11
  | .readLines _ => 0x20
  | .readUnit _ => 0x21
  | .readEvents _ => 0x30
  | .seekEvents _ _ => 0x31
  | .listTripFiles => 0x40
  | .readTripFile _ => 0x41
  | .readSummary _ _ => 0x50
  | .readJournal _ => 0x60
  | .readSettings _ _ => 0x70
  | .setTime _ _ => 0x80
  | .selectReference _ => 0x81
  | .clearTripFile _ _ => 0x82
  | .presetTally _ => 0x83
  | .lockPresets => 0x84
  | .writeSettings _ _ _ => 0x85
  | .saveSettings => 0x86
  | .restart => 0x87
  | .setTest _ => 0x90
  | .endTest _ => 0x91
  | .takeShift _ => 0xA0
  | .handOver _ => 0xA1
  | .accept _ => 0xA2
  | .withdraw => 0xA3
  | .acknowledgeTripFile _ _ => 0xA4
  | .permitPreset _ => 0xA5

def TallyBody.bytes (t : TallyBody) : List Byte := be 3 t.hours.toNat ++ be 3 t.millis.toNat

def PresetBody.bytes (b : PresetBody) : List Byte :=
  [b.unit] ++ b.spin.bytes ++ b.gen.bytes ++ b.pump.bytes ++ b.cond.bytes
    ++ be 3 b.starts.toNat ++ be 3 b.trips.toNat ++ be 3 b.closings.toNat

/-- The body of a request (R204). -/
def Request.body : Request → List Byte
  | .nop | .status | .identify | .clearPort | .readTime | .readReferences | .listTripFiles
  | .lockPresets | .saveSettings | .restart | .withdraw => []
  | .readLines u => [u]
  | .readUnit u => [u]
  | .readEvents n => [n]
  | .seekEvents sel q => sel :: be 4 q.toNat
  | .readTripFile i => [i]
  | .readSummary i part => [i, part]
  | .readJournal part => [part]
  | .readSettings item qual => [item, qual]
  | .setTime x us => secondBytes x ++ be 3 us.toNat
  | .selectReference m => [m]
  | .clearTripFile i x => i :: secondBytes x
  | .presetTally b => b.bytes
  | .writeSettings item qual v => item :: qual :: v
  | .setTest u => [u]
  | .endTest u => [u]
  | .takeShift c => [c]
  | .handOver c => [c]
  | .accept c => [c]
  | .acknowledgeTripFile i x => i :: secondBytes x
  | .permitPreset u => [u]

/-- A whole request frame (R183, R204). -/
def Request.frame (r : Request) : List Byte :=
  let head := r.code :: BitVec.ofNat 8 r.body.length :: r.body
  head ++ [checkByte head]

end Sys2Proof

namespace Sys2Proof.Machine

/-- The codes that name a request of the part (R204). -/
def knownCode (code : Byte) : Bool :=
  [0x00, 0x01, 0x02, 0x03, 0x10, 0x11, 0x20, 0x21, 0x30, 0x31, 0x40, 0x41, 0x50, 0x60, 0x70,
    0x80, 0x81, 0x82, 0x83, 0x84, 0x85, 0x86, 0x87, 0x90, 0x91,
    0xA0, 0xA1, 0xA2, 0xA3, 0xA4, 0xA5].contains code.toNat

/-- The ports a request belongs to (table of R190), by its code. -/
def inRole (q : Port) (code : Byte) : Bool :=
  if code.toNat < 0x80 then true
  else if code.toNat < 0x90 then q == .g
  else if code.toNat < 0xA0 then q == .p
  else q == .s

/-- The value bytes of a settings item (R205). -/
def valueLength (item : Byte) : Option Nat :=
  match item.toNat with
  | 0x01 | 0x04 | 0x05 => some 4
  | 0x02 | 0x0C | 0x0D | 0x0E | 0x11 | 0x13 | 0x19 => some 2
  | 0x03 | 0x06 | 0x07 | 0x08 | 0x09 | 0x0B | 0x0F | 0x10 | 0x12 | 0x14 | 0x15 | 0x17 | 0x18 =>
    some 1
  | 0x0A => some 6
  | 0x16 => some 9
  | _ => none

def tallyBody (b : List Byte) : TallyBody where
  hours := BitVec.ofNat 24 (ofBe (b.take 3))
  millis := BitVec.ofNat 24 (ofBe ((b.drop 3).take 3))

def presetBody (unit : Byte) (b : List Byte) : PresetBody where
  unit := unit
  spin := tallyBody b
  gen := tallyBody (b.drop 6)
  pump := tallyBody (b.drop 12)
  cond := tallyBody (b.drop 18)
  starts := BitVec.ofNat 24 (ofBe ((b.drop 24).take 3))
  trips := BitVec.ofNat 24 (ofBe ((b.drop 27).take 3))
  closings := BitVec.ofNat 24 (ofBe ((b.drop 30).take 3))

/-- The second that four bytes spell. -/
def secondOf (b : List Byte) : Second := BitVec.ofNat 32 (ofBe b)

/-- The request a body spells under a code; none when its length is not the one the layout gives
(R187 case 8, R204). -/
def parseBody (code : Byte) (body : List Byte) : Option Request :=
  match code.toNat, body with
  | 0x00, [] => some .nop
  | 0x01, [] => some .status
  | 0x02, [] => some .identify
  | 0x03, [] => some .clearPort
  | 0x10, [] => some .readTime
  | 0x11, [] => some .readReferences
  | 0x20, [u] => some (.readLines u)
  | 0x21, [u] => some (.readUnit u)
  | 0x30, [n] => some (.readEvents n)
  | 0x31, [sel, a, b, c, d] => some (.seekEvents sel (BitVec.ofNat 32 (ofBe [a, b, c, d])))
  | 0x40, [] => some .listTripFiles
  | 0x41, [i] => some (.readTripFile i)
  | 0x50, [i, part] => some (.readSummary i part)
  | 0x60, [part] => some (.readJournal part)
  | 0x70, [item, qual] => some (.readSettings item qual)
  | 0x80, [a, b, c, d, e, f, g] =>
    some (.setTime (secondOf [a, b, c, d]) (BitVec.ofNat 24 (ofBe [e, f, g])))
  | 0x81, [m] => some (.selectReference m)
  | 0x82, [i, a, b, c, d] => some (.clearTripFile i (secondOf [a, b, c, d]))
  | 0x83, u :: b => if b.length = 33 then some (.presetTally (presetBody u b)) else none
  | 0x84, [] => some .lockPresets
  | 0x85, item :: qual :: v =>
    match valueLength item with
    | some n => if v.length = n then some (.writeSettings item qual v) else none
    | none => some (.writeSettings item qual v)
  | 0x86, [] => some .saveSettings
  | 0x87, [] => some .restart
  | 0x90, [u] => some (.setTest u)
  | 0x91, [u] => some (.endTest u)
  | 0xA0, [c] => some (.takeShift c)
  | 0xA1, [c] => some (.handOver c)
  | 0xA2, [c] => some (.accept c)
  | 0xA3, [] => some .withdraw
  | 0xA4, [i, a, b, c, d] => some (.acknowledgeTripFile i (secondOf [a, b, c, d]))
  | 0xA5, [u] => some (.permitPreset u)
  | _, _ => none

/-- The body of a request frame. -/
def frameBody (bytes : List Byte) : List Byte := (bytes.drop 2).take (bytes.getD 1 0).toNat

/-- Whether the frame holds the whole request its body length announces (R187 case 4). -/
def frameWhole (bytes : List Byte) : Bool := decide ((bytes.getD 1 0).toNat + 3 ≤ bytes.length)

/-- Whether the request's bytes, check included, add to 0 modulo 256 (R184). -/
def frameSumsToZero (bytes : List Byte) : Bool :=
  (bytes.take ((bytes.getD 1 0).toNat + 3)).foldl (· + ·) 0 == (0 : Byte)

/-! ### What an owner makes of a request -/

/-- What an owner gives for a request it has taken (R187, R195, R201). -/
inductive Reply
  /-- a result and a body -/
  | answer (result : Result) (body : List Byte)
  /-- the answer comes when work on the flash has ended (SAVE SETTINGS) -/
  | later
  /-- no response: a restart has removed it (RESTART) -/
  | removed
  deriving DecidableEq, Repr

/-- The state after an owner has decided a request, and what it gives for it. -/
structure Decision where
  state : State
  reply : Reply
  deriving DecidableEq, Repr

/-- Answered OK without a body. -/
def State.ok (s : State) : Decision := ⟨s, .answer .ok []⟩

/-- Answered OK with a body. -/
def State.gives (s : State) (body : List Byte) : Decision := ⟨s, .answer .ok body⟩

/-- Refused by the owner: the state is as it was. -/
def State.refuse (s : State) (r : Result) : Decision := ⟨s, .answer r []⟩

end Sys2Proof.Machine
end

