-- ==== Sys2Proof/Machine/Ports.lean ====
section
/-! DEFINITION. The Port Controllers (11): frames, slots, verdicts, refusals, orphans. -/

namespace Sys2Proof.Machine

def State.port (s : State) (q : Port) : PortState := s.ports.get q

def State.modPort (s : State) (q : Port) (f : PortState → PortState) : State :=
  s.setPort q (f (s.port q))

/-! ### Slots (R186) -/

def Slot.isSending : Slot → Bool
  | .sending _ => true
  | _ => false

/-- A slot's contents go into an EMPTY slot: slot A, or slot B when A is not EMPTY or when A has only
become so at this frame's end and B is EMPTY, as in the worked case of 11.3 (R187; log 44). -/
def PortState.place (x : PortState) (sentA : Bool) (slot : Slot) : PortState :=
  if x.slotA.isEmpty && !(sentA && x.slotB.isEmpty) then { x with slotA := slot }
  else { x with slotB := slot }

/-- A response FINISHED at once in an EMPTY slot (R187, R189). -/
def PortState.finishNow (x : PortState) (sentA : Bool) (r : Response) : PortState :=
  { x.place sentA (.finished r x.finishCount) with finishCount := x.finishCount + 1 }

/-- A refusal count one higher (R187, R188). -/
def PortState.countRefusal (x : PortState) : PortState :=
  { x with refusals := satAdd Config.smallCap x.refusals 1 }

/-- A refusal by the Port Controller itself (R187). -/
def PortState.refuse (x : PortState) (sentA : Bool) (code : Byte) (result : Result) : PortState :=
  (x.finishNow sentA ⟨code, result, []⟩).countRefusal

/-- A FINISHED slot is bound to the frame. -/
def Slot.bind : Slot → Slot
  | .finished r _ => .sending r
  | other => other

/-- The slot that finished first is bound to the frame (R186). -/
def PortState.bindEarliest (x : PortState) : PortState :=
  match x.slotA, x.slotB with
  | .finished _ a, .finished _ b =>
    if a < b then { x with slotA := x.slotA.bind } else { x with slotB := x.slotB.bind }
  | .finished _ _, _ => { x with slotA := x.slotA.bind }
  | _, .finished _ _ => { x with slotB := x.slotB.bind }
  | _, _ => x

def Slot.dropSending : Slot → Slot
  | .sending _ => .empty
  | other => other

/-- A SENDING slot becomes EMPTY at the end of its frame (R186). -/
def PortState.dropSending (x : PortState) : PortState :=
  { x with slotA := x.slotA.dropSending, slotB := x.slotB.dropSending }

/-! ### Frames (R183, R185, R188) -/

/-- A frame begins: the status byte is fixed, the marks it shows clear, and the earliest FINISHED slot
is bound (R185, R186). -/
def PortState.beginFrame (x : PortState) (starting : Bool) : PortState :=
  { x.bindEarliest with
    status := x.statusByte starting
    dropped := false
    aborted := false
    restarted := false
    inFrame := true }

/-- The frame in progress; one that nobody began begins here (log 11). -/
def PortState.ensureFrame (x : PortState) (starting : Bool) : PortState :=
  if x.inFrame then x else x.beginFrame starting

/-- A frame's end empties the SENDING slot (R186). -/
def PortState.closeFrame (x : PortState) (starting : Bool) : PortState :=
  { (x.ensureFrame starting).dropSending with inFrame := false }

/-- An aborted frame (R188). -/
def PortState.abortFrame (x : PortState) (starting : Bool) : PortState :=
  { (x.closeFrame starting).countRefusal with aborted := true }

/-! ### The verdict on a request (R187) -/

inductive Verdict
  | refuse (result : Result)
  | clear
  | drop
  | hand (request : Request)
  deriving DecidableEq, Repr

/-- Case 2 of R187. -/
def isClearPort (bytes : List Byte) : Bool :=
  bytes.headD 0 == 0x03 && bytes.getD 1 0 == 0 && frameWhole bytes && frameSumsToZero bytes

/-- Cases 4 to 9 of R187. -/
def judgeRequest (q : Port) (bytes : List Byte) : Verdict :=
  let code := bytes.headD 0
  if 60 < (bytes.getD 1 0).toNat ∨ frameWhole bytes = false then .refuse .badLength
  else if frameSumsToZero bytes = false then .refuse .badCheck
  else if knownCode code = false then .refuse .unknown
  else if inRole q code = false then .refuse .notPermitted
  else
    match parseBody code (frameBody bytes) with
    | none => .refuse .badLength
    | some r => .hand r

/-- The first case of R187 that applies. -/
def PortState.verdict (x : PortState) (starting : Bool) (q : Port) (bytes : List Byte) : Verdict :=
  if starting then .refuse .starting
  else if isClearPort bytes then .clear
  else if x.busy then .drop
  else judgeRequest q bytes

/-! ### Orphans and CLEAR PORT (R189) -/

/-- The build a slot holds. -/
def Slot.builds : Slot → List Build
  | .building b => [b]
  | _ => []

/-- A slot that is not SENDING is emptied (R195). -/
def Slot.keepSending : Slot → Slot
  | .sending r => .sending r
  | _ => .empty

/-- Both slots are emptied but for a SENDING one; the build of a BUILDING slot becomes an orphan; the
dropped and aborted marks clear (R189, R195). -/
def PortState.emptySlots (x : PortState) : PortState :=
  { x with
    slotA := x.slotA.keepSending
    slotB := x.slotB.keepSending
    orphans := x.orphans ++ x.slotA.builds ++ x.slotB.builds
    dropped := false
    aborted := false }

/-- CLEAR PORT: its response goes into slot A (R189; log 44). -/
def PortState.clear (x : PortState) : PortState := x.emptySlots.finishNow false ⟨0x03, .ok, []⟩

/-- The port at restart (R195). -/
def PortState.restart (x : PortState) : PortState :=
  { x.emptySlots with restarted := true }

/-- The effect of a verdict on the port; `sentA` says that the frame has sent slot A (R187). -/
def PortState.apply (x : PortState) (sentA : Bool) (code : Byte) : Verdict → PortState
  | .refuse result => x.refuse sentA code result
  | .clear => x.clear
  | .drop => { x.countRefusal with dropped := true }
  | .hand r => x.place sentA (.building ⟨r, false, none⟩)

/-- The verdict on the request of a frame that ends, judged after its SENDING slot has been emptied
(R187). -/
def PortState.endVerdict (x : PortState) (starting : Bool) (q : Port) (bytes : List Byte) : Verdict :=
  (x.closeFrame starting).verdict starting q bytes

/-- The end of a complete frame (R183, R187); `code` is the code byte that a refusal echoes. -/
def PortState.endFrame (x : PortState) (starting : Bool) (q : Port) (bytes : List Byte) (code : Byte) :
    PortState :=
  (x.closeFrame starting).apply (x.ensureFrame starting).slotA.isSending code
    (x.endVerdict starting q bytes)

/-- A frame that ends hands RESTART on (R187 case 9, R195). -/
def PortState.handsRestart (x : PortState) (starting : Bool) (q : Port) (bytes : List Byte) : Bool :=
  decide (x.endVerdict starting q bytes = .hand .restart)

/-! ### Builds (R186, R187, R189) -/

/-- A request that waits for its owner to take it. -/
def Build.waits (r : Request) (b : Build) : Bool := decide (b.request = r) && !b.taken

/-- Whether a request waits on the port, in an orphan or in a slot. -/
def PortState.waits (x : PortState) (r : Request) : Bool :=
  (x.orphans ++ x.slotA.builds ++ x.slotB.builds).any (Build.waits r)

/-- The first element that meets a condition, changed, kept or removed. -/
def changeFirst {α : Type} (c : α → Bool) (f : α → Option α) : List α → List α
  | [] => []
  | a :: rest => if c a then (f a).toList ++ rest else a :: changeFirst c f rest

/-- A slot's build changed; a build that is removed leaves the slot EMPTY. -/
def Slot.change (c : Build → Bool) (f : Build → Option Build) (slot : Slot) : Slot :=
  match slot with
  | .building b =>
    if c b then
      match f b with
      | some b' => .building b'
      | none => .empty
    else slot
  | _ => slot

/-- The first build that meets a condition, orphans before slots, is changed or removed. -/
def PortState.changeBuild (x : PortState) (c : Build → Bool) (f : Build → Option Build) :
    PortState :=
  if x.orphans.any c then { x with orphans := changeFirst c f x.orphans }
  else if x.slotA.builds.any c then { x with slotA := x.slotA.change c f }
  else { x with slotB := x.slotB.change c f }

/-- What becomes of a build when its owner has decided it (R187, R195, R201). -/
def Build.settle (reply : Reply) (b : Build) : Option Build :=
  match reply with
  | .answer result body => some { b with taken := true, answer := some ⟨b.request.code, result, body⟩ }
  | .later => some { b with taken := true }
  | .removed => none

/-- The owner's reply is entered into the build that waits for it. -/
def PortState.settle (x : PortState) (r : Request) (reply : Reply) : PortState :=
  x.changeBuild (Build.waits r) (Build.settle reply)

/-- A save has ended: the answer of the SAVE SETTINGS that was taken is known (R201). -/
def PortState.answerSave (x : PortState) (body : List Byte) : PortState :=
  x.changeBuild (fun b => decide (b.request = .saveSettings) && b.taken && b.answer.isNone)
    (fun b => some { b with answer := some ⟨b.request.code, .ok, body⟩ })

/-- The slot of a finished build (R187). -/
def Slot.finish (order : Nat) (slot : Slot) : Slot :=
  match slot with
  | .building ⟨_, _, some r⟩ => .finished r order
  | _ => slot

/-- The owner of the request in a BUILDING slot has built its response (R187). -/
def PortState.finishBuild (x : PortState) : PortState :=
  if (x.slotA.builds ++ x.slotB.builds).any fun b => b.answer.isSome then
    { x with
      slotA := x.slotA.finish x.finishCount
      slotB := x.slotB.finish x.finishCount
      finishCount := x.finishCount + 1 }
  else x

/-- The owner of an orphan has built its response, which is discarded (R189). -/
def PortState.discardOrphan (x : PortState) : PortState :=
  { x with orphans := changeFirst (fun b => b.answer.isSome) (fun _ => none) x.orphans }

end Sys2Proof.Machine
end

