-- ==== Sys2Proof/Machine/Shift.lean ====
section
/-! DEFINITION. The Shift Controller (10): schedule, offers, acceptance, the cut, the running summary
and the shift log. -/

namespace Sys2Proof.Machine

/-! ### The schedule (R165, R166) -/

/-- S has reached a station second X (R166). -/
def reached (s x : Second) : Bool := decide ((s - x).toNat ≤ 2147483647)

/-- The later of two seconds, judged as R166 judges a second reached (R170). DESIGN CHOICE (log 56): of
two seconds exactly 2^31 s apart neither has reached the other, and the second argument, the present S or
the cut second, is taken. -/
def laterOf (a b : Second) : Second := if reached a b then a else b

/-- The first configured instant strictly after a station second (R165). -/
def firstInstantAfter (instants : List Nat) (x : Second) : Second :=
  let day := x.toNat - x.toNat % 86400
  match (instants.map fun m => day + 60 * m).find? fun c => decide (x.toNat < c) with
  | some c => BitVec.ofNat 32 c
  | none => BitVec.ofNat 32 (day + 86400 + 60 * instants.headD 0)

def State.instantAfter (s : State) (x : Second) : Second :=
  firstInstantAfter s.settings.working.instants x

/-- A HANDOVER record dated now (R94). -/
def State.noteHandover (s : State) (k : Subkind) (crew : Byte) : State :=
  s.note .handover (datumOf k.code crew.toNat)

def State.modSummary (s : State) (f : Summary → Summary) : State :=
  s.withShift { s.shift with running := s.shift.running.map f }

/-- S has reached next due (R167). -/
def State.fallDue (s : State) : State :=
  let x := s.shift
  let t := s.withShift { x with
    dueStart := some s.tb.runClock
    missedWatch := some (s.instantAfter s.tb.second)
    state := if x.state = .onShift then .due else x.state }
  (t.noteHandover .due x.identity.crew).raiseAll .due

/-- S has reached the missed watch (R169). -/
def State.missInstant (s : State) : State :=
  let t := s.modSummary fun m => { m with missed := satAdd Config.smallCap m.missed 1 }
  let u := t.withShift { t.shift with missedWatch := some (s.instantAfter s.tb.second) }
  (u.noteHandover .missed s.shift.identity.crew).raiseAll .overdue

/-- The evaluation of the schedule, suspended while the class is 7 (R166). -/
def State.evaluateSchedule (s : State) : State :=
  if s.cls = 7 then s
  else
    match s.shift.state, s.shift.dueStart with
    | .onShift, _ => if reached s.tb.second s.shift.identity.nextDue then s.fallDue else s
    | .offered, none => if reached s.tb.second s.shift.identity.nextDue then s.fallDue else s
    | _, _ =>
      match s.shift.missedWatch with
      | some w => if reached s.tb.second w then s.missInstant else s
      | none => s

/-- A step or SET TIME is made known to the Shift Controller: it counts the step and evaluates the
schedule (R166, R178). -/
def State.shiftStepKnown (s : State) : State :=
  (s.modSummary fun m => { m with timeSteps := satAdd Config.smallCap m.timeSteps 1 }).evaluateSchedule

/-- The Shift Controller takes a change of class (R178). -/
def State.shiftSeesClass (s : State) : State :=
  s.modSummary fun m => { m with worstClass := max m.worstClass s.cls }

/-! ### Overdue (R168) -/

/-- The grace has run out; a write of it counts from the next cycle (R168). -/
def State.graceDue (s : State) : Bool :=
  match s.shift.dueStart with
  | some d => s.shift.overdueSince.isNone
      && decide (d + s.settings.atCycle.grace * 60 * Config.second ≤ s.tb.runClock)
  | none => false

/-- The end of the grace (R168). -/
def State.endGrace (s : State) : State :=
  if s.graceDue then
    ((s.withShift { s.shift with overdueSince := some s.tb.runClock }).noteHandover .overdue
      s.shift.identity.crew).raiseAll .overdue
  else s

/-- The overdue time so far (R168, R176). -/
def State.overdueNow (s : State) : Nat :=
  match s.shift.overdueSince with
  | some t => s.tb.runClock - t
  | none => 0

/-- The overdue flag clears; its time is added to the running summary (R168). -/
def State.closeOverdue (s : State) : State :=
  let t := s.modSummary fun m => { m with overdue := m.overdue + s.overdueNow }
  t.withShift { t.shift with overdueSince := none }

/-! ### Offers (R172, R173) -/

/-- The state an offer leaves behind when it is removed (R172). -/
def Shift.withoutOffer (x : Shift) : Shift :=
  { x with offer := none, state := if x.dueStart.isSome then .due else .onShift }

def State.offerDue (s : State) : Bool :=
  match s.shift.offer with
  | some o => decide (o.start + Config.tenMinutes ≤ s.tb.runClock)
  | none => false

/-- An offer lapses 600 s after its start (R172). -/
def State.lapseOffer (s : State) : State :=
  match s.shift.offer with
  | some o =>
    if s.offerDue then (s.withShift s.shift.withoutOffer).noteHandover .lapsed o.crewOut else s
  | none => s

/-! ### Summaries (R176) -/

def SummaryUnit.fresh (inTest : Bool) : SummaryUnit := ⟨PerMode.all 0, 0, 0, 0, inTest⟩

/-- A running summary as it opens (R176). -/
def State.openSummary (s : State) (firstSeq : EventSeq) (isPartial : Bool) : Summary where
  number := s.shift.identity.number
  crewOut := s.shift.identity.crew
  crewIn := 0
  start := s.tb.second
  dueSecond := none
  cutSecond := none
  elapsed := 0
  units := s.shift.units.map fun u => SummaryUnit.fresh u.inTest
  firstSeq := firstSeq
  lastSeq := none
  worstClass := s.cls
  timeSteps := 0
  missed := 0
  overdue := 0
  closedFiles := none
  journalAtCut := none
  isPartial := isPartial

/-- One millisecond of the running summary (R177). -/
def Summary.countMillisecond (units : Table 6 ShiftUnit) (m : Summary) : Summary :=
  { m with
    elapsed := m.elapsed + 1
    units := m.units.mapIdx fun u x =>
      { x with
        buckets := match (units.get u).counted with
          | some k => x.buckets.set k (x.buckets.get k + 1)
          | none => x.buckets
        testTime := if x.inTest then x.testTime + 1 else x.testTime } }

def State.summaryMillisecond (s : State) : State :=
  s.modSummary (Summary.countMillisecond s.shift.units)

def State.modSummaryUnit (s : State) (u : UnitId) (f : SummaryUnit → SummaryUnit) : State :=
  s.modSummary fun m => { m with units := m.units.modify u f }

/-- The Mode Detector hands a settled mode, with a start when the change is one (R177, R178). -/
def State.shiftTakesMode (s : State) (u : UnitId) (k : Mode) (start : Bool) : State :=
  let t := s.withShift { s.shift with
    units := s.shift.units.modify u fun x => { x with counted := some k } }
  if start then t.modSummaryUnit u fun x => { x with starts := satAdd Config.smallCap x.starts 1 }
  else t

/-- A trip handed by the Trip File Table (R178). -/
def State.shiftTakesTrip (s : State) (u : UnitId) : State :=
  s.modSummaryUnit u fun x => { x with trips := satAdd Config.smallCap x.trips 1 }

/-- A test of a unit starts or ends (R177). -/
def State.shiftTakesTest (s : State) (u : UnitId) (inTest : Bool) : State :=
  let t := s.withShift { s.shift with
    units := s.shift.units.modify u fun x => { x with inTest := inTest } }
  t.modSummaryUnit u fun x => { x with inTest := inTest }

/-! ### The crews' requests (R170 to R175) -/

/-- The due start, overdue since and missed watch are removed (R167, R170, R175). -/
def Shift.clearDue (x : Shift) : Shift :=
  { x with dueStart := none, overdueSince := none, missedWatch := none }

/-- TAKE SHIFT (R170). The present S is S as it stands, with a second boundary that the present cycle has
brought and the blocks have not acted on yet (log 48). -/
def State.takeShift (s : State) (crew : Byte) : Decision :=
  if crew = 0 then s.refuse .badValue
  else if s.shift.identity.crew ≠ 0 ∨ s.shift.state = .offered then s.refuse .wrongState
  else
    let t := s.closeOverdue
    let u := t.withShift { t.shift.clearDue with
      identity := { t.shift.identity with
        crew := crew
        start := s.tb.second
        nextDue := s.instantAfter (laterOf s.shift.identity.nextDue s.tb.second) }
      state := .onShift }
    ((u.modSummary fun m => { m with crewOut := crew }).noteHandover .taken crew).ok

/-- S as the schedule has been evaluated with it: a second boundary that the present cycle has brought
and the blocks have not acted on yet is not in it (R166, R171). -/
def State.evaluatedSecond (s : State) : Second :=
  if s.due.second then s.tb.second - 1 else s.tb.second

/-- HAND OVER passes the state step; taken ahead of the second boundary of its cycle, it is judged
ahead of it (R171). -/
def State.handOverAllowed (s : State) : Bool :=
  match s.shift.state with
  | .due => true
  | .offered => false
  | .onShift =>
    let ahead := (s.shift.identity.nextDue - s.evaluatedSecond).toNat
    decide (s.cls ≠ 7 ∧ 1 ≤ ahead ∧ ahead ≤ 60 * s.settings.working.earlyMargin)

/-- HAND OVER (R171). -/
def State.handOver (s : State) (crew : Byte) : Decision :=
  if crew = 0 then s.refuse .badValue
  else if s.handOverAllowed = false then s.refuse .wrongState
  else if crew ≠ s.shift.identity.crew then s.refuse .wrongCrew
  else
    ((s.withShift { s.shift with
      offer := some ⟨crew, s.tb.runClock⟩
      state := .offered }).noteHandover .offered crew).ok

/-- WITHDRAW (R173). -/
def State.withdraw (s : State) : Decision :=
  match s.shift.state, s.shift.offer with
  | .offered, some o =>
    ((s.withShift s.shift.withoutOffer).noteHandover .withdrawn o.crewOut).ok
  | _, _ => s.refuse .wrongState

/-- The slots of the CLOSED files, in rising order (R175 step 2). -/
def State.closedSlots (s : State) : List SlotId :=
  allSlots.filter fun i =>
    match s.trips.slots.get i with
    | some f => decide (f.state = .closed)
    | none => false

/-- The running summary as the cut closes it (R175 step 2). -/
def State.closeSummary (s : State) (crewIn : Byte) (m : Summary) : Summary :=
  { m with
    crewIn := crewIn
    cutSecond := some s.tb.second
    dueSecond := some s.shift.identity.nextDue
    lastSeq := some (s.ring.next - 1)
    closedFiles := some s.closedSlots
    journalAtCut := some s.journal.state }

/-- The log with a summary appended, the oldest of twelve removed first (R179). -/
def appendLog (log : List Summary) (m : Option Summary) : List Summary :=
  match m with
  | some m => (if log.length < Config.logSize then log else log.drop 1) ++ [m]
  | none => log

/-- The cut (R175), in the order of its steps. The present S is S as it stands, with a second boundary
that the present cycle has brought and the blocks have not acted on yet (log 48). -/
def State.cutShift (s : State) (crewIn : Byte) : State :=
  let s1 := s.closeOverdue
  let closed := s1.shift.running.map (s1.closeSummary crewIn)
  let identity : ShiftIdentity :=
    { number := s1.shift.identity.number + 1
      crew := crewIn
      start := s1.tb.second
      nextDue := s1.instantAfter (laterOf s1.shift.identity.nextDue s1.tb.second) }
  let s2 := s1.withShift { s1.shift.clearDue with
    log := appendLog s1.shift.log closed
    identity := identity
    state := .onShift
    offer := none }
  let s3 := s2.withShift { s2.shift with running := some (s2.openSummary s2.ring.next false) }
  (s3.noteHandover .cut crewIn).requestCheckpoint .cut

/-- ACCEPT (R174). -/
def State.accept (s : State) (crew : Byte) : Decision :=
  if crew = 0 then s.refuse .badValue
  else
    match s.shift.state, s.shift.offer with
    | .offered, some o =>
      if crew = o.crewOut then s.refuse .wrongCrew else (s.cutShift crew).ok
    | _, _ => s.refuse .wrongState

end Sys2Proof.Machine
end

