-- ==== Sys2Proof/Machine/Tallies.lean ====
section
/-! DEFINITION. The Tally Unit (08): tallies, counts, last trips, permits, presets and the lock. -/

namespace Sys2Proof.Machine

def State.tallyOf (s : State) (u : UnitId) : UnitTally := s.tally.units.get u

/-! ### Counting time (R131, R132) -/

/-- One millisecond of a unit's counted mode (R131). -/
def UnitTally.countMillisecond (x : UnitTally) : UnitTally :=
  match x.counted with
  | none => x
  | some k =>
    let t := satAdd Config.tallyCap (x.tallies.get k) 1
    { x with
      tallies := x.tallies.set k t
      saturated := x.saturated.set k (x.saturated.get k || t == Config.tallyCap) }

/-- The tallies and the running summary count one millisecond (R3, R131, R177). -/
def State.millisecondBoundary (s : State) : State :=
  if s.due.millisecond then
    let t := s.withDue { s.due with millisecond := false }
    ({ t with
      tally := { t.tally with units := t.tally.units.map UnitTally.countMillisecond }
    }).summaryMillisecond
  else s

/-! ### Counts (R134 to R137) -/

/-- A count and whether it rises: it stays at its cap (R134). -/
def State.noteRise (s : State) (count : Nat) : State :=
  if count < Config.countCap then s.countRose else s

/-- The Mode Detector hands a settled mode, with a start when the change is one (R132, R134, R135). -/
def State.tallyTakesMode (s : State) (u : UnitId) (k : Mode) (start : Bool) : State :=
  let x := s.tallyOf u
  if start then
    (s.setTally u { x with
      counted := some k
      starts := satAdd Config.countCap x.starts 1 }).noteRise x.starts
  else s.setTally u { x with counted := some k }

/-- The Mode Detector hands a breaker closing (R135). -/
def State.tallyTakesClosing (s : State) (u : UnitId) : State :=
  let x := s.tallyOf u
  (s.setTally u { x with closings := satAdd Config.countCap x.closings 1 }).noteRise x.closings

/-- The Trip File Table hands a trip (R136). -/
def State.tallyTakesTrip (s : State) (u : UnitId) (second : Second) (cls : Nat) : State :=
  let x := s.tallyOf u
  (s.setTally u { x with
    trips := satAdd Config.countCap x.trips 1
    lastTrip := some ⟨second, cls, none⟩ }).noteRise x.trips

/-- The Trip File Table hands the first-out of a file that closes without TEST (R137). -/
def State.tallyTakesFirstOut (s : State) (u : UnitId) (line : Option LineId) : State :=
  let x := s.tallyOf u
  s.setTally u { x with lastTrip := x.lastTrip.map fun l => { l with firstOut := line } }

/-! ### Permits (R138, R139) -/

/-- A permit is valid while less than ten minutes have passed since its grant (R139). -/
def permitValid (grant now : Nat) : Bool := decide (now < grant + Config.tenMinutes)

def State.permitLapseDue (s : State) (u : UnitId) : Bool :=
  match (s.tallyOf u).permit with
  | some grant => !permitValid grant s.tb.runClock
  | none => false

/-- A permit lapses (R139). -/
def State.lapsePermit (s : State) (u : UnitId) : State :=
  if s.permitLapseDue u then s.setTally u { s.tallyOf u with permit := none } else s

/-- PERMIT PRESET (R138): answered with the permit's life, 600 s. A unit outside 1 to 6 is refused with
BAD_VALUE even while the lock of R143 is set (log 46). -/
def State.permitPreset (s : State) (unit : Byte) : Decision :=
  match unitNamed unit with
  | none => s.refuse .badValue
  | some u =>
    if s.tally.locked then s.refuse .locked
    else (s.setTally u { s.tallyOf u with permit := some s.tb.runClock }).gives (leftBytes 600)

/-! ### Presets (R140, R141, R143) -/

def TallyBody.inRange (t : TallyBody) : Bool :=
  decide (t.hours.toNat ≤ 999999 ∧ t.millis.toNat ≤ 3599999)

/-- The tally that hours and milliseconds name (R133, R141). -/
def TallyBody.value (t : TallyBody) : Nat := t.hours.toNat * 3600000 + t.millis.toNat

/-- Condition 2 of R140. -/
def PresetBody.inRange (b : PresetBody) : Bool :=
  TallyBody.inRange b.spin && TallyBody.inRange b.gen && TallyBody.inRange b.pump
    && TallyBody.inRange b.cond
    && decide (b.starts.toNat ≤ Config.countCap ∧ b.trips.toNat ≤ Config.countCap
      ∧ b.closings.toNat ≤ Config.countCap)

/-- A permit stands; one whose lapse falls into the present cycle stands until PERMIT_LAPSE removes it
(R139, R140 condition 5). -/
def State.permitted (s : State) (u : UnitId) : Bool := (s.tallyOf u).permit.isSome

/-- The unit's values after an accepted preset (R141). -/
def UnitTally.preset (x : UnitTally) (b : PresetBody) : UnitTally :=
  let v : PerMode Nat :=
    ⟨x.tallies.stand, TallyBody.value b.spin, TallyBody.value b.gen, TallyBody.value b.pump,
      TallyBody.value b.cond⟩
  { x with
    tallies := v
    saturated := (v.map fun t => t == Config.tallyCap).set .stand x.saturated.stand
    starts := b.starts.toNat
    trips := b.trips.toNat
    closings := b.closings.toNat
    permit := none }

/-- PRESET TALLY: the conditions of R140 in their order, then the effects of R141. -/
def State.presetTally (s : State) (b : PresetBody) : Decision :=
  match unitNamed b.unit with
  | none => s.refuse .badValue
  | some u =>
    if PresetBody.inRange b = false then s.refuse .badValue
    else if s.tally.locked then s.refuse .locked
    else if s.journal.state = .failed then s.refuse .journalFailed
    else if s.permitted u = false then s.refuse .notPermitted
    else if (s.modes.get u).settled ≠ some .stand then s.refuse .wrongState
    else
      let t := s.setTally u ((s.tallyOf u).preset b)
      ((t.noteUnit .preset u t.reading ((unitByte u).setWidth 16) false).requestCheckpoint .preset).ok

/-- Presets are locked and every permit is removed (R143). -/
def TallyUnit.lock (x : TallyUnit) : TallyUnit where
  units := x.units.map fun y => { y with permit := none }
  locked := true

/-- LOCK PRESETS (R143). -/
def State.lockPresets (s : State) : Decision :=
  if s.tally.locked then s.ok
  else (({ s with tally := s.tally.lock }).note .preset 0).ok

end Sys2Proof.Machine
end

