-- ==== Sys2Proof/Machine/Trips.lean ====
section
/-! DEFINITION. The Trip File Table (07): opening, filling, closing, acknowledging and clearing. -/

namespace Sys2Proof.Machine

/-- What the Line Scanner hands on for an accepted change (07, 7.2; R66). -/
structure Change where
  line : LineId
  operate : Bool
  stamp : Stamp
  deriving DecidableEq, Repr

def State.file (s : State) (i : SlotId) : Option TripFile := s.trips.slots.get i

def State.modFile (s : State) (i : SlotId) (f : TripFile → TripFile) : State :=
  s.setSlot i ((s.file i).map f)

/-! ### Choosing a slot (R113, R114) -/

/-- The slot of a unit's OPEN file. -/
def State.openSlot (s : State) (u : UnitId) : Option SlotId :=
  s.trips.order.find? fun i =>
    match s.file i with
    | some f => decide (f.unit = u)
    | none => false

/-- The FREE slot with the lowest number (R114). -/
def State.freeSlot (s : State) : Option SlotId := allSlots.find? fun i => (s.file i).isNone

/-- The older of two candidates for reuse: the lower trip run clock, then the lower slot (R114). -/
def olderFile (best : Option (SlotId × Nat)) (i : SlotId) (f : Option TripFile) :
    Option (SlotId × Nat) :=
  match f with
  | some f =>
    if f.state = .acknowledged then
      match best with
      | none => some (i, f.runClock)
      | some b => if f.runClock < b.2 then some (i, f.runClock) else some b
    else best
  | none => best

/-- The ACKNOWLEDGED slot whose file's trip came first (R114). -/
def State.reusableSlot (s : State) : Option SlotId :=
  (allSlots.foldl (fun best i => olderFile best i (s.file i)) none).map Prod.fst

/-! ### Opening (R115 to R117) -/

/-- The unit of the OPEN file that stands first in the opening order (R116). -/
def State.precedingUnit (s : State) : Option UnitId :=
  match s.trips.order with
  | [] => none
  | i :: _ => (s.file i).map TripFile.unit

/-- The contents of a file opened now (R115). -/
def State.newFile (s : State) (u : UnitId) (t : Stamp) : TripFile where
  state := .opened
  unit := u
  second := t.second
  micros := t.micros
  runClock := t.runClock
  cls := t.cls
  test := s.inTest u
  cut := false
  breakerClosed := (s.lines.tab.get (lineOf u 1)).filtered
  modeBefore := (s.modes.get u).settled
  genTally := (s.tallyOf u).tallies.gen
  pumpTally := (s.tallyOf u).tallies.pump
  windowEnd := t.runClock + s.settings.working.tripWindow * 1000000
  lookback := s.settings.working.lookback
  operates := []
  overflow := 0
  firstOut := none
  ambiguous := false
  breakerOpen := none
  precededBy := s.precedingUnit

/-- The slot takes the new file and enters the opening order (R115). -/
def State.openFile (s : State) (i : SlotId) (u : UnitId) (t : Stamp) : State :=
  let v := s.setSlot i (some (s.newFile u t))
  v.withTrips { v.trips with order := v.trips.order ++ [i] }

/-- A file opens in a FREE slot, or in the oldest ACKNOWLEDGED one with the FILE notice, or not at all
(R114); the slot taken is given beside the state. -/
def State.openSomeFile (s : State) (u : UnitId) (t : Stamp) : State × Option SlotId :=
  match s.freeSlot with
  | some i => (s.openFile i u t, some i)
  | none =>
    match s.reusableSlot with
    | some i => ((s.openFile i u t).raiseAll .file, some i)
    | none => (s, none)

/-- A slot as a datum, 0xFF for none (R117). -/
def slotDatum (i : Option SlotId) : BitVec 16 :=
  match i with
  | some i => BitVec.ofNat 16 i.val
  | none => 0x00FF

/-- A counted trip goes to the Tally Unit and the Shift Controller (R117). -/
def State.countTrip (s : State) (u : UnitId) (t : Stamp) (test : Bool) : State :=
  if test then s else (s.tallyTakesTrip u t.second t.cls).shiftTakesTrip u

/-- A trip: file, record, notice, hand-offs, checkpoint, in the order of R117. -/
def State.trip (s : State) (u : UnitId) (t : Stamp) : State :=
  let o := s.openSomeFile u t
  let r := (o.1.noteUnit .trip u t (slotDatum o.2) (s.inTest u)).raiseAll .trip
  let c := r.countTrip u t (s.inTest u)
  if o.2.isSome then c.requestCheckpoint .trip else c

/-! ### Filling (R118 to R121) -/

/-- The offset in µs of an entry from the trip, rounded toward zero (R118). -/
def TripFile.offsetOf (f : TripFile) (runClock : Nat) : Int :=
  ((runClock : Int) - f.runClock).tdiv 1000

/-- An operate or release began no earlier than the lookback before the trip (R118, R121). -/
def TripFile.admits (f : TripFile) (runClock : Nat) : Bool :=
  decide (f.runClock ≤ runClock + f.lookback * 1000000)

/-- Entry `a` comes before entry `b`, which was offered earlier (R119). -/
def Operate.before (a b : Operate) : Bool :=
  decide (a.runClock < b.runClock ∨ (a.runClock = b.runClock ∧ a.line < b.line))

/-- An entry in its place, after the entries that do not come after it (R119). -/
def insertOperate (e : Operate) : List Operate → List Operate
  | [] => [e]
  | x :: rest => if e.before x then e :: x :: rest else x :: insertOperate e rest

/-- The list keeps the 16 earliest entries; each entry lost is counted (R119). -/
def TripFile.list (f : TripFile) (e : Operate) : TripFile :=
  let all := insertOperate e f.operates
  if all.length ≤ Config.listSize then { f with operates := all }
  else { f with
    operates := all.take Config.listSize
    overflow := satAdd Config.smallCap f.overflow 1 }

/-- The lowest line of some lines. -/
def lowestLine (xs : List LineId) : Option LineId :=
  xs.foldl (fun best l =>
    match best with
    | none => some l
    | some b => if l < b then some l else some b) none

/-- The TRIP_CAUSE lines at the earliest place of the list; the fast entries are repeats (R120). -/
def TripFile.firstCauses (f : TripFile) : List LineId :=
  match f.operates with
  | [] => []
  | first :: _ =>
    (f.operates.filter fun e => decide (e.runClock = first.runClock) && e.scanned).map Operate.line

/-- The first-out found afresh (R120). -/
def TripFile.findFirstOut (f : TripFile) : TripFile :=
  { f with
    firstOut := lowestLine f.firstCauses
    ambiguous := f.firstCauses.any fun l => decide (some l ≠ lowestLine f.firstCauses) }

/-- An operate is offered to an OPEN file (R118). -/
def TripFile.offer (f : TripFile) (c : Change) : TripFile :=
  if f.admits c.stamp.runClock then
    (f.list ⟨c.line, f.offsetOf c.stamp.runClock, LineId.scanned c.line,
      c.stamp.runClock⟩).findFirstOut
  else f

/-- A BREAKER release reaches an OPEN file (R121). -/
def TripFile.noteRelease (f : TripFile) (runClock : Nat) : TripFile :=
  if f.breakerOpen.isNone && f.admits runClock then
    { f with breakerOpen := some (f.offsetOf runClock) }
  else f

/-- What the table does with a change handed to it, by the line's role (R113, R118, R121). -/
def State.tripsTake (s : State) (role : Role) (c : Change) : State :=
  let u := LineId.unit c.line
  match role, c.operate, s.openSlot u with
  | .masterTrip, true, none => s.trip u c.stamp
  | .masterTrip, true, some i => s.modFile i fun f => f.offer c
  | .tripCause, true, some i => s.modFile i fun f => f.offer c
  | .breaker, false, some i => s.modFile i fun f => f.noteRelease c.stamp.runClock
  | _, _, _ => s

/-! ### Closing (R122, R123, R130) -/

/-- The file as it stands after its close (R122, R130). -/
def TripFile.closed (f : TripFile) (cut : Bool) : TripFile :=
  { f with
    state := if f.test then .acknowledged else .closed
    cut := cut }

/-- A close by window end or cut: the slot leaves the opening order, FILE_CLOSED is appended, FILE is
raised, and a counted trip's first-out is handed on (R122, R130). -/
def State.closeFile (s : State) (i : SlotId) (f : TripFile) (cut : Bool) : State :=
  let v := s.setSlot i (some (f.closed cut))
  let t := v.withTrips { v.trips with order := v.trips.order.filter fun j => decide (j ≠ i) }
  let w := (t.noteUnit .fileClosed f.unit t.reading (slotDatum (some i)) f.test).raiseAll .file
  if f.test then w else w.tallyTakesFirstOut f.unit f.firstOut

/-- The conditions of BREAKER_FAIL (R123). -/
def TripFile.breakerFailed (f : TripFile) : Bool :=
  !f.test && f.breakerClosed && f.breakerOpen.isNone

def State.judgeBreaker (s : State) (i : SlotId) (f : TripFile) : State :=
  if f.breakerFailed then
    (s.noteUnit .breakerFail f.unit s.reading (slotDatum (some i)) false).raiseAll .trip
  else s

/-- The slot holds an OPEN file whose window end the run clock has reached (R122). -/
def State.windowEndDue (s : State) (i : SlotId) : Bool :=
  match s.file i with
  | some f => decide (f.state = .opened ∧ f.windowEnd ≤ s.tb.runClock)
  | none => false

/-- The window end of a slot's file (R122, R123). -/
def State.windowEnd (s : State) (i : SlotId) : State :=
  match s.file i with
  | some f => if s.windowEndDue i then (s.closeFile i f false).judgeBreaker i f else s
  | none => s

/-- The cut of one OPEN file (R130). -/
def State.cutFile (s : State) (i : SlotId) : State :=
  match s.file i with
  | some f => if f.state = .opened then s.closeFile i f true else s
  | none => s

/-- The table at restart: every OPEN file is cut, in the opening order (R130). -/
def State.restartTrips (s : State) : State := s.forEach s.trips.order fun i t => t.cutFile i

/-! ### Acknowledging and clearing (R124, R125) -/

/-- The slot's file is in a state and its trip second is the one named (R124, R125). -/
def State.fileMatches (s : State) (i : SlotId) (st : FileState) (second : Second) : Bool :=
  match s.file i with
  | some f => decide (f.state = st ∧ f.second = second)
  | none => false

/-- ACKNOWLEDGE TRIP FILE (R124). -/
def State.acknowledgeTripFile (s : State) (slot : Byte) (second : Second) : Decision :=
  match slotNamed slot with
  | none => s.refuse .badValue
  | some i =>
    if s.fileMatches i .closed second then
      ((s.modFile i fun f => { f with state := .acknowledged }).raiseAll .file).ok
    else s.refuse .wrongState

/-- CLEAR TRIP FILE (R125). -/
def State.clearTripFile (s : State) (slot : Byte) (second : Second) : Decision :=
  match slotNamed slot with
  | none => s.refuse .badValue
  | some i =>
    if s.fileMatches i .acknowledged second then ((s.setSlot i none).raiseAll .file).ok
    else s.refuse .wrongState

end Sys2Proof.Machine
end

