-- ==== Sys2Proof/Machine/Modes.lean ====
section
/-! DEFINITION. The Mode Detector (05): mode levels, derivation, settling, test and the baseline. -/

namespace Sys2Proof.Machine

def State.modeOf (s : State) (u : UnitId) : UnitMode := s.modes.get u

/-! ### Deriving the mode (R78) -/

/-- The four levels a mode is derived from. -/
inductive LevelName
  | running | breaker | pump | condenser
  deriving DecidableEq, Repr

/-- The mode level a line's role concerns (R66, R78). -/
def levelOfRole : Role → Option LevelName
  | .running => some .running
  | .breaker => some .breaker
  | .pump => some .pump
  | .condenser => some .condenser
  | .tripCause | .event | .spare | .masterTrip => none

def ModeLevels.get (x : ModeLevels) : LevelName → Bool
  | .running => x.running
  | .breaker => x.breaker
  | .pump => x.pump
  | .condenser => x.condenser

def ModeLevels.set (x : ModeLevels) (k : LevelName) (active : Bool) : ModeLevels :=
  match k with
  | .running => { x with running := active }
  | .breaker => { x with breaker := active }
  | .pump => { x with pump := active }
  | .condenser => { x with condenser := active }

/-- The table of R78, first row that applies. -/
def ModeLevels.derived (x : ModeLevels) : Mode :=
  if x.running = false then .stand
  else if x.breaker = false then .spin
  else if x.condenser then .cond
  else if x.pump then .pump
  else .gen

/-! ### Settling (R80 to R82) -/

/-- A candidate has stood for the settle time of some settings. -/
def Candidate.stood (c : Candidate) (w : Settings) (now : Nat) : Bool :=
  decide (c.start.runClock + w.settleTime * 1000000 ≤ now)

/-- A standing candidate has reached its settle time; an end that a write has moved behind the present
cycle is reached at the next one (R80; log 37). -/
def State.settlingDue (s : State) (u : UnitId) : Bool :=
  match (s.modeOf u).candidate with
  | some c => c.stood s.settings.working s.tb.runClock && c.stood s.settings.atCycle s.tb.runClock
  | none => false

/-- A settling (R81), with the start of R82. -/
def State.settleOn (s : State) (u : UnitId) (c : Candidate) : State :=
  let x := s.modeOf u
  let start := decide (x.settled = some .stand ∧ c.mode ≠ .stand)
  let t := s.setMode u { x with settled := some c.mode, since := some c.start, candidate := none }
  let r := t.noteUnit .mode u c.start (datumOf (modeCode x.settled) c.mode.code) false
  (r.tallyTakesMode u c.mode start).shiftTakesMode u c.mode start

/-- A unit's candidate settles when it is due (R80, R81). -/
def State.settle (s : State) (u : UnitId) : State :=
  match (s.modeOf u).candidate with
  | some c => if s.settlingDue u then s.settleOn u c else s
  | none => s

/-! ### Candidates (R79) -/

/-- The candidate after a derivation (R79). -/
def nextCandidate (settled : Option Mode) (old : Option Candidate) (derived : Mode) (start : Stamp) :
    Option Candidate :=
  if settled = some derived then none
  else
    match old with
    | some c => if c.mode = derived then some c else some ⟨derived, start⟩
    | none => some ⟨derived, start⟩

/-- A candidate formed now settles at once when its settle time has already passed (R80). -/
def State.settleFormed (s : State) (u : UnitId) : State :=
  match (s.modeOf u).candidate with
  | some c => if c.stood s.settings.working s.tb.runClock then s.settleOn u c else s
  | none => s

/-- A derivation outside test, and a settling at once when it is due at that moment (R79, R80). A candidate
that the derivation keeps and that is due in this very cycle settles here, before any further hand-off of the
scan (the model's choice, log 54). -/
def State.derive (s : State) (u : UnitId) (start : Stamp) : State :=
  let x := s.modeOf u
  let c := nextCandidate x.settled x.candidate x.levels.derived start
  let t := s.setMode u { x with candidate := c }
  if c = x.candidate then t.settle u else t.settleFormed u

/-- A mode level handed by the Line Scanner (R78, R83, R85). -/
def State.handLevel (s : State) (u : UnitId) (k : LevelName) (active : Bool) (stamp : Stamp) :
    State :=
  let x := s.modeOf u
  let closing := decide (k = .breaker) && !x.levels.breaker && active
  let stored := { x with levels := x.levels.set k active }
  if x.test.isSome then s.setMode u stored
  else ((if closing then s.tallyTakesClosing u else s).setMode u stored).derive u stamp

/-! ### Test (R84 to R87) -/

/-- SET TEST (R84). -/
def State.setTest (s : State) (unit : Byte) : Decision :=
  match unitNamed unit with
  | none => s.refuse .badValue
  | some u =>
    if s.inTest u then s.refuse .wrongState
    else
      let r := s.reading
      let deadline := r.runClock + s.settings.working.testLength * 3600 * Config.second
      let t := s.setMode u { s.modeOf u with candidate := none, test := some ⟨r, deadline⟩ }
      ((t.noteUnit .testOn u r ((unitByte u).setWidth 16) true).shiftTakesTest u true).ok

/-- A test ends: TEST_OFF with 0, 1 or 2 in its high byte, and the hand-off (R86). -/
def State.closeTest (s : State) (u : UnitId) (how : Nat) : State :=
  let t := s.setMode u { s.modeOf u with test := none }
  (t.noteUnit .testOff u s.reading (datumOf how (u.val + 1)) false).shiftTakesTest u false

/-- END TEST (R86). -/
def State.endTest (s : State) (unit : Byte) : Decision :=
  match unitNamed unit with
  | none => s.refuse .badValue
  | some u =>
    if s.inTest u then ((s.closeTest u 0).derive u s.reading).ok else s.refuse .wrongState

def State.testExpiryDue (s : State) (u : UnitId) : Bool :=
  match (s.modeOf u).test with
  | some t => decide (t.deadline ≤ s.tb.runClock)
  | none => false

/-- A test expires (R87). -/
def State.expireTest (s : State) (u : UnitId) : State :=
  if s.testExpiryDue u then ((s.closeTest u 1).raiseAll .test).derive u s.reading else s

/-! ### Baseline and restart (R91, R92) -/

/-- The baseline levels of a unit: the mode derived from them is settled at once, unless the unit is
in test (R91, R92). -/
def State.baselineUnit (s : State) (u : UnitId) (levels : ModeLevels) : State :=
  let x := s.modeOf u
  if x.test.isSome then s.setMode u { x with levels := levels }
  else
    let m := levels.derived
    let t := s.setMode u { x with
      levels := levels
      settled := some m
      since := some s.reading
      candidate := none }
    (t.tallyTakesMode u m false).shiftTakesMode u m false

/-- One unit at restart (R92). Its mode levels stay as they are until the baseline, those of a line
that the reloaded plan no longer has included (R78; log 41). -/
def State.restartUnit (s : State) (u : UnitId) : State :=
  let t := if s.inTest u then s.closeTest u 2 else s
  t.setMode u { t.modeOf u with candidate := none }

/-- The Mode Detector at restart (R92). -/
def State.restartModes (s : State) : State := s.forEach allUnits fun u t => t.restartUnit u

end Sys2Proof.Machine
end

