-- ==== Sys2Proof/Machine/Lines.lean ====
section
/-! DEFINITION. The Line Scanner (04): edges, scans, debounce, accepted changes, chatter, baseline. -/

namespace Sys2Proof.Machine

def State.line (s : State) (l : LineId) : Line := s.lines.tab.get l

/-- The logical level of a pin level (R60). -/
def Line.logical (x : Line) (high : Bool) : Bool := high != x.inverted

/-- The level the Mode Detector is given: filtered, or held while CHATTERING (R66). -/
def Line.modeLevel (x : Line) : Bool :=
  match x.chatter with
  | .chattering held _ => held
  | _ => x.filtered

/-- The Line Scanner watches its lines: after the baseline, until the next start (R75 to R77). -/
def State.scanning (s : State) : Bool :=
  decide (s.phase = .running) && !s.lines.awaiting

/-! ### Accepted changes (R65, R66) -/

/-- A LINE_ON or LINE_OFF record (R65, R72). -/
def State.noteLevel (s : State) (l : LineId) (active : Bool) (t : Stamp) (scanned derived : Bool) :
    State :=
  let e : Entry :=
    { kind := if active then .lineOn else .lineOff
      field := BitVec.ofNat 8 l.val
      stamp := t
      datum := 0
      test := s.inTest (LineId.unit l)
      scanned := scanned
      derived := derived }
  (s.setLine l { s.line l with lastRecorded := active }).append e

/-- A CHATTER_ON or CHATTER_OFF record (R71, R72). -/
def State.noteChatter (s : State) (l : LineId) (kind : Kind) (t : Stamp) (datum : Nat)
    (scanned : Bool) : State :=
  s.append
    { kind := kind
      field := BitVec.ofNat 8 l.val
      stamp := t
      datum := BitVec.ofNat 16 datum
      test := s.inTest (LineId.unit l)
      scanned := scanned }

/-- A line's mode level goes to the Mode Detector when its role has one (R66). -/
def State.handModeLevel (s : State) (l : LineId) (active : Bool) (t : Stamp) : State :=
  match levelOfRole (s.line l).role with
  | some k => s.handLevel (LineId.unit l) k active t
  | none => s

/-- The record of an accepted change, then the Trip File Table, then the Mode Detector (R65, R66). -/
def State.passOn (s : State) (l : LineId) (active : Bool) (t : Stamp) : State :=
  let r := s.noteLevel l active t (LineId.scanned l) false
  (r.tripsTake (s.line l).role ⟨l, active, t⟩).handModeLevel l active t

/-! ### Chatter (R70 to R72) -/

/-- Chatter detection runs on scanned lines of every role but SPARE (R67, 4.6). -/
def State.chatterRuns (s : State) (l : LineId) : Bool :=
  LineId.scanned l && decide ((s.line l).role ≠ .spare)

/-- The length of the chatter window in ns; a write counts from the next cycle (R73). -/
def State.chatterSpan (s : State) : Nat := s.settings.atCycle.chatterWindow * Config.second

/-- The chatter state with one more accepted change counted: an ended window opens anew (R70). -/
def countChange (span now : Nat) (before : Bool) (c : Chatter) : Chatter :=
  match c with
  | .counting start base n =>
    if start + span < now then .counting now before 1 else .counting start base (n + 1)
  | .quiet => .counting now before 1
  | .chattering held q => .chattering held q

/-- The line becomes CHATTERING (R71); the held level handed on carries the change's date (log 31). -/
def State.beginChatter (s : State) (l : LineId) (base : Bool) (t : Stamp) : State :=
  let r := s.noteChatter l .chatterOn t 0 true
  let h := r.setLine l { r.line l with
    chatter := .chattering base s.tb.runClock
    suppressed := 0 }
  if base = (h.line l).filtered then h else h.handModeLevel l base t

/-- A change is counted, and the count compared with the chatter limit (R70, R71). -/
def State.countChatter (s : State) (l : LineId) (active : Bool) (t : Stamp) : State :=
  let c := countChange s.chatterSpan s.tb.runClock (!active) (s.line l).chatter
  let r := s.setLine l { s.line l with chatter := c }
  match c with
  | .counting _ base n =>
    if s.settings.working.chatterLimit ≤ n then r.beginChatter l base t else r
  | _ => r

/-- An accepted change of a CHATTERING line (R72). -/
def Line.suppress (x : Line) (held : Bool) (now : Nat) : Line :=
  { x with
    chatter := .chattering held now
    suppressed := satAdd Config.smallCap x.suppressed 1 }

/-- A change has been accepted, its new level filtered already (R65 to R67, R70 to R72). -/
def State.acceptChange (s : State) (l : LineId) (active : Bool) (t : Stamp) : State :=
  let x := s.line l
  if x.role = .spare then s
  else
    match x.chatter with
    | .chattering held _ => s.setLine l (x.suppress held s.tb.runClock)
    | _ =>
      let p := s.passOn l active t
      if s.chatterRuns l then p.countChatter l active t else p

/-- A pending change is accepted or cancelled: the line is STABLE (R62, R64). -/
def State.resolve (s : State) (l : LineId) (c : PendingChange) : State :=
  let x := s.line l
  if c.atPending then
    (s.setLine l { x with filtered := !x.filtered, pend := none }).acceptChange l (!x.filtered) c.stamp
  else s.setLine l { x with pend := none }

/-- The window of a COUNTING line has passed (R70). -/
def State.chatterWindowDue (s : State) (l : LineId) : Bool :=
  match (s.line l).chatter with
  | .counting start _ _ => decide (start + s.chatterSpan < s.tb.runClock)
  | _ => false

def State.closeChatterWindow (s : State) (l : LineId) : State :=
  if s.chatterWindowDue l then s.setLine l { s.line l with chatter := .quiet } else s

/-- A CHATTERING line has been quiet for one window (R72). -/
def State.chatterOffDue (s : State) (l : LineId) : Bool :=
  match (s.line l).chatter with
  | .chattering _ q => decide (q + s.chatterSpan ≤ s.tb.runClock)
  | _ => false

/-- The line leaves CHATTERING (R72). -/
def State.leaveChatter (s : State) (l : LineId) : State :=
  let x := s.line l
  let c := s.noteChatter l .chatterOff s.reading x.suppressed false
  let d := if x.filtered = x.lastRecorded then c else c.noteLevel l x.filtered s.reading false true
  let q := d.setLine l { d.line l with chatter := .quiet }
  if x.filtered = x.modeLevel then q else q.handModeLevel l x.filtered s.reading

def State.endChatter (s : State) (l : LineId) : State :=
  if s.chatterOffDue l then s.leaveChatter l else s

/-! ### Fast lines (R61, R62) -/

/-- The pending change after an edge of a fast line (R62). -/
def Line.edge (x : Line) (t : Stamp) (level : Bool) : Option PendingChange :=
  match x.pend with
  | none => if level = x.filtered then none else some ⟨t, true, t.runClock, 1⟩
  | some c => some { c with atPending := level != x.filtered, since := t.runClock }

/-- An edge on a fast line; before the baseline only the pin's level is kept (R61, R75). -/
def State.fastEdge (s : State) (l : LineId) (high : Bool) : State :=
  let x := s.line l
  if x.raw = high then s
  else if s.scanning then
    s.setLine l { x with raw := high, pend := x.edge s.reading (x.logical high) }
  else s.setLine l { x with raw := high }

/-- The present level of a PENDING fast line has lasted for the debounce time (R62); a write of it
counts from the next cycle (R73). -/
def State.fastDebounceDue (s : State) (l : LineId) : Bool :=
  match (s.line l).pend with
  | some c => s.scanning
      && decide (c.since + s.settings.atCycle.fastDebounce * 1000 ≤ s.tb.runClock)
  | none => false

/-- The end of a fast line's debounce (R62). -/
def State.endFastDebounce (s : State) (l : LineId) : State :=
  match (s.line l).pend with
  | some c => if s.fastDebounceDue l then s.resolve l c else s
  | none => s

/-! ### Scanned lines (R63, R64) -/

/-- The debounce time as a number of scans, rounded up (R64). -/
def State.scansNeeded (s : State) : Nat :=
  (s.settings.working.scannedDebounce + (s.lines.period - 1)) / s.lines.period

/-- The pending change after a sample of a scanned line (R64). -/
def Line.sampled (x : Line) (t : Stamp) (level : Bool) : Option PendingChange :=
  match x.pend with
  | none => if level = x.filtered then none else some ⟨t, true, t.runClock, 1⟩
  | some c =>
    if c.atPending == (level != x.filtered) then some { c with samples := c.samples + 1 }
    else some { c with atPending := level != x.filtered, samples := 1 }

/-- One scanned line's sample taken into its debounce (R64). -/
def State.sampleLine (s : State) (t : Stamp) (l : LineId) : State :=
  let x := s.line l
  let p := x.sampled t (x.logical x.raw)
  let u := s.setLine l { x with pend := p }
  match p with
  | some c => if s.scansNeeded + 1 ≤ c.samples then u.resolve l c else u
  | none => u

/-- The scanned lines, in rising order (R60, R64). -/
def scannedLines : List LineId := allLines.filter LineId.scanned

/-- A scanned line's pin level at a scan instant (R63). -/
def Line.takeSample (pins : BitVec 48) (l : LineId) (x : Line) : Line :=
  if LineId.scanned l then { x with raw := pins.getLsbD l.val } else x

/-- Pin levels of the scanned lines at one cycle (R63, R74). -/
def State.pinsOfScan (s : State) (pins : BitVec 48) : State :=
  { s with lines := { s.lines with tab := s.lines.tab.mapIdx (Line.takeSample pins) } }

def State.scanDue (s : State) : Bool := s.scanning && s.due.scan

/-- A scan instant: every scanned line is sampled at the same cycle, then debounced in rising order
(R63, R64). -/
def State.scan (s : State) (pins : BitVec 48) : State :=
  if s.scanDue then
    let t := (s.withDue { s.due with scan := false }).pinsOfScan pins
    t.forEach scannedLines fun l v => v.sampleLine s.reading l
  else s

/-! ### Baseline (R75) -/

/-- A line at the baseline (R75). -/
def Line.baseline (x : Line) (high : Bool) : Line :=
  { x with
    raw := high
    filtered := x.logical high
    lastRecorded := x.logical high
    pend := none
    chatter := .quiet }

/-- Some line of a unit with a role is active. -/
def State.roleActive (s : State) (u : UnitId) (r : Role) : Bool :=
  allLines.any fun l =>
    decide (LineId.unit l = u ∧ (s.line l).role = r) && (s.line l).filtered

/-- The baseline levels of a unit (R75, R91). -/
def State.baselineLevels (s : State) (u : UnitId) : ModeLevels where
  running := s.roleActive u .running
  breaker := s.roleActive u .breaker
  pump := s.roleActive u .pump
  condenser := s.roleActive u .condenser

def State.baselineDue (s : State) : Bool :=
  s.due.scan && s.lines.awaiting && decide (s.phase = .baselining ∨ s.phase = .running)

/-- The baseline: 48 pins at one cycle, then each unit's first mode (R75, R91, R92). -/
def State.takeBaseline (s : State) (pins : BitVec 48) : State :=
  let t := { s with
    due := { s.due with scan := false }
    lines :=
      { s.lines with
        tab := s.lines.tab.mapIdx fun l (x : Line) => x.baseline (pins.getLsbD l.val)
        awaiting := false } }
  t.forEach allUnits fun u v => v.baselineUnit u (t.baselineLevels u)

/-! ### Starts (R69, R76, R77) -/

/-- A line's role and polarity in force are taken from the working settings (R69). -/
def Line.takePlan (x : Line) (w : Settings) (l : LineId) : Line :=
  { x with
    role := LinePlan.role (w.plans.get (LineId.unit l)) (LineId.index l)
    inverted := (w.polarities.get (LineId.unit l)).getLsbD (LineId.index l) }

/-- Watching stops: changes, windows and episodes are dropped without a trace (R77). -/
def Line.stop (x : Line) : Line := { x with pend := none, chatter := .quiet }

/-- Plans, polarities and period in force are taken, and a baseline is awaited at the next scan
instant (R69, R76, R77). -/
def State.awaitBaseline (s : State) : State :=
  { s with
    due := { s.due with scan := false }
    lines :=
      { tab := s.lines.tab.mapIdx fun l (x : Line) => x.stop.takePlan s.settings.working l
        period := s.settings.working.scanPeriod
        awaiting := true } }

/-- The pin levels as last named (log 3). -/
def State.pins (s : State) : BitVec 48 :=
  allLines.foldl (fun acc l =>
    if (s.line l).raw then acc ||| (1#48 <<< l.val) else acc) 0

end Sys2Proof.Machine
end

