-- ==== Sys2Proof/Machine/Distribution.lean ====
section
/-! DEFINITION. The Distribution Driver (03): the strobe, the time word, its clocking, steps and the
echo check. -/

namespace Sys2Proof.Machine

/-! ### The time word -/

/-- Byte 4 of the word: class in bits 7 to 4, then the flags (R207). -/
def TimeWord.classByte (w : TimeWord) : Byte :=
  BitVec.ofNat 8 (w.cls * 16 + packFlags [w.invalid, w.stepped, w.holdover, w.testAny])

/-- The first five bytes of the word (R207). -/
def TimeWord.head (w : TimeWord) : List Byte := secondBytes w.second ++ [w.classByte]

/-- The six bytes of the word (R207). -/
def TimeWord.bytes (w : TimeWord) : List Byte := w.head ++ [w.check]

/-- Bit `i` of the word, 0 the most significant bit of S (R51). -/
def TimeWord.bitAt (w : TimeWord) (i : Nat) : Bool :=
  bitOf w.bytes i

/-- The word loaded at a boundary (R48), with its check (R50): second, class and timebase state of the one
reading that the boundary's cycle shows (R4, R47; log 45). -/
def State.newWord (s : State) : TimeWord :=
  let w : TimeWord :=
    { second := s.reading.second
      cls := s.reading.cls
      invalid := decide (0 < s.dist.latency)
      stepped := s.dist.stepPending
      holdover := decide (s.tb.cycleState = .holdover)
      testAny := allUnits.any s.inTest
      check := 0 }
  { w with check := checkByte w.head }

/-- The strobe width in ns for a second: doubled for a minute strobe (R49). -/
def strobeWidthFor (x : Settings) (second : Second) : Nat :=
  x.strobeWidth * 1000000 * if second.toNat % 60 = 0 then 2 else 1

/-- A second boundary begins a new strobe and a new word (R47, R48, R52). -/
def State.beginStrobe (s : State) : State :=
  let x := s.settings.working
  s.withDist { s.dist with
    word := some s.newWord
    asserted := true
    lead := s.tb.runClock
    width := strobeWidthFor x s.reading.second
    wordState := .delay
    bit := 0
    halfPeriod := (x.bitPeriodP + 1) * 1000
    delay := x.delayD
    changes := 0
    dclk := false
    ddata := false
    latency := s.dist.latency - 1
    stepPending := false
    echoPending := true }

/-! ### Clocking (R51) -/

/-- L + (D + i) × T for half-periods: the run clock of change `n`, counted in half periods from bit 0. -/
def Distribution.changeAt (d : Distribution) (n : Nat) : Nat :=
  d.lead + (2 * d.delay + n) * d.halfPeriod

/-- L + (D + 48) × T: the end of the word. -/
def Distribution.wordEnds (d : Distribution) : Nat := d.changeAt 96

/-- The next change of DCLK and DDATA is due: 96 of them come before the end of the word. -/
def State.changeDue (s : State) : Bool :=
  decide (s.dist.wordState ≠ .idle ∧ s.dist.changes < 96
    ∧ s.dist.changeAt s.dist.changes ≤ s.tb.runClock)

/-- One scheduled change: an even one drives the next bit and lets DCLK fall, an odd one lets DCLK
rise in the middle of the bit (R51). -/
def Distribution.change (d : Distribution) : Distribution :=
  if d.changes % 2 = 0 then
    { d with
      wordState := .sending
      bit := d.changes / 2
      ddata := match d.word with
        | some w => w.bitAt (d.changes / 2)
        | none => false
      dclk := false
      changes := d.changes + 1 }
  else { d with dclk := true, changes := d.changes + 1 }

def State.clockWord (s : State) : State :=
  if s.changeDue then s.withDist s.dist.change else s

def State.wordEndDue (s : State) : Bool :=
  decide (s.dist.wordState ≠ .idle ∧ s.dist.wordEnds ≤ s.tb.runClock)

/-- The last clock falls, DDATA returns low and the word state becomes IDLE (R51). -/
def Distribution.endWord (d : Distribution) : Distribution :=
  { d with wordState := .idle, dclk := false, ddata := false }

def State.endWord (s : State) : State :=
  if s.wordEndDue then s.withDist s.dist.endWord else s

/-! ### The end of the strobe (R49) -/

def State.releaseDue (s : State) : Bool :=
  decide (s.dist.asserted = true ∧ s.dist.lead + s.dist.width ≤ s.tb.runClock)

def State.releaseStrobe (s : State) : State :=
  if s.releaseDue then s.withDist { s.dist with asserted := false } else s

/-! ### Steps (R54, R55) -/

/-- A step or SET TIME is made known to the Driver: step pending sets, and what would outlast the new
boundary is cut at once (R54, R55; log 18). The time left decides alone, so a backward step that passes back
over a second boundary may cut, although R55 also says that a backward step never cuts (log 50). -/
def Distribution.stepKnown (d : Distribution) (runClock nanos : Nat) : Distribution :=
  let boundary := runClock + (Config.second - nanos)
  let cutWord := decide (d.wordState ≠ .idle ∧ boundary < d.wordEnds)
  let cutStrobe := decide (d.asserted = true ∧ boundary < d.lead + d.width)
  let d1 := { d with stepPending := true }
  let d2 := if cutWord then { d1.endWord with cuts := satAdd Config.smallCap d.cuts 1 } else d1
  if cutStrobe then { d2 with asserted := false, echoPending := false } else d2

/-! ### The echo check (R56, R57) -/

def State.echoDue (s : State) : Bool :=
  decide (s.dist.echoPending = true ∧ s.dist.lead + s.dist.width / 2 ≤ s.tb.runClock)

/-- What the fault latch makes of one reading (R57). -/
def State.judgeEcho (s : State) (correct : Bool) : State :=
  let d := s.dist
  if d.fault then
    if correct then
      if d.correct + 1 = 10 then
        ((s.withDist { d with fault := false, correct := 0 }).note .distFault 0).raiseAll .dist
      else s.withDist { d with correct := d.correct + 1 }
    else s.withDist { d with correct := 0 }
  else if correct then s
  else ((s.withDist { d with fault := true, correct := 0 }).note .distFault 1).raiseAll .dist

/-- The reading midway through the strobe (R56). -/
def State.checkEcho (s : State) (correct : Bool) : State :=
  if s.echoDue then (s.withDist { s.dist with echoPending := false }).judgeEcho correct else s

/-- The level DSTROBE shows while it is driven asserted: a pin of the model's environment (log 3). -/
def State.setReadsBack (s : State) (asserted : Bool) : State :=
  s.withDist { s.dist with readsBack := asserted }

end Sys2Proof.Machine
end

