-- ==== Sys2Proof/Machine/Timebase.lean ====
section
/-! DEFINITION. The Timebase (01): the advance of a cycle, boundaries, the discipline servo, steps,
SET TIME, uncertainty and the quality alarm. -/

namespace Sys2Proof.Machine

/-! ### The advance of one oscillator cycle (R1, R2, R3) -/

/-- The residue after 100×Q has been added and a correction nanosecond taken out (R1). -/
def Timebase.residueAfter (t : Timebase) : Int :=
  let e := t.residue + 100 * t.rate
  if 1000000000 ≤ e then e - 1000000000 else if e ≤ -1000000000 then e + 1000000000 else e

/-- The advance of the cycle: 99, 100 or 101 ns (R1). -/
def Timebase.advance (t : Timebase) : Nat :=
  let e := t.residue + 100 * t.rate
  if 1000000000 ≤ e then 101 else if e ≤ -1000000000 then 99 else 100

/-- The run clock is a 64-bit count (R3). -/
def Timebase.nextClock (t : Timebase) : Nat := (t.runClock + t.advance) % 2 ^ 64

/-- The advance brings N to 1,000,000,000 or above (R2); station time stands still until step 4 of the
power-on sequence (R25). -/
def Timebase.crossesSecond (t : Timebase) : Bool :=
  t.advancing && decide (Config.second ≤ t.nanos + t.advance)

/-- S after the advance of the cycle (R2). -/
def Timebase.nextSecond (t : Timebase) : Second :=
  if t.crossesSecond then t.second + 1 else t.second

/-- N after the advance of the cycle (R1, R2, R25). -/
def Timebase.nextNanos (t : Timebase) : Nat :=
  if t.advancing then
    if t.crossesSecond then t.nanos + t.advance - Config.second else t.nanos + t.advance
  else t.nanos

/-- The advance itself (R1, R2, R3). -/
def Timebase.advanced (t : Timebase) : Timebase :=
  { t with
    residue := t.residueAfter
    runClock := t.nextClock
    second := t.nextSecond
    nanos := t.nextNanos }

/-- In HOLDOVER, U rises by H at a second boundary (R20). -/
def Timebase.grown (t : Timebase) (drift : Nat) : Timebase :=
  if t.state = .holdover then
    { t with uncertainty := satAdd Config.uncertaintyCap t.uncertainty drift }
  else t

/-- Readings show S, N and the timebase state as they now stand, and a class (R4, R47; log 45). -/
def Timebase.readAs (t : Timebase) (cls : Nat) : Timebase :=
  { t with
    cycleSecond := t.second
    cycleNanos := t.nanos
    cycleClass := cls
    cycleState := t.state }

/-- The class at the start of the cycle that an advance brings: a second boundary and the growth of U
that comes with it lie at that start (R4, R20; log 45). -/
def Timebase.nextClass (t : Timebase) (drift : Nat) : Nat :=
  if t.crossesSecond then (t.advanced.grown drift).cls else t.cls

/-- One corrected cycle, with which the next one begins (R1 to R4). -/
def Timebase.cycle (t : Timebase) (drift : Nat) : Timebase :=
  t.advanced.readAs (t.nextClass drift)

/-- A count passes a whole multiple of a span between two values. -/
def passesMultiple (span before after : Nat) : Bool := before / span != after / span

/-- One oscillator cycle, with the marks of what it brings (R1, R2, R3, R63), under the settings as
they now stand (R73, R80, R150, R168; log 37). -/
def State.cycle (s : State) : State :=
  let t := s.tb.cycle s.settings.working.holdoverDrift
  { s with
    tb := t
    due :=
      { second := s.due.second || s.tb.crossesSecond
        millisecond := s.due.millisecond || passesMultiple 1000000 s.tb.runClock t.runClock
        scan := s.due.scan || passesMultiple (s.lines.period * 1000) s.tb.runClock t.runClock }
    settings := { s.settings with atCycle := s.settings.working } }

/-! ### The quality alarm (R22) -/

/-- The alarm flag is re-evaluated; a change writes QUALITY with the old and the new class (R22). -/
def State.reviewAlarm (s : State) (old : Nat) : State :=
  let flag := decide (s.settings.working.alarmClass < s.cls)
  if flag = s.tb.alarm then s
  else ((s.withTb { s.tb with alarm := flag }).note .quality (datumOf old s.cls)).raiseAll .quality

/-- What follows a change of U or the unset flag, given the class before it (R21, R22, R178). -/
def State.classMoved (s : State) (old : Nat) : State :=
  if s.cls = old then s else s.shiftSeesClass.reviewAlarm old

/-! ### Second boundaries (R2, R20) -/

/-- In HOLDOVER, U rises by H at each second boundary (R20). -/
def State.growUncertainty (s : State) : State :=
  (s.withTb (s.tb.grown s.settings.working.holdoverDrift)).classMoved s.cls

/-- The blocks act on a second boundary: the Timebase, then the Distribution Driver, then the Shift
Controller (R2, R20, R47, R166; log 17). -/
def State.secondBoundary (s : State) : State :=
  if s.due.second then
    (s.withDue { s.due with second := false }).growUncertainty.beginStrobe.evaluateSchedule
  else s

/-! ### Steps (R14, R15) -/

/-- Signed nanoseconds are added to station time (R14). -/
def Timebase.shiftBy (t : Timebase) (e : Int) : Timebase :=
  { t with
    second := t.second + BitVec.ofInt 32 (((t.nanos : Int) + e) / 1000000000)
    nanos := (((t.nanos : Int) + e) % 1000000000).toNat }

/-- The datum of TIME_STEP: milliseconds rounded toward zero, saturated (R15). -/
def stepDatum (e : Int) : BitVec 16 := BitVec.ofInt 16 (clamp 32767 (e.tdiv 1000000))

/-- What the Timebase hands to the other blocks after its time has moved (R15, R17). -/
def State.makeStepKnown (s : State) : State :=
  (s.withDist (s.dist.stepKnown s.tb.runClock s.tb.nanos)).shiftStepKnown

/-- The Timebase after a step by `e` from a pulse report with a claim class (R14, R15, R19). -/
def Timebase.stepped (t : Timebase) (e : Int) (claim : Nat) : Timebase :=
  { t.shiftBy e with
    lastStep := some ⟨t.runClock, e⟩
    uncertainty := satAdd Config.uncertaintyCap 100 (claimTerm claim)
    unset := false
    outliers := 0
    state := .locked }

/-- The hand-offs of a step or SET TIME that has made the Timebase `t`, in their order: its record, the
STEP notice, QUALITY, the Driver and the Shift Controller. Their readings show the moved time and the new
class; every other reading of the present cycle shows what the cycle began with (R4, R14, R15, R17;
log 45). -/
def State.handStepOff (s : State) (t : Timebase) (kind : Kind) (datum : BitVec 16) : State :=
  let u := ((s.withTb (t.readAs t.cls)).note kind datum).raiseAll .step
  let v := (u.classMoved s.cls).makeStepKnown
  v.withTb { v.tb with
    cycleSecond := t.cycleSecond
    cycleNanos := t.cycleNanos
    cycleClass := t.cycleClass
    cycleState := t.cycleState }

/-- A step made from a pulse report: the Timebase is LOCKED after it (R9, R12, R13), and the hand-offs
of R15 follow. A second boundary that the present cycle has brought is taken first (log 17). -/
def State.stepTime (s : State) (e : Int) (claim : Nat) : State :=
  let b := s.secondBoundary
  b.handStepOff (b.tb.stepped e claim) .timeStep (stepDatum e)

/-! ### The servo (R6, R11 to R13) -/

/-- The phase error e (R6). -/
def phaseError (capture : Capture) (second : Second) : Int :=
  (second - capture.second).toInt * 1000000000 - capture.nanos

/-- A slew (R11, R19). -/
def Timebase.slewed (t : Timebase) (e : Int) (claim : Nat) : Timebase :=
  let i := clamp Config.rateLimit (t.integral + e.tdiv 64)
  { t with
    integral := i
    rate := clamp Config.rateLimit (i + e.tdiv 8)
    outliers := 0
    uncertainty := satAdd Config.uncertaintyCap e.natAbs (claimTerm claim)
    state := .locked }

/-- An outlier that does not step (R12, R19). -/
def Timebase.outlier (t : Timebase) (e : Int) (claim : Nat) : Timebase :=
  { t with
    outliers := t.outliers + 1
    uncertainty := satAdd Config.uncertaintyCap e.natAbs (claimTerm claim) }

def State.slew (s : State) (e : Int) (claim : Nat) : State :=
  (s.withTb (s.tb.slewed e claim)).classMoved s.cls

/-- |e| is no more than the step threshold Ts (R11). -/
def State.withinThreshold (s : State) (e : Int) : Bool :=
  decide (e.natAbs ≤ s.settings.working.stepThreshold * 1000)

/-- The Timebase takes a pulse report (R6, R9 to R13). -/
def State.pulseReport (s : State) (capture : Capture) (second : Second) (claim : Nat) : State :=
  let e := phaseError capture second
  match s.tb.state with
  | .free => s
  | .acquire => s.stepTime e claim
  | .locked =>
    if s.withinThreshold e then s.slew e claim
    else if s.tb.outliers + 1 < 3 then (s.withTb (s.tb.outlier e claim)).classMoved s.cls
    else s.stepTime e claim
  | .holdover => if s.withinThreshold e then s.slew e claim else s.stepTime e claim

/-! ### Changes of selection (R7, R8) -/

/-- Every port's reference-lost latch sets (R43). -/
def State.setLost (s : State) : State := s.withSel { s.sel with lost := PerPort.all true }

/-- LOCKED becomes HOLDOVER (R8, R26). -/
def Timebase.holdOver (t : Timebase) : Timebase :=
  { t with state := .holdover, rate := t.integral, outliers := 0 }

/-- The Timebase takes a change of selection (R7, R8), and entry to HOLDOVER sets the latches (R43). -/
def State.selectionMoved (s : State) (old new : Option RefId) : State :=
  match old, new with
  | none, some _ =>
    if s.tb.state = .free then s.withTb { s.tb with state := .acquire } else s
  | some _, some _ =>
    if s.tb.state = .locked then s.withTb { s.tb with outliers := 0 } else s
  | some _, none =>
    match s.tb.state with
    | .locked => (s.withTb s.tb.holdOver).setLost
    | .acquire => s.withTb { s.tb with state := .free }
    | _ => s
  | none, none => s

/-! ### SET TIME (R17, R18) -/

/-- The difference of a set time and the present time, as R6 forms one (R17). -/
def Timebase.setDifference (t : Timebase) (second : Second) (micros : Nat) : Int :=
  (second - t.second).toInt * 1000000000 + ((micros * 1000 : Nat) : Int) - (t.nanos : Int)

/-- The Timebase after SET TIME (R17). -/
def Timebase.setTo (t : Timebase) (second : Second) (micros : Nat) : Timebase :=
  { t with
    second := second
    nanos := micros * 1000
    uncertainty := Config.uncertaintyCap
    unset := false
    lastStep := some ⟨t.runClock, t.setDifference second micros⟩ }

/-- SET TIME (R17, R18). TIME_SET comes first and the QUALITY record of the class it changes second, as
R15 orders a step's (log 38). -/
def State.setTime (s : State) (second : Second) (micros : BitVec 24) : Decision :=
  if s.tb.state = .acquire ∨ s.tb.state = .locked then s.refuse .wrongState
  else if 999999 < micros.toNat then s.refuse .badValue
  else
    let b := s.secondBoundary
    (b.handStepOff (b.tb.setTo second micros.toNat) .timeSet 0).ok

/-! ### Starts (R25, R26) -/

/-- Station time starts from the recovered values, and readings show them from now on (R25). -/
def Timebase.start (t : Timebase) (second : Second) (integral : Int) : Timebase :=
  { t with
    advancing := true
    second := second
    nanos := 0
    cycleSecond := second
    cycleNanos := 0
    cycleClass := 7
    cycleState := .free
    residue := 0
    outliers := 0
    integral := integral
    rate := integral
    uncertainty := Config.uncertaintyCap
    unset := true
    alarm := true
    state := .free
    lastStep := none }

/-- The Timebase at restart (R26), the latches of R43 set when it enters HOLDOVER. -/
def State.restartTimebase (s : State) : State :=
  match s.tb.state with
  | .locked => (s.withTb s.tb.holdOver).setLost
  | .acquire => s.withTb { s.tb with state := .free, outliers := 0 }
  | _ => s.withTb { s.tb with outliers := 0 }

end Sys2Proof.Machine
end

