-- ==== Sys2Proof/Machine/References.lean ====
section
/-! DEFINITION. The Reference Monitor (02): learning, seconds and their judgement, messages, selection,
disagreement and the reference-lost latches. -/

namespace Sys2Proof.Machine

/-- Station time runs and the blocks that work from it watch their lines (R196 step 4 on). -/
def State.watching (s : State) : Bool := decide (s.phase = .baselining ∨ s.phase = .running)

def State.ref (s : State) (r : RefId) : Reference := s.refs.get r

/-! ### Selection (R38 to R40) -/

def Reference.qualified (x : Reference) : Bool := decide (x.state = .qualified)

/-- The claim class two QUALIFIED references are compared by (R39). -/
def Reference.claimClass (x : Reference) : Nat := x.claim.getD 6

/-- A choice made afresh among the QUALIFIED references (R39). -/
def State.freshChoice (s : State) : Option RefId :=
  match (s.ref .ref1).qualified, (s.ref .ref2).qualified with
  | false, false => none
  | true, false => some .ref1
  | false, true => some .ref2
  | true, true =>
    if (s.ref .ref1).claimClass < (s.ref .ref2).claimClass then some .ref1
    else if (s.ref .ref2).claimClass < (s.ref .ref1).claimClass then some .ref2
    else some s.settings.working.priority

/-- The choice of AUTO mode (R39). -/
def State.autoChoice (s : State) : Option RefId :=
  match s.sel.selected with
  | none => s.freshChoice
  | some r =>
    if (s.ref r).qualified then
      if (s.ref r.other).qualified && !s.sel.disagree
          && decide ((s.ref r.other).claimClass < (s.ref r).claimClass) then
        some r.other
      else some r
    else s.freshChoice

/-- The selection the mode in force gives (R38, R39). -/
def State.choice (s : State) : Option RefId :=
  match s.sel.mode with
  | .auto => s.autoChoice
  | .ref1 => if (s.ref .ref1).qualified then some .ref1 else none
  | .ref2 => if (s.ref .ref2).qualified then some .ref2 else none
  | .none => none

/-- A changed selection is stored, recorded and noticed (R40). -/
def State.recordSelection (s : State) (new : Option RefId) : State :=
  let t := s.withSel { s.sel with selected := new }
  (t.note .refSelect (datumOf s.sel.mode.code (selectionCode new))).raiseAll .ref

/-- The selection evaluation (R39), with the hand-off to the Timebase (R7, R8, R40). -/
def State.evaluateSelection (s : State) : State :=
  if s.choice = s.sel.selected then s
  else (s.recordSelection s.choice).selectionMoved s.sel.selected s.choice

/-- The mode a SELECT REFERENCE names (02, codes). -/
def selectionModeNamed (b : Byte) : Option SelectionMode :=
  match b.toNat with
  | 0 => some .auto
  | 1 => some .ref1
  | 2 => some .ref2
  | 3 => some .none
  | _ => none

/-- SELECT REFERENCE (R38). -/
def State.selectReference (s : State) (mode : Byte) : Decision :=
  match selectionModeNamed mode with
  | none => s.refuse .badValue
  | some m =>
    let t := (s.withSel { s.sel with mode := m }).evaluateSelection
    t.gives (byteOf (selectionCode t.sel.selected))

/-! ### Disagreement (R41, R42) -/

/-- The disagreement flag is set or cleared, both counts become 0, and the change is recorded (R42). -/
def State.moveDisagree (s : State) (flag : Bool) : State :=
  let t := s.withSel { s.sel with disagree := flag, disagreeCount := 0, agreeCount := 0 }
  (t.note .disagree (BitVec.ofNat 16 flag.toNat)).raiseAll .ref

/-- The judgement of one pair (R42). -/
def State.judgePair (s : State) (agrees naming : Bool) : State :=
  if s.sel.disagree then
    if agrees then
      if s.sel.agreeCount + 1 = 10 then (s.moveDisagree false).evaluateSelection
      else s.withSel { s.sel with agreeCount := s.sel.agreeCount + 1 }
    else s.withSel { s.sel with agreeCount := 0 }
  else if agrees then s.withSel { s.sel with disagreeCount := 0 }
  else if naming || s.sel.disagreeCount + 1 == 3 then s.moveDisagree true
  else s.withSel { s.sel with disagreeCount := s.sel.disagreeCount + 1 }

/-- The difference of a pair: REF2's run clock less REF1's (R41). -/
def pairDifference (a b : Mark) : Int :=
  if a.ref = .ref2 then (a.runClock : Int) - b.runClock else (b.runClock : Int) - a.runClock

/-- Two marks become a judged pair (R41). -/
def State.pairUp (s : State) (a b : Mark) : State :=
  let d := pairDifference a b
  let naming := decide (a.second ≠ b.second)
  let agrees := !naming && decide (d.natAbs ≤ s.settings.working.disagreementLimit * 1000)
  (s.withSel { s.sel with unpaired := none, lastDifference := d }).judgePair agrees naming

/-- A mark's time to find a partner has passed (R41). -/
def State.markExpired (s : State) (m : Mark) : Bool :=
  decide (m.runClock + 500000000 < s.tb.runClock)

def State.unpairedDue (s : State) : Bool :=
  match s.sel.unpaired with
  | some m => s.markExpired m
  | none => false

/-- A marked pulse without a partner is judged as a disagreeing pair (R41). -/
def State.dropUnpaired (s : State) : State :=
  (s.withSel { s.sel with unpaired := none }).judgePair false false

def State.expireUnpaired (s : State) : State := if s.unpairedDue then s.dropUnpaired else s

/-- The comparison of a marked pulse while both references are QUALIFIED (R41). A pulse marked before
both were is kept nowhere and is no partner (log 39). A mark pairs once: of two marks within 500 ms of one mark
of the other reference the earlier takes it, and the later waits for another (the model's choice, log 53). -/
def State.comparePulse (s : State) (m : Mark) : State :=
  if (s.ref .ref1).qualified && (s.ref .ref2).qualified then
    match s.sel.unpaired with
    | none => s.withSel { s.sel with unpaired := some m }
    | some o =>
      if o.ref ≠ m.ref ∧ s.markExpired o = false then s.pairUp o m
      else
        let t := s.dropUnpaired
        t.withSel { t.sel with unpaired := some m }
  else s

/-- A reference has left QUALIFIED: the comparison is dropped (R41). -/
def State.dropComparison (s : State) : State :=
  let t := s.withSel { s.sel with unpaired := none, disagreeCount := 0, agreeCount := 0 }
  if s.sel.disagree then (t.moveDisagree false).evaluateSelection else t

/-! ### Changes of reference state (R30) -/

/-- The reference's state changes and REF_STATE is appended (R30). -/
def State.recordRefState (s : State) (r : RefId) (new : RefState) : State :=
  (s.setRef r { s.ref r with state := new }).note .refState (datumOf r.code new.code)

/-- A change of reference state, followed at once by the selection evaluation when it leads into or
out of QUALIFIED (R30, R43; log 20). -/
def State.moveRef (s : State) (r : RefId) (new : RefState) : State :=
  if (s.ref r).state = new then s
  else
    let t := s.recordRefState r new
    if (s.ref r).state = .qualified then
      (if s.sel.selected = some r then t.setLost else t).evaluateSelection.dropComparison
    else if new = .qualified then t.evaluateSelection
    else t

/-- The reference enters ABSENT and loses what R30 names. -/
def State.loseRef (s : State) (r : RefId) : State :=
  (s.setRef r { Reference.powerOn with
    state := (s.ref r).state
    lastFailure := (s.ref r).lastFailure
    lossFrom := (s.ref r).lossFrom
    received := (s.ref r).received
    lastByteEnd := (s.ref r).lastByteEnd
    arrived := (s.ref r).arrived }).moveRef r .absent

/-- The pulse-loss timer has reached 3 s (R27). -/
def State.pulseLossDue (s : State) (r : RefId) : Bool :=
  decide ((s.ref r).state ≠ .absent ∧ (s.ref r).lossFrom + 3 * Config.second ≤ s.tb.runClock)

def State.expirePulse (s : State) (r : RefId) : State :=
  if s.pulseLossDue r then s.loseRef r else s

/-! ### Seconds and their judgement (R32 to R35) -/

/-- CHECK, QUALIFIED and UNSYNCED: the states that work in seconds. -/
def Reference.judging (x : Reference) : Bool :=
  match x.state with
  | .check | .qualified | .unsynced => true
  | .absent | .listen => false

/-- The previous message as one closed second leaves it (R33). -/
def Reference.previousAfter (x : Reference) : Option Second :=
  match x.window with
  | some w => if w.fault.isNone && !x.two then some w.info.second else none
  | none => none

/-- The second is cleared for the next anchor (R32). -/
def Reference.openSecond (x : Reference) (anchor : Option Capture) : Reference :=
  { x with
    anchor := anchor
    window := none
    two := false
    failed := false
    previous := x.previousAfter }

/-- The judgement of R33: the cause of failure, or none when the second is consistent. -/
def Reference.judgement (x : Reference) : Option FailCause :=
  match x.window with
  | none => some .noMessage
  | some w =>
    if x.two then some .twoMessages
    else
      match w.fault with
      | some c => some c
      | none =>
        match x.previous with
        | none => some .discontinuous
        | some p => if w.info.second = p + 1 then none else some .discontinuous

/-- A failed second (R33 to R35): the cause is kept, and the state becomes CHECK with count 0. -/
def State.failSecond (s : State) (r : RefId) (cause : FailCause) : State :=
  (s.setRef r { s.ref r with lastFailure := some cause, count := 0 }).moveRef r .check

/-- The state a consistent second leads to (R34, R35). -/
def Reference.stateAfterPass (x : Reference) (clean : Bool) : RefState :=
  match x.state with
  | .check =>
    if x.count + 1 = 3 then if clean then .qualified else .unsynced else .check
  | .qualified | .unsynced => if clean then .qualified else .unsynced
  | .absent => .absent
  | .listen => .listen

/-- The count a consistent second leaves (R34). -/
def Reference.countAfterPass (x : Reference) : Nat :=
  if x.state = .check then x.count + 1 else x.count

/-- A consistent second (R34, R35): the claim is taken; a QUALIFIED reference whose claim changes has
the selection evaluated (R39). -/
def State.passSecond (s : State) (r : RefId) (m : MessageInfo) : State :=
  let x := s.ref r
  let new := x.stateAfterPass m.clean
  let t := s.setRef r { x with claim := some m.claim, count := x.countAfterPass }
  if x.state = .qualified ∧ new = .qualified then
    if x.claim = some m.claim then t else t.evaluateSelection
  else t.moveRef r new

/-- The pulse report of R37, for the selected QUALIFIED reference. -/
def State.reportPulse (s : State) (r : RefId) (edge : Capture) (m : MessageInfo) : State :=
  if s.sel.selected = some r ∧ (s.ref r).qualified then s.pulseReport edge m.second m.claim else s

/-- A second closed by an edge inside the spacing window, in the order of R36. -/
def State.closeSecond (s : State) (r : RefId) (edge : Capture) : State :=
  let x := s.ref r
  let t := s.setRef r (x.openSecond (some edge))
  if x.failed then t
  else
    match x.judgement, x.window with
    | some cause, _ => t.failSecond r cause
    | none, some w =>
      ((t.passSecond r w.info).reportPulse r edge w.info).comparePulse ⟨r, w.info.second, edge.runClock⟩
    | none, none => t

/-- The run clock has passed the late end of the spacing window (R32); a spacing tolerance written in
mid-second moves that end at once (R45; log 40). -/
def State.latePulseDue (s : State) (r : RefId) : Bool :=
  match (s.ref r).anchor with
  | some a =>
    (s.ref r).judging && decide (a.runClock + Config.second
      + s.settings.working.spacingTolerance * 1000 < s.tb.runClock)
  | none => false

/-- The second fails with LATE_PULSE and the anchor is cleared (R32). -/
def State.failLate (s : State) (r : RefId) : State :=
  if s.latePulseDue r then
    (s.setRef r ((s.ref r).openSecond none)).failSecond r .latePulse
  else s

/-- An active edge in CHECK, QUALIFIED or UNSYNCED, the late end served (R32). -/
def State.placeEdge (s : State) (r : RefId) (edge : Capture) : State :=
  match (s.ref r).anchor with
  | none => s.setRef r { s.ref r with anchor := some edge }
  | some a =>
    if edge.runClock + s.settings.working.spacingTolerance * 1000 < a.runClock + Config.second then
      if (s.ref r).failed then s
      else (s.setRef r { s.ref r with failed := true }).failSecond r .earlyPulse
    else s.closeSecond r edge

/-! ### Messages (R28, R29) -/

/-- The fields of a complete message (R28, R206). -/
def messageInfo (bytes : List Byte) : MessageInfo where
  second := secondOf ((bytes.drop 2).take 4)
  claim := (bytes.getD 6 0).toNat
  flags := bytes.getD 7 0
  sequence := bytes.getD 8 0

/-- Whether a complete message is faulty, and how (R28). -/
def messageFault (bytes : List Byte) : Option FailCause :=
  let sum := (bytes.take 10).foldl (fun acc b => acc + b.toNat) 0
  if (sum + ofBe ((bytes.drop 10).take 2)) % 65536 ≠ 0 then some .badCheck
  else
    let claim := (bytes.getD 6 0).toNat
    if 1 ≤ claim ∧ claim ≤ 6 then none else some .badMessage

/-- A complete message is placed in the current second or discarded (R28, R29). -/
def Reference.placeMessage (x : Reference) (m : Arrived) : Reference :=
  match x.anchor with
  | none => x
  | some a =>
    if x.judging && decide (a.runClock + 100000000 ≤ m.runClock
        ∧ m.runClock ≤ a.runClock + 900000000) then
      let w : WindowMessage := ⟨messageInfo m.bytes, messageFault m.bytes⟩
      { x with
        two := x.two || x.window.isSome
        window := if x.window.isSome then x.window else some w
        lastMessage := if w.fault.isNone then some w.info else x.lastMessage }
    else x

def State.takeMessage (s : State) (r : RefId) (m : Arrived) : State :=
  s.setRef r ((s.ref r).placeMessage m)

/-- A message the receiver has completed is taken before what comes after it (log 14). -/
def State.takeArrived (s : State) (r : RefId) : State :=
  match (s.ref r).arrived with
  | some m => (s.setRef r { s.ref r with arrived := none }).takeMessage r m
  | none => s

/-- A complete message given at once, without its bytes' events (log 14). -/
def State.wholeMessage (s : State) (r : RefId) (bytes : List Byte) : State :=
  if wellFormedMessage bytes then s.takeMessage r ⟨bytes, s.tb.runClock⟩ else s

/-- A complete message: the one the receiver holds, or a whole message given at once. Bytes that differ
from those of the message held are a second message, placed after the one held (R28, R29; log 14). -/
def State.timeMessage (s : State) (r : RefId) (bytes : List Byte) : State :=
  match (s.ref r).arrived with
  | some m => if m.bytes = bytes then s.takeArrived r else (s.takeArrived r).wholeMessage r bytes
  | none => s.wholeMessage r bytes

/-- The partial message with one good byte added (R28). -/
def assemble (received : List Byte) (b : Byte) : List Byte :=
  match received with
  | [] => if b = 0xA7 then [b] else []
  | [x] => if b = 12 then [x, b] else if b = 0xA7 then [b] else []
  | more => more ++ [b]

/-- The receiver takes one byte: `sinceStart` is the time since its start bit (R28; log 15). -/
def Reference.receive (x : Reference) (runClock : Nat) (b : Byte) (stopHigh : Bool)
    (sinceStart : Nat) : Reference :=
  let late := decide (x.lastByteEnd + 5000000 + sinceStart < runClock)
  let bytes := if stopHigh then assemble (if late then [] else x.received) b else []
  if bytes.length = 12 then
    { x with received := [], lastByteEnd := runClock, arrived := some ⟨bytes, runClock⟩ }
  else { x with received := bytes, lastByteEnd := runClock }

def State.messageByte (s : State) (r : RefId) (b : Byte) (stopHigh : Bool) (sinceStart : Nat) :
    State :=
  let t := s.takeArrived r
  t.setRef r ((t.ref r).receive s.tb.runClock b stopHigh sinceStart)

/-- More than 5 ms have passed since the last byte of a partial message (R28). -/
def State.byteGapDue (s : State) (r : RefId) : Bool :=
  !(s.ref r).received.isEmpty && decide ((s.ref r).lastByteEnd + 5000000 < s.tb.runClock)

def State.dropPartial (s : State) (r : RefId) : State :=
  if s.byteGapDue r then s.setRef r { s.ref r with received := [] } else s

/-! ### Learning (R31) -/

/-- Which level of a period was the shorter one, and its length; equal levels are a free value. -/
def shorterLevel (free : Nat) (a b : LevelSpan) : LevelSpan :=
  if a.length < b.length then a
  else if b.length < a.length then b
  else ⟨Config.tiedLevelsHighShorter free, b.length⟩

/-- The learning record emptied but for its last edge (R31). -/
def Learning.restartedAt (e : SeenEdge) : Learning := ⟨some e, none, none⟩

/-- Polarity is decided: CHECK with count 0, anchored by the edge when that is active (R31). The loss
timer then measures from the last active edge (R27). -/
def State.decidePolarity (s : State) (r : RefId) (high : Bool) (last : SeenEdge) (edge : Capture)
    (edgeHigh : Bool) : State :=
  let active := edgeHigh == high
  (s.setRef r { s.ref r with
    polarity := some high
    count := 0
    learning := Learning.empty
    previous := none
    window := none
    two := false
    failed := false
    anchor := if active then some edge else none
    lossFrom := if active then edge.runClock else last.runClock }).moveRef r .check

/-- A period has ended in LISTEN (R31). -/
def State.endPeriod (s : State) (r : RefId) (last : SeenEdge) (sh : LevelSpan) (edge : Capture)
    (edgeHigh : Bool) : State :=
  let now : SeenEdge := ⟨edge.runClock, edgeHigh⟩
  let x := s.ref r
  if sh.length < 400000000 then
    match x.learning.shorter with
    | none => s.setRef r { x with learning := ⟨some now, none, some sh.high⟩ }
    | some h =>
      if h = sh.high then s.decidePolarity r h last edge edgeHigh
      else s.setRef r { x with learning := Learning.restartedAt now }
  else s.setRef r { x with learning := Learning.restartedAt now }

/-- An edge in LISTEN with polarity undecided (R31). -/
def State.learn (s : State) (r : RefId) (edge : Capture) (edgeHigh : Bool) : State :=
  let now : SeenEdge := ⟨edge.runClock, edgeHigh⟩
  let x := s.ref r
  let t := s.setRef r { x with lossFrom := edge.runClock }
  match x.learning.lastEdge with
  | none => t.setRef r { t.ref r with learning := Learning.restartedAt now }
  | some last =>
    let level : LevelSpan := ⟨last.high, edge.runClock - last.runClock⟩
    match x.learning.firstLevel with
    | none =>
      t.setRef r { t.ref r with
        learning := { x.learning with lastEdge := some now, firstLevel := some level } }
    | some first =>
      ({ t with freeCount := t.freeCount + 1 }).endPeriod r last
        (shorterLevel t.freeCount first level) edge edgeHigh

/-! ### Edges (R27) -/

/-- The capture of an edge in the present cycle: S, N and run clock as they stood when the cycle began,
so that a step within the cycle leaves them alone (R4, R5, R27; log 45). -/
def State.capture (s : State) : Capture := ⟨s.tb.cycleSecond, s.tb.cycleNanos, s.tb.runClock⟩

/-- The first edge in ABSENT starts LISTEN (R30). -/
def State.startListen (s : State) (r : RefId) (edgeHigh : Bool) : State :=
  (s.setRef r { s.ref r with
    polarity := none
    learning := Learning.restartedAt ⟨s.tb.runClock, edgeHigh⟩
    lossFrom := s.tb.runClock }).moveRef r .listen

/-- An edge in LISTEN with polarity kept from before a restart (R31, R46). -/
def State.relisten (s : State) (r : RefId) (active : Bool) : State :=
  let t := s.setRef r { s.ref r with lossFrom := s.tb.runClock }
  if active then
    (t.setRef r { t.ref r with anchor := some s.capture, count := 0 }).moveRef r .check
  else t

/-- An edge in CHECK, QUALIFIED or UNSYNCED: active edges count, others are ignored (R27; log 16). -/
def State.secondEdge (s : State) (r : RefId) (active : Bool) : State :=
  if active then
    let t := s.failLate r
    (t.setRef r { t.ref r with lossFrom := s.tb.runClock }).placeEdge r s.capture
  else s

/-- An edge on a pulse line, by the state of its reference (R27). -/
def State.pulseEdge (s : State) (r : RefId) (edgeHigh : Bool) : State :=
  let t := s.takeArrived r
  let x := t.ref r
  match x.state with
  | .absent => t.startListen r edgeHigh
  | .listen =>
    match x.polarity with
    | none => t.learn r t.capture edgeHigh
    | some h => t.relisten r (edgeHigh == h)
  | .check | .qualified | .unsynced => t.secondEdge r (x.polarity == some edgeHigh)

/-! ### READ REFERENCES clears the port's latch (R43), restart (R46) -/

def State.clearLost (s : State) (q : Port) : State :=
  s.withSel { s.sel with lost := s.sel.lost.set q false }

/-- One reference at restart (R46). -/
def State.restartRef (s : State) (r : RefId) : State :=
  let x := s.ref r
  let t := s.setRef r { x with
    state := .listen
    count := 0
    anchor := none
    window := none
    two := false
    failed := false
    previous := none
    learning := Learning.empty
    lossFrom := s.tb.runClock }
  if x.state = .listen then t else t.note .refState (datumOf r.code RefState.listen.code)

/-- The selection at restart: none, with the latches set when it was a reference (R43, R46). -/
def State.restartSelection (s : State) : State :=
  if s.sel.selected = none then s else (s.recordSelection none).setLost

/-- The comparison at restart (R46). -/
def State.restartComparison (s : State) : State :=
  if s.sel.disagree then (s.withSel { s.sel with unpaired := none }).moveDisagree false
  else s.withSel { s.sel with unpaired := none, disagreeCount := 0, agreeCount := 0 }

/-- The Reference Monitor at restart (R46). -/
def State.restartReferences (s : State) : State :=
  ((s.restartRef .ref1).restartRef .ref2).restartSelection.restartComparison

end Sys2Proof.Machine
end

