-- ==== Sys2Proof/Machine/Settings.lean ====
section
/-! DEFINITION. The Settings Store (12): items, ranges, the settings record, writing and loading, and
the factory identity copy (R194). -/

namespace Sys2Proof.Machine

/-! ### Items (12.4, R205) -/

/-- The port a qualifier names: G 1, P 2, S 3 (R205). -/
def portNamed (b : Byte) : Option Port :=
  match b.toNat with
  | 1 => some .g
  | 2 => some .p
  | 3 => some .s
  | _ => none

/-- The role a plan's code names (R205). -/
def roleNamed (b : Byte) : Option Role :=
  match b.toNat with
  | 0 => some .running
  | 1 => some .pump
  | 2 => some .condenser
  | 3 => some .tripCause
  | 4 => some .event
  | 5 => some .spare
  | _ => none

/-- The conditions on a line plan (R68). -/
def LinePlan.allowed (plan : LinePlan) : Bool :=
  decide (plan.list.count .running = 1 ∧ plan.list.count .pump ≤ 1
    ∧ plan.list.count .condenser ≤ 1)

/-- The plan that six role codes give, when it meets R68. -/
def planOf (v : List Byte) : Option LinePlan :=
  match v.mapM roleNamed with
  | some roles =>
    if h : roles.length = 6 then
      if LinePlan.allowed ⟨roles, h⟩ then some ⟨roles, h⟩ else none
    else none
  | none => none

/-- Each instant at least 60 minutes after the one before it (R164). -/
def spaced : List Nat → Bool
  | a :: b :: rest => decide (a + 60 ≤ b) && spaced (b :: rest)
  | _ => true

/-- The conditions on a list of handover instants (R164). -/
def instantsAllowed (xs : List Nat) : Bool :=
  decide (2 ≤ xs.length ∧ xs.length ≤ 4) && xs.all (fun m => decide (m ≤ 1439)) && spaced xs
    && decide (xs.getLastD 0 + 60 ≤ xs.headD 0 + 1440)

/-- The instants that a count and four minutes of the day give; unused ones are ignored, and a count
above four gives none (R164, R203, R205). -/
def instantsOf (v : List Byte) : List Nat :=
  if (v.headD 0).toNat ≤ 4 then
    [ofBe ((v.drop 1).take 2), ofBe ((v.drop 3).take 2), ofBe ((v.drop 5).take 2),
      ofBe ((v.drop 7).take 2)].take (v.headD 0).toNat
  else []

/-- A value when it lies in a range. -/
def inRange (low high n : Nat) (w : Settings) : Option Settings :=
  if low ≤ n ∧ n ≤ high then some w else none

/-- A value in a range and on its step of 50 µs (R73). -/
def onStep (high n : Nat) (w : Settings) : Option Settings :=
  if n ≤ high ∧ n % 50 = 0 then some w else none

/-- The settings with one item set: none when the body names no item, unit or port, or when the value
is out of range or off its step (R200). The qualifier of a plain item is ignored (log 23). -/
def Settings.put (w : Settings) (item qual : Byte) (v : List Byte) : Option Settings :=
  let n := ofBe v
  match item.toNat with
  | 0x01 => inRange 10 100000 n { w with stepThreshold := n }
  | 0x02 => inRange 1 10000 n { w with holdoverDrift := n }
  | 0x03 => inRange 1 6 n { w with alarmClass := n }
  | 0x04 => inRange 200 20000 n { w with spacingTolerance := n }
  | 0x05 => inRange 10 10000 n { w with disagreementLimit := n }
  | 0x06 => inRange 1 2 n { w with priority := if n = 1 then .ref1 else .ref2 }
  | 0x07 => inRange 0 255 n { w with bitPeriodP := n }
  | 0x08 => inRange 1 2 n { w with delayD := n }
  | 0x09 => inRange 1 200 n { w with strobeWidth := n }
  | 0x0A =>
    match unitNamed qual, planOf v with
    | some u, some plan => some { w with plans := w.plans.set u plan }
    | _, _ => none
  | 0x0B =>
    match unitNamed qual with
    | some u => some { w with polarities := w.polarities.set u (BitVec.ofNat 8 n) }
    | none => none
  | 0x0C => if n = 250 ∨ n = 500 ∨ n = 1000 then some { w with scanPeriod := n } else none
  | 0x0D => onStep 5000 n { w with fastDebounce := n }
  | 0x0E => onStep 50000 n { w with scannedDebounce := n }
  | 0x0F => inRange 4 30 n { w with chatterLimit := n }
  | 0x10 => inRange 1 60 n { w with chatterWindow := n }
  | 0x11 => inRange 0 30000 n { w with settleTime := n }
  | 0x12 => inRange 1 24 n { w with testLength := n }
  | 0x13 => inRange 100 5000 n { w with tripWindow := n }
  | 0x14 => inRange 0 100 n { w with lookback := n }
  | 0x15 => inRange 1 60 n { w with checkpointInterval := n }
  | 0x16 => if instantsAllowed (instantsOf v) then some { w with instants := instantsOf v } else none
  | 0x17 => inRange 0 60 n { w with earlyMargin := n }
  | 0x18 => inRange 5 180 n { w with grace := n }
  | 0x19 =>
    match portNamed qual with
    | some q => some { w with enables := w.enables.set q (BitVec.ofNat 13 n) }
    | none => none
  | _ => none

def RefId.priorityByte : RefId → List Byte
  | .ref1 => byteOf 1
  | .ref2 => byteOf 2

def instantBytes (xs : List Nat) : List Byte :=
  byteOf xs.length ++ be 2 (xs.getD 0 0) ++ be 2 (xs.getD 1 0) ++ be 2 (xs.getD 2 0)
    ++ be 2 (xs.getD 3 0)

/-- The value bytes of an item (R205); none when the body names no item, unit or port. -/
def Settings.valueOf (w : Settings) (item qual : Byte) : Option (List Byte) :=
  match item.toNat with
  | 0x01 => some (be 4 w.stepThreshold)
  | 0x02 => some (be 2 w.holdoverDrift)
  | 0x03 => some (be 1 w.alarmClass)
  | 0x04 => some (be 4 w.spacingTolerance)
  | 0x05 => some (be 4 w.disagreementLimit)
  | 0x06 => some (RefId.priorityByte w.priority)
  | 0x07 => some (be 1 w.bitPeriodP)
  | 0x08 => some (be 1 w.delayD)
  | 0x09 => some (be 1 w.strobeWidth)
  | 0x0A => (unitNamed qual).map fun u => (w.plans.get u).list.map fun r => BitVec.ofNat 8 r.code
  | 0x0B => (unitNamed qual).map fun u => [w.polarities.get u]
  | 0x0C => some (be 2 w.scanPeriod)
  | 0x0D => some (be 2 w.fastDebounce)
  | 0x0E => some (be 2 w.scannedDebounce)
  | 0x0F => some (be 1 w.chatterLimit)
  | 0x10 => some (be 1 w.chatterWindow)
  | 0x11 => some (be 2 w.settleTime)
  | 0x12 => some (be 1 w.testLength)
  | 0x13 => some (be 2 w.tripWindow)
  | 0x14 => some (be 1 w.lookback)
  | 0x15 => some (be 1 w.checkpointInterval)
  | 0x16 => some (instantBytes w.instants)
  | 0x17 => some (be 1 w.earlyMargin)
  | 0x18 => some (be 1 w.grace)
  | 0x19 => (portNamed qual).map fun q => be 2 (w.enables.get q).toNat
  | _ => none

/-! ### The settings record (R198, R209) -/

/-- The qualifiers an item is kept under: units, ports or none (R205). -/
def qualifiersOf (item : Nat) : List Byte :=
  if item = 0x0A ∨ item = 0x0B then [1, 2, 3, 4, 5, 6]
  else if item = 0x19 then [1, 2, 3]
  else [0]

/-- Every item with its qualifier, in the order of the record (R209). -/
def settingKeys : List (Byte × Byte) :=
  ((List.range 25).map (· + 1)).flatMap fun item =>
    (qualifiersOf item).map fun qual => (BitVec.ofNat 8 item, qual)

/-- A record: marker, values, zeros to byte 507, check (R148, R209). -/
def sealRecord (marker : BitVec 32) (values : List Byte) : List Byte :=
  let head := be 4 marker.toNat ++ values
  let body := head ++ List.replicate (508 - head.length) 0
  body ++ be 4 (crc body).toNat

/-- A record's marker is the one asked for and its check is correct (R148). -/
def recordSound (marker : BitVec 32) (bytes : List Byte) : Bool :=
  ofBe (bytes.take 4) == marker.toNat
    && ofBe ((bytes.drop 508).take 4) == (crc (bytes.take 508)).toNat

def Settings.record (w : Settings) : List Byte :=
  sealRecord Config.settingsMarker
    (settingKeys.flatMap fun k => (Settings.valueOf w k.1 k.2).getD [])

/-- The values of a record taken one after another; none when one is out of range (R198). -/
def takeValues : List (Byte × Byte) → List Byte → Settings → Option Settings
  | [], _, w => some w
  | k :: rest, bytes, w =>
    let len := (valueLength k.1).getD 0
    match Settings.put w k.1 k.2 (bytes.take len) with
    | some x => takeValues rest (bytes.drop len) x
    | none => none

/-- The settings a valid copy holds (R198). -/
def readSettingsRecord (bytes : List Byte) : Option Settings :=
  if recordSound Config.settingsMarker bytes then
    takeValues settingKeys (bytes.drop 4) Config.defaults
  else none

/-! ### Loading and reloading (R198, R199) -/

/-- What sector 32 holds, none when a save that did not end SAVED left it (R198, R201; log 29). -/
def Flash.storedSettings (f : Flash) : Option Settings :=
  if f.spoiled then none
  else readSettingsRecord (f.mem.slice settingsAddress Config.recordSize)

/-- Step 2 of the power-on sequence (R198). -/
def State.loadSettings (s : State) : State :=
  match s.flash.storedSettings with
  | some w =>
    s.withSettings
      { working := w, atCycle := w, stored := w, valid := true, fromDefaults := false, save := none
        outcome := none }
  | none =>
    (s.withSettings
      { working := Config.defaults, atCycle := Config.defaults, stored := Config.defaults, valid := false
        fromDefaults := true, save := none, outcome := none }).raiseAll .settings

/-- The values a restart takes: the stored ones, or the defaults when the copy is BAD (R199). -/
def SettingsStore.reloaded (x : SettingsStore) : Settings :=
  if x.valid then x.stored else Config.defaults

def State.reloadSettings (s : State) : State :=
  s.withSettings { s.settings with working := s.settings.reloaded }

/-- The factory identity copy of a record (R194). -/
def identityOf (bytes : List Byte) : Identity where
  vendor := (bytes.drop 4).take 16
  part := (bytes.drop 20).take 16
  revision := bytes.getD 36 0
  serial := BitVec.ofNat 32 (ofBe ((bytes.drop 37).take 4))
  date := secondOf ((bytes.drop 41).take 4)
  ok := recordSound Config.identityMarker bytes

/-- The identity is read from sector 33 (R194, R196). -/
def State.readIdentity (s : State) : State :=
  { s with identity := identityOf (s.flash.mem.slice identityAddress Config.recordSize) }

/-! ### Writing (R200) -/

/-- The Distribution Driver's settings have changed value (R52). -/
def driverChanged (a b : Settings) : Bool :=
  a.bitPeriodP != b.bitPeriodP || a.delayD != b.delayD || a.strobeWidth != b.strobeWidth

/-- The working settings take new values, and each block concerned is told (R22, R39, R52, R200). -/
def State.applySettings (s : State) (w : Settings) : State :=
  let old := s.settings.working
  let t := s.withSettings { s.settings with working := w }
  let d := if driverChanged old w then t.withDist { t.dist with latency := 2 } else t
  let a := d.reviewAlarm d.cls
  if old.priority = w.priority then a else a.evaluateSelection

/-- WRITE SETTINGS (R200). -/
def State.writeSettings (s : State) (item qual : Byte) (v : List Byte) : Decision :=
  match Settings.put s.settings.working item qual v with
  | some w => (s.applySettings w).ok
  | none => s.refuse .badValue

end Sys2Proof.Machine
end

