-- ==== Sys2Proof/Machine/Journal.lean ====
section
/-! DEFINITION. The Tally Journal and the Flash Controller (09): records, rotation, checkpoints,
erases, retirement, sharing of the flash, the power-fail warning, recovery and restart; with the save of
the settings (R201), which shares the flash. -/

namespace Sys2Proof.Machine

/-! ### The record (R148, R209) -/

def Shift.identityBytes (x : ShiftIdentity) : List Byte :=
  be 4 x.number.toNat ++ [x.crew] ++ secondBytes x.start ++ secondBytes x.nextDue

/-- A last-trip record: presence byte, trip second, class, first-out as an optional value (R209). -/
def lastTripBytes (x : Option LastTrip) : List Byte :=
  optionBytes 7 (x.map fun t =>
    secondBytes t.second ++ byteOf t.cls ++ optionBytes 1 (t.firstOut.map fun l => byteOf l.val))

def JournalUnit.bytes (x : JournalUnit) : List Byte :=
  x.tallies.toList.flatMap (be 6) ++ be 3 x.starts ++ be 3 x.trips ++ be 3 x.closings
    ++ lastTripBytes x.lastTrip

def JournalRecord.bytes (x : JournalRecord) : List Byte :=
  sealRecord Config.journalMarker
    (be 4 x.seq.toNat ++ secondBytes x.second ++ byteOf x.cls ++ byteOf x.causes.toNat
      ++ beInt 4 x.integral ++ be 4 x.retired.toNat ++ Shift.identityBytes x.shift
      ++ x.units.list.flatMap JournalUnit.bytes)

/-- Bytes `a` to `a + len − 1`. -/
def field (bytes : List Byte) (a len : Nat) : List Byte := (bytes.drop a).take len

/-- The line a byte names; a byte above 47 names none (the model's choice, log 49). -/
def lineNamed (b : Byte) : Option LineId :=
  if h : b.toNat < 48 then some ⟨b.toNat, h⟩ else none

/-- A last-trip record read back (R209). Any presence byte other than 0 reads as present (the model's choice,
log 49). -/
def lastTripOf (b : List Byte) : Option LastTrip :=
  if b.headD 0 = 0 then none
  else some
    { second := secondOf (field b 1 4)
      cls := (b.getD 5 0).toNat
      firstOut := if b.getD 6 0 = 0 then none else lineNamed (b.getD 7 0) }

/-- A unit block of 47 bytes read back (R209). -/
def journalUnitOf (b : List Byte) : JournalUnit where
  tallies := ⟨ofBe (field b 0 6), ofBe (field b 6 6), ofBe (field b 12 6), ofBe (field b 18 6),
    ofBe (field b 24 6)⟩
  starts := ofBe (field b 30 3)
  trips := ofBe (field b 33 3)
  closings := ofBe (field b 36 3)
  lastTrip := lastTripOf (field b 39 8)

/-- The values of a record read back (R209). -/
def journalRecordOf (b : List Byte) : JournalRecord where
  seq := BitVec.ofNat 32 (ofBe (field b 4 4))
  second := secondOf (field b 8 4)
  cls := (b.getD 12 0).toNat
  causes := BitVec.ofNat 6 (b.getD 13 0).toNat
  integral := ofBeInt (field b 14 4)
  retired := BitVec.ofNat 32 (ofBe (field b 18 4))
  shift :=
    { number := BitVec.ofNat 32 (ofBe (field b 22 4))
      crew := b.getD 26 0
      start := secondOf (field b 27 4)
      nextDue := secondOf (field b 31 4) }
  units := Table.build fun u => journalUnitOf (field b (35 + 47 * u.val) 47)

/-- A slot reads as blank, valid or damaged (R148). -/
inductive SlotKind
  | blank
  | valid (record : JournalRecord)
  | damaged
  deriving DecidableEq, Repr

def Memory.slotBytes (m : Memory) (sector : Fin 32) (slot : Fin 8) : List Byte :=
  m.slice (slotAddress sector slot) Config.recordSize

def Memory.slotBlank (m : Memory) (sector : Fin 32) (slot : Fin 8) : Bool :=
  m.blank (slotAddress sector slot) Config.recordSize

def Memory.slotKind (m : Memory) (sector : Fin 32) (slot : Fin 8) : SlotKind :=
  if m.slotBlank sector slot then .blank
  else
    let bytes := m.slotBytes sector slot
    if recordSound Config.journalMarker bytes then .valid (journalRecordOf bytes) else .damaged

/-- The values of a checkpoint as they stand now (R148, R151). -/
def State.capturedRecord (s : State) : JournalRecord where
  seq := s.journal.nextSeq
  second := s.tb.second
  cls := s.cls
  causes := s.journal.pending
  integral := s.tb.integral
  retired := s.journal.retired
  shift := s.shift.identity
  units := s.tally.units.map fun x => ⟨x.tallies, x.starts, x.trips, x.closings, x.lastTrip⟩

/-! ### The rotation (R147) -/

/-- The sector after a sector in rotation (R147). -/
def sectorAfter (retired : BitVec 32) (sector : Fin 32) : Fin 32 :=
  (((List.range 32).map fun i => sector + 1 + Fin.ofNat 32 i).find? fun x =>
    !retired.getLsbD x.val).getD sector

/-- The slot after a slot (R147). -/
def slotAfter (retired : BitVec 32) (sector : Fin 32) (slot : Fin 8) : Fin 32 × Fin 8 :=
  if slot = 7 then (sectorAfter retired sector, 0) else (sector, slot + 1)

def Journal.nextSector (j : Journal) : Fin 32 := sectorAfter j.retired j.sector

/-- How many sectors are retired. -/
def retiredCount (retired : BitVec 32) : Nat :=
  (List.range 32).countP fun i => retired.getLsbD i

/-- The state the number of retired sectors gives (R155). -/
def stateOfRetired (n : Nat) : JournalState :=
  if n ≤ 7 then .normal else if n ≤ 28 then .degraded else .failed

def State.withOp (s : State) (op : FlashOp) : State := s.withFlash { s.flash with op := op }

def State.withMem (s : State) (m : Memory) : State := s.withFlash { s.flash with mem := m }

/-! ### Journal state and retirement (R154, R155) -/

/-- A JOURNAL record and its notice (R154, R155). -/
def State.noteJournal (s : State) (high low : Nat) : State :=
  (s.note .journal (datumOf high low)).raiseAll .journal

/-- A change of journal state; FAILED clears the pending checkpoint and abandons the one in progress
(R153, R155). -/
def State.enterJournalState (s : State) (st : JournalState) : State :=
  let j := { s.journal with state := st }
  (s.withJournal (if st = .failed then { j with pending := 0, retry := none } else j)).noteJournal
    0 st.code

/-- The state is re-evaluated; `verified` says that the first checkpoint has been (R155). -/
def State.reviewJournal (s : State) (verified : Bool) : State :=
  let byCount := stateOfRetired (retiredCount s.journal.retired)
  let new :=
    if s.journal.state = .failed then .failed
    else if s.journal.state = .empty ∧ verified = false ∧ byCount ≠ .failed then .empty
    else byCount
  if new = s.journal.state then s else s.enterJournalState new

/-- The flag of a sector in the retired set. -/
def sectorFlag (sector : Fin 32) : BitVec 32 := 1#32 <<< sector.val

/-- A mark that names a sector is taken away. -/
def clearMark (sector : Fin 32) (mark : Option (Fin 32)) : Option (Fin 32) :=
  if mark = some sector then none else mark

/-- The retired set with a sector in it. A retired sector is not erased again, so a mark that calls for
its erase goes with its retirement (R147, R154). -/
def Journal.retiring (j : Journal) (sector : Fin 32) : Journal :=
  { j with
    retired := j.retired ||| sectorFlag sector
    owedErase := clearMark sector j.owedErase
    reErase := clearMark sector j.reErase }

/-- A sector is retired (R154); during recovery the state is set at its end (R160). -/
def State.retire (s : State) (sector : Fin 32) : State :=
  let t := (s.withJournal (s.journal.retiring sector)).noteJournal 1 sector.val
  if s.phase = .recovering then t else t.reviewJournal false

/-! ### Settings work on the flash (R201) -/

/-- The end of a save (R201). With every outcome but SAVED the copy is BAD, whatever bytes sector 32 was
left with (log 29). -/
def State.endSave (s : State) (o : SaveOutcome) : State :=
  match s.settings.save with
  | none => s
  | some x =>
    let t := s.withSettings { s.settings with
      save := none
      outcome := some o
      stored := if o = .saved then x.values else s.settings.stored
      valid := decide (o = .saved) }
    let f := t.withFlash { t.flash with spoiled := decide (o ≠ .saved) }
    let u := if o = .saved then f else f.raiseAll .settings
    u.modPort .g fun y => y.answerSave (byteOf o.code)

def State.withSave (s : State) (stage : SaveStage) (values : Settings) : State :=
  s.withSettings { s.settings with save := some ⟨stage, values⟩ }

/-- A waiting settings operation begins (R156, R201). -/
def State.beginSettingsWork (s : State) : State :=
  match s.settings.save with
  | some ⟨.waitErase, v⟩ => (s.withSave .erasing v).withOp .settingsErase
  | some ⟨.waitProgram, v⟩ => (s.withSave .programming v).withOp .settingsProgram
  | _ => s

/-! ### Beginning operations (R151, R153, R155, R156) -/

/-- The erase of a sector begins; an erase mark for that sector is served by it (R155, R156). -/
def State.beginErase (s : State) (sector : Fin 32) : State :=
  let j := s.journal
  (s.withJournal { j with
    owedErase := clearMark sector j.owedErase
    reErase := clearMark sector j.reErase }).withOp (.erase sector)

/-- A record goes into the current slot. -/
def State.beginProgram (s : State) (r : JournalRecord) : State :=
  s.withOp (.program s.journal.sector s.journal.slot r)

/-- A checkpoint is captured and begins to program (R151). -/
def State.beginCheckpoint (s : State) : State :=
  (s.withJournal { s.journal with
    nextSeq := s.journal.nextSeq + 1
    pending := 0
    lastCapture := some s.tb.runClock
    countChanged := false }).beginProgram s.capturedRecord

/-- No re-erase mark and no owed erase is held (R151). -/
def Journal.noMarks (j : Journal) : Bool := j.reErase.isNone && j.owedErase.isNone

/-- The order in which the Flash Controller grants a free flash (R156): the retry of the checkpoint in
progress (R153; log 28), an owed erase, a re-erase mark, then a settings operation when no checkpoint is
pending. A pending checkpoint begins by its own command. -/
def State.grantFlash (s : State) : State :=
  let j := s.journal
  if s.flash.op ≠ .none ∨ j.taken then s
  else if j.state = .failed then s.beginSettingsWork
  else
    match j.retry, j.owedErase, j.reErase with
    | some r, _, _ => (s.withJournal { j with retry := none }).beginProgram r
    | none, some x, _ => s.beginErase x
    | none, none, some x => s.beginErase x
    | none, none, none => if j.pending = 0 then s.beginSettingsWork else s

/-- A pending checkpoint is granted the flash (R151). -/
def State.checkpointReady (s : State) : Bool :=
  let j := s.journal
  s.watching && decide (j.pending ≠ 0 ∧ j.state ≠ .failed ∧ s.flash.op = .none)
    && !j.taken && j.noMarks && j.retry.isNone

def State.checkpointBegin (s : State) : State :=
  if s.checkpointReady then s.beginCheckpoint else s

/-! ### Interval and pace (R150) -/

/-- The checkpoint interval of some settings has passed since the last capture (R150). -/
def State.intervalPassed (s : State) (w : Settings) : Bool :=
  decide (s.journal.since + w.checkpointInterval * 60 * Config.second ≤ s.tb.runClock)

/-- The interval has run out; an end that a write has moved behind the present cycle is reached at the
next one (R150; log 37). -/
def State.intervalDue (s : State) : Bool :=
  s.watching && s.intervalPassed s.settings.working && s.intervalPassed s.settings.atCycle

def State.intervalRequest (s : State) : State :=
  if s.intervalDue then s.requestCheckpoint .interval else s

def State.countPaceDue (s : State) : Bool :=
  s.watching && s.journal.countChanged
    && decide (s.journal.since + Config.countPace ≤ s.tb.runClock)

def State.paceRequest (s : State) : State :=
  if s.countPaceDue then s.requestCheckpoint .count else s

/-! ### Leaving a slot (R152, R153, R157) -/

/-- The sector left is retired when it is marked for it (R152, R153). -/
def State.leaveSector (s : State) (old : Fin 32) : State :=
  if s.journal.retireOnLeave then
    (s.withJournal { s.journal with retireOnLeave := false }).retire old
  else s

/-- The sector after the new current one is erased, or owed while the power-fail state is TAKEN; no
erase begins in FAILED (R152, R155, R157). The owed erase is one sector: an older one that is still held
is lost (log 42). -/
def State.eraseAhead (s : State) : State :=
  if s.journal.state = .failed then s
  else if s.journal.taken then
    s.withJournal { s.journal with owedErase := some s.journal.nextSector }
  else s.beginErase s.journal.nextSector

/-- The current slot moves to the slot after it, and the sector left is handled (R147, R152, R153). -/
def State.moveOn (s : State) : State :=
  let j := s.journal
  let p := slotAfter j.retired j.sector j.slot
  let t := s.withJournal { j with sector := p.1, slot := p.2 }
  if p.1 = j.sector then t else (t.leaveSector j.sector).eraseAhead

/-! ### The power-fail checkpoint (R157) -/

def State.withStage (s : State) (x : PowerFailStage) : State :=
  s.withJournal { s.journal with stage := x }

/-- The power-fail checkpoint is captured and begins at once (R157). -/
def State.beginPowerFail (s : State) : State :=
  if s.journal.state = .failed then s.withStage .done
  else
    ((s.withJournal { s.journal with
      pending := s.journal.pending ||| Cause.powerFail.bit }).beginCheckpoint).withStage .firstTry

/-- The current sector is verified blank from its current slot: it is neither marked nor owed (R157). -/
def Journal.retryAllowed (j : Journal) : Bool :=
  decide (j.reErase ≠ some j.sector ∧ j.owedErase ≠ some j.sector)

/-- The power-fail checkpoint is programmed once more (R157). -/
def State.retryPowerFail (s : State) (r : JournalRecord) : State :=
  if s.journal.state ≠ .failed ∧ s.journal.retryAllowed then
    (s.beginProgram r).withStage .secondTry
  else s.withStage .done

/-- The power-fail checkpoint of a warning that was released before the program it found in flight has
ended: it begins at once when the flash is free, and is pending otherwise (R157; log 25). -/
def State.beginReleasedPowerFail (s : State) : State :=
  let t := s.withStage .none
  if s.journal.state = .failed then t
  else
    let p := t.requestCheckpoint .powerFail
    if p.flash.op = .none then p.beginCheckpoint else p

/-- What follows a program that has ended while the power-fail state is TAKEN (R157). A restart in TAKEN does
not hold back a power-fail checkpoint that waited for this end, although R162 begins no checkpoint before the
release (the model's choice, log 25). -/
def State.afterTakenProgram (s : State) (r : JournalRecord) (verified : Bool) : State :=
  match s.journal.stage with
  | .waiting => s.beginPowerFail
  | .firstTry => if verified then s.withStage .done else s.retryPowerFail r
  | .secondTry => s.withStage .done
  | .none | .done => s

/-! ### The end of a program (R152, R153) -/

/-- A program has been verified (R152). -/
def State.programVerified (s : State) (sector : Fin 32) (slot : Fin 8) (r : JournalRecord) : State :=
  ((s.withJournal { s.journal with newest := some ⟨r, sector, slot⟩ }).reviewJournal true).moveOn

/-- A program has failed: the record waits for its retry, unless the power-fail checkpoint takes its
place or the journal has become FAILED (R153, R157). -/
def State.programFailed (s : State) (r : JournalRecord) : State :=
  let t := (s.withJournal { s.journal with
    programFailures := satAdd Config.smallCap s.journal.programFailures 1
    retireOnLeave := true }).moveOn
  if t.journal.taken || decide (t.journal.stage = .waiting ∨ t.journal.state = .failed) then t
  else t.withJournal { t.journal with retry := some r }

/-- What an array holds once a program of a record's bytes has ended: what programming leaves, or the bytes
that a failed program left, which may be the record's own (9.1, R152, R153, R201; log 52). -/
def Memory.afterProgram (m : Memory) (address : Nat) (bytes : List Byte) (left : Option (List Byte)) :
    Memory :=
  match left with
  | none => m.program address bytes
  | some rest => m.replace address Config.recordSize rest

/-- Whether the read-back of a program matched its bytes: with bytes given it differed whatever the slot is
left holding, and without them it is what the slot holds (R152, R153, R201; log 52). -/
def Memory.readBackMatches (m : Memory) (address : Nat) (bytes : List Byte)
    (left : Option (List Byte)) : Bool :=
  left.isNone && m.slice address Config.recordSize == bytes

/-- The program of a record ends and is read back. A failed program leaves a damaged slot, or a valid copy of
its record when the read-back alone differed (R152, R153, R157; log 52). -/
def State.endProgram (s : State) (sector : Fin 32) (slot : Fin 8) (r : JournalRecord)
    (left : Option (List Byte)) : State :=
  let a := slotAddress sector slot
  let t := (s.withMem (s.flash.mem.afterProgram a r.bytes left)).withOp .none
  let verified := t.flash.mem.readBackMatches a r.bytes left
  let u := if verified then t.programVerified sector slot r else t.programFailed r
  (if s.journal.taken then u.afterTakenProgram r verified
    else if s.journal.stage = .waiting then u.beginReleasedPowerFail
    else u).grantFlash

def State.programEnd (s : State) (left : Option (List Byte)) : State :=
  match s.flash.op with
  | .program sector slot r => s.endProgram sector slot r left
  | _ => s

/-! ### Recovery (R159, R160) -/

/-- A place found by the scan of the journal. -/
structure Found where
  record : JournalRecord
  sector : Fin 32
  slot : Fin 8
  deriving DecidableEq, Repr

/-- Every slot of the journal, in the order of its addresses. -/
def allJournalSlots : List (Fin 32 × Fin 8) :=
  (List.finRange 32).flatMap fun a => (List.finRange 8).map fun b => (a, b)

/-- The valid record that a slot holds (R148). -/
def Memory.foundAt (m : Memory) (p : Fin 32 × Fin 8) : Option Found :=
  match m.slotKind p.1 p.2 with
  | .valid r => some ⟨r, p.1, p.2⟩
  | .blank | .damaged => none

/-- The valid records of sectors 0 to 31, retired or not, in the order of their addresses (R159). -/
def Memory.validRecords (m : Memory) : List Found := allJournalSlots.filterMap m.foundAt

/-- The newer of two valid records by their sequences; of two copies the one found first (R159). -/
def newerFound (best : Option Found) (x : Found) : Option Found :=
  match best with
  | none => some x
  | some b => if b.record.seq.toNat < x.record.seq.toNat then some x else some b

/-- A record with the highest sequence, the first of its copies by address (R159). -/
def newestOf (xs : List Found) : Option Found := xs.foldl newerFound none

/-- A slot's place in the cyclic order of all slots, which the rotation keeps whatever sectors it skips
(R147). -/
def slotPlace (sector : Fin 32) (slot : Fin 8) : Fin 256 := ⟨8 * sector.val + slot.val, by omega⟩

/-- Where the rotation stood before the copies of a sequence: at the newest record older than it, or at the
first slot when there is none, since an empty journal begins there. DEDUCED (log 57). -/
def placeBefore (xs : List Found) (sequence : BitVec 32) : Fin 256 :=
  match newestOf (xs.filter fun y => decide (y.record.seq.toNat < sequence.toNat)) with
  | some y => slotPlace y.sector y.slot
  | none => 0

/-- How far in rotation a record lies after a place. -/
def Found.distance (x : Found) (start : Fin 256) : Nat := (slotPlace x.sector x.slot - start).val

/-- The later in rotation of two copies. -/
def laterCopy (start : Fin 256) (best x : Found) : Found :=
  if best.distance start < x.distance start then x else best

/-- The last copy of a record in rotation, the verified retry. A sector that was retired between two tries
lies between their copies and is in no retired set that recovery can read, so the copies are ordered by how
far they lie after the record before them (R147, R153, R159; log 57). -/
def lastCopy (xs : List Found) (x : Found) : Found :=
  (xs.filter fun y => decide (y.record.seq = x.record.seq)).foldl
    (laterCopy (placeBefore xs x.record.seq)) x

/-- The newest valid record: the highest sequence, the last of its copies in rotation (R159). -/
def Memory.newestRecord (m : Memory) : Option Found :=
  (newestOf m.validRecords).map (lastCopy m.validRecords)

/-- A damaged slot stands before a slot in its sector (R160). -/
def Memory.damagedBefore (m : Memory) (sector : Fin 32) (slot : Fin 8) : Bool :=
  (List.finRange 8).any fun k => decide (k < slot) && decide (m.slotKind sector k = .damaged)

/-- Every slot of a sector from a slot onward is blank (R160). -/
def Memory.blankFrom (m : Memory) (sector : Fin 32) (slot : Fin 8) : Bool :=
  m.blank (slotAddress sector slot) ((8 - slot.val) * Config.recordSize)

/-- The Journal Controller before placement, power-on values with the pins kept (R159). -/
def Journal.cleared (warning : Bool) : Journal :=
  { Journal.powerOn with warning := warning, taken := warning
                         stage := if warning then .done else .none }

/-- The rotation placed after the newest record (R159, R160; log 26). -/
def Journal.placed (j : Journal) (m : Memory) (x : Found) : Journal :=
  let p := slotAfter x.record.retired x.sector x.slot
  let stay := m.blankFrom p.1 p.2
  let sector := if stay then p.1 else sectorAfter x.record.retired p.1
  { j with
    sector := sector
    slot := if stay then p.2 else 0
    nextSeq := x.record.seq + 1
    retired := x.record.retired
    retireOnLeave := decide (sector = x.sector) && m.damagedBefore x.sector x.slot
    newest := some ⟨x.record, x.sector, x.slot⟩ }

/-- Recovery reads the journal and places the rotation (R159, R160). -/
def State.scanJournal (s : State) : State :=
  let j := Journal.cleared s.journal.warning
  match s.flash.mem.newestRecord with
  | some x => s.withJournal (j.placed s.flash.mem x)
  | none => s.withJournal j

/-- The erase that recovery needs next: one abandoned at a warning, then the current sector when its
slot is 0, then the sector after it; none once 29 sectors are retired (R158, R160; log 27). -/
def State.recoveryErase (s : State) : Option (Fin 32) :=
  let j := s.journal
  if 29 ≤ retiredCount j.retired then none
  else
    match j.reErase with
    | some x => some x
    | none =>
      if j.slot = 0 ∧ s.flash.mem.sectorBlank j.sector.val = false then some j.sector
      else if s.flash.mem.sectorBlank j.nextSector.val = false then some j.nextSector
      else none

/-- Recovery goes on while the power-fail state is CLEAR (R158, R160). -/
def State.continueRecovery (s : State) : State :=
  if s.journal.taken then s
  else
    match s.recoveryErase with
    | some x => s.beginErase x
    | none => s

/-- The rotation moves on from its current sector when that has been retired, since no record goes into
a retired sector (R147, R160). -/
def State.leaveRetired (s : State) (sector : Fin 32) : State :=
  if s.journal.sector = sector then
    s.withJournal { s.journal with
      sector := s.journal.nextSector, slot := 0, retireOnLeave := false }
  else s

/-- A failed erase in recovery: the sector is retired, and the rotation moves on from it (R160). -/
def State.recoveryEraseFailed (s : State) (sector : Fin 32) : State :=
  (s.retire sector).leaveRetired sector

/-- Recovery has nothing left to do (R158, R160). -/
def State.recoveryDone (s : State) : Bool :=
  decide (s.phase = .recovering ∧ s.flash.op = .none) && !s.journal.taken
    && s.recoveryErase.isNone

/-! ### The end of an erase (R155) -/

def State.countEraseFailure (s : State) : State :=
  s.withJournal { s.journal with
    eraseFailures := satAdd Config.smallCap s.journal.eraseFailures 1 }

/-- A failed erase: the sector is retired, the rotation moves on from it when it was the current one, and
the erase of the sector after the new current one begins unless the journal is FAILED (R147, R155). -/
def State.eraseFailed (s : State) (sector : Fin 32) : State :=
  ((s.countEraseFailure.retire sector).leaveRetired sector).eraseAhead

/-- The erase of a sector ends and is checked (R155, R160). -/
def State.endErase (s : State) (sector : Fin 32) (left : List Byte) : State :=
  let t := (s.withMem (s.flash.mem.eraseSector sector.val left)).withOp .none
  let blank := t.flash.mem.sectorBlank sector.val
  if s.phase = .recovering then
    (if blank then t else t.countEraseFailure.recoveryEraseFailed sector).continueRecovery
  else (if blank then t else t.eraseFailed sector).grantFlash

def State.eraseEnd (s : State) (left : List Byte) : State :=
  match s.flash.op with
  | .erase sector => s.endErase sector left
  | _ => s

/-! ### The save of the settings (R201) -/

/-- SAVE SETTINGS (R201). -/
def State.saveSettings (s : State) : Decision :=
  match s.settings.save with
  | some _ => s.refuse .wrongState
  | none => ⟨(s.withSave .waitErase s.settings.working).grantFlash, .later⟩

/-- The erase of sector 32 ends (R201). -/
def State.settingsEraseEnd (s : State) (left : List Byte) : State :=
  match s.flash.op, s.settings.save with
  | .settingsErase, some x =>
    let t := s.withFlash
      { mem := s.flash.mem.eraseSector 32 left, op := .none, spoiled := false }
    (if t.flash.mem.sectorBlank 32 then t.withSave .waitProgram x.values
      else t.endSave .eraseFailed).grantFlash
  | _, _ => s

/-- The program of sector 32 ends and is read back as a record's is (R201; log 52). -/
def State.settingsProgramEnd (s : State) (left : Option (List Byte)) : State :=
  match s.flash.op, s.settings.save with
  | .settingsProgram, some x =>
    let record := Settings.record x.values
    let t := (s.withMem (s.flash.mem.afterProgram settingsAddress record left)).withOp .none
    (t.endSave (if t.flash.mem.readBackMatches settingsAddress record left then .saved
      else .programFailed)).grantFlash
  | _, _ => s

/-! ### The power-fail warning (R157, R158) -/

/-- An erase abandoned in the middle: what its bytes hold is a free value, and the sector takes the
re-erase mark (R157, R162; log 8), which holds one sector: an older mark is lost (log 42). -/
def State.abandonErase (s : State) (sector : Fin 32) : State :=
  let f := s.freeBytes Config.sectorSize
  ((f.2.withMem (s.flash.mem.eraseSector sector.val f.1)).withOp .none).withJournal
    { s.journal with reErase := some sector }

/-- Work on sector 32 stopped in the middle: the copy there is unusable (R157, 12.5). -/
def State.abandonSettingsWork (s : State) : State :=
  let f := s.freeBytes Config.sectorSize
  (f.2.withFlash
    { mem := s.flash.mem.eraseSector 32 f.1, op := .none, spoiled := true }).endSave .abandoned

/-- A save that waits between its erase and its program is abandoned (R157). -/
def State.abandonWaitingSave (s : State) : State :=
  match s.settings.save with
  | some ⟨.waitProgram, _⟩ => s.endSave .abandoned
  | _ => s

/-- What is in flight when the warning is taken (R157). -/
def State.stopFlash (s : State) : State :=
  match s.flash.op with
  | .erase sector => s.abandonErase sector
  | .settingsErase => s.abandonSettingsWork
  | .settingsProgram => s.abandonSettingsWork
  | .program _ _ _ => s
  | .none => s

/-- The power-fail state becomes TAKEN (R157). A checkpoint that waits for its retry is replaced by the
power-fail checkpoint; during the power-on sequence nothing is programmed (R158, R196; log 25). -/
def State.takeWarning (s : State) : State :=
  let t := s.stopFlash.abandonWaitingSave
  let u := t.withJournal { t.journal with taken := true, stage := .waiting, retry := none }
  if s.phase ≠ .running then u.withStage .done
  else
    match u.flash.op with
    | .program _ _ _ => u
    | _ => u.beginPowerFail

/-- Assertion of the warning line (R157, R158). -/
def State.powerFailWarning (s : State) : State :=
  let t := s.withJournal { s.journal with warning := true }
  match s.phase with
  | .off | .starting => t
  | .recovering => if s.journal.taken then t else t.takeWarning
  | .baselining | .running =>
    if s.journal.taken || decide (s.journal.state = .failed) then t else t.takeWarning

/-- The power-fail checkpoint that still waits for the program in flight outlives the release of the
warning (R157; log 25). -/
def State.stageReleased (s : State) : PowerFailStage :=
  match s.journal.stage, s.flash.op with
  | .waiting, .program _ _ _ => .waiting
  | _, _ => .none

/-- Release of the warning line (R158). -/
def State.powerFailRelease (s : State) : State :=
  let t := s.withJournal { s.journal with
    warning := false, taken := false, stage := s.stageReleased }
  if s.journal.taken then
    if s.phase = .recovering then
      if s.flash.op = .none then t.continueRecovery else t
    else t.grantFlash
  else s.withJournal { s.journal with warning := false }

/-! ### Restart (R162) -/

/-- The Journal Controller at restart: an erase in flight is abandoned and marked; it begins afresh when
the flash is next granted (R162; log 32). -/
def State.restartJournal (s : State) : State :=
  match s.flash.op with
  | .erase sector => s.abandonErase sector
  | _ => s

/-! ### The supply falls (R157) -/

/-- A program cut short leaves old bytes with some bits programmed: which, is a free value (9.1). -/
def State.cutProgram (s : State) (a : Nat) : State :=
  let f := s.freeBytes Config.recordSize
  f.2.withMem (s.flash.mem.program a f.1)

/-- What the loss of the supply leaves of the operation in flight (R157, R160, 12.5; log 8). -/
def State.cutFlash (s : State) : State :=
  match s.flash.op with
  | .program sector slot _ => (s.cutProgram (slotAddress sector slot)).withOp .none
  | .erase sector => s.abandonErase sector
  | .settingsErase => s.abandonSettingsWork
  | .settingsProgram => s.abandonSettingsWork
  | .none => s

end Sys2Proof.Machine
end

