-- ==== Sys2Proof/Machine/Answers.lean ====
section
/-! DEFINITION. What the owners answer to the requests that read: the bodies of 13 and of the rules that
list their values; where no layout is given, each value as its type of R203 (log 22). -/

namespace Sys2Proof.Machine

/-! ### READ TIME (R24) -/

def lastStepBytes (x : Option LastStep) : List Byte :=
  optionBytes 16 (x.map fun l => clockBytes l.runClock ++ beInt 8 l.e)

def State.readTime (s : State) : Decision :=
  let t := s.tb
  s.gives (secondBytes t.second ++ numberBytes t.nanos ++ byteOf s.cls ++ numberBytes t.uncertainty
    ++ byteOf t.state.code ++ flagByte t.unset ++ numberBytes t.rate ++ numberBytes t.integral
    ++ numberBytes t.outliers ++ clockBytes t.runClock ++ flagByte t.alarm
    ++ lastStepBytes t.lastStep)

/-! ### READ REFERENCES (R44) -/

def polarityCode : Option Bool → Nat
  | none => 0
  | some true => 1
  | some false => 2

def messageBytes (m : MessageInfo) : List Byte :=
  secondBytes m.second ++ byteOf m.claim ++ [m.flags] ++ numberBytes m.sequence.toNat

def anchorBytes (a : Capture) : List Byte := secondBytes a.second ++ numberBytes a.nanos

def Reference.bytes (x : Reference) : List Byte :=
  byteOf x.state.code ++ byteOf (polarityCode x.polarity) ++ numberBytes x.count
    ++ byteOf ((x.lastFailure.map FailCause.code).getD 0)
    ++ optionBytes 1 (x.claim.map byteOf)
    ++ optionBytes 10 (x.lastMessage.map messageBytes)
    ++ optionBytes 8 (x.anchor.map anchorBytes)

def Selection.bytes (x : Selection) (priority : RefId) : List Byte :=
  byteOf x.mode.code ++ byteOf (selectionCode x.selected) ++ byteOf priority.code
    ++ flagByte x.disagree ++ numberBytes x.disagreeCount ++ numberBytes x.agreeCount
    ++ numberBytes x.lastDifference

/-- READ REFERENCES: the port's latch clears after the answer has taken it (R43, R44). -/
def State.readReferences (s : State) (q : Port) : Decision :=
  (s.clearLost q).gives ((s.ref .ref1).bytes ++ (s.ref .ref2).bytes
    ++ s.sel.bytes s.settings.working.priority ++ flagByte (s.sel.lost.get q))

/-! ### READ LINES (R74) -/

def Line.held (x : Line) : Option Bool :=
  match x.chatter with
  | .chattering held _ => some held
  | _ => none

def Line.windowCount (x : Line) : Option Nat :=
  match x.chatter with
  | .counting _ _ n => some n
  | _ => none

def Line.isChattering (x : Line) : Bool := x.held.isSome

def Line.bytes (l : LineId) (x : Line) : List Byte :=
  numberBytes l.val ++ byteOf x.role.code ++ flagByte x.inverted ++ flagByte x.raw
    ++ flagByte x.filtered ++ flagByte x.pend.isSome
    ++ optionBytes 7 (x.pend.map fun c => stampDate c.stamp)
    ++ byteOf x.chatter.code ++ optionBytes 4 (x.windowCount.map fun n => numberBytes n)
    ++ optionBytes 1 (x.held.map flagByte) ++ smallBytes x.suppressed

/-- The lines of a unit, u.0 to u.7. -/
def unitLines (u : UnitId) : List LineId := (List.finRange 8).map (lineOf u)

/-- The role codes in force of lines u.2 to u.7. -/
def State.planInForce (s : State) (u : UnitId) : List Byte :=
  ((unitLines u).drop 2).map fun l => BitVec.ofNat 8 (s.line l).role.code

/-- The polarities in force of a unit's eight lines, u.0 lowest. -/
def State.polarityInForce (s : State) (u : UnitId) : Byte :=
  BitVec.ofNat 8 (flagSet ((unitLines u).map fun l => (s.line l).inverted))

/-- The working plan or polarities of a unit differ from those in force (R69). -/
def State.planPending (s : State) (u : UnitId) : Bool :=
  (s.settings.working.plans.get u).list.map (fun r => BitVec.ofNat 8 r.code) != s.planInForce u
    || s.settings.working.polarities.get u != s.polarityInForce u

/-- A set of 48 line flags, line 0 lowest (R203). -/
def State.lineSet (s : State) (f : Line → Bool) : List Byte :=
  be 6 (flagSet (s.lines.tab.list.map f))

/-- READ LINES (R74). -/
def State.readLines (s : State) (unit : Byte) : Decision :=
  if unit = 0 then
    s.gives (s.lineSet (fun x => x.raw) ++ s.lineSet (fun x => x.filtered)
      ++ s.lineSet (fun x => x.pend.isSome) ++ s.lineSet Line.isChattering
      ++ s.lineSet Line.isChattering ++ allUnits.flatMap (fun u => flagByte (s.planPending u))
      ++ numberBytes s.lines.period ++ numberBytes s.settings.working.scanPeriod)
  else
    match unitNamed unit with
    | none => s.refuse .badValue
    | some u =>
      s.gives ((unitLines u).flatMap (fun l => Line.bytes l (s.line l))
        ++ flagByte (s.planPending u))

/-! ### READ UNIT (R89, R144) -/

/-- A unit's line with a role is CHATTERING, so that the level is a held one. -/
def State.roleHeld (s : State) (u : UnitId) (r : Role) : Bool :=
  (unitLines u).any fun l => decide ((s.line l).role = r) && (s.line l).isChattering

def State.roleAbsent (s : State) (u : UnitId) (r : Role) : Bool :=
  (unitLines u).all fun l => decide ((s.line l).role ≠ r)

/-- The levels R, B, P, C; the marks of held levels; the marks that the plan has no PUMP or no
CONDENSER line (R89; their order, log 22). -/
def State.levelBytes (s : State) (u : UnitId) : List Byte :=
  let x := (s.modeOf u).levels
  [x.running, x.breaker, x.pump, x.condenser].flatMap flagByte
    ++ [Role.running, .breaker, .pump, .condenser].flatMap (fun r => flagByte (s.roleHeld u r))
    ++ [Role.pump, .condenser].flatMap (fun r => flagByte (s.roleAbsent u r))

/-- The settled-since date with its class, an optional value (R203; log 22). -/
def sinceBytes (x : Option Stamp) : List Byte :=
  optionBytes 8 (x.map fun t => stampDate t ++ byteOf t.cls)

def candidateBytes (x : Option Candidate) : List Byte :=
  optionBytes 8 (x.map fun c => byteOf c.mode.code ++ stampDate c.start)

/-- The test state, then the start date and the time left as one optional value (R89, R203; log 22). -/
def testBytes (x : Option TestRun) (now : Nat) : List Byte :=
  flagByte x.isSome ++ optionBytes 11 (x.map fun t =>
    stampDate t.start ++ leftBytes (timeLeft t.deadline now Config.second))

/-- The Mode Detector's part of READ UNIT (R89). -/
def State.modePart (s : State) (u : UnitId) : List Byte :=
  let x := s.modeOf u
  s.levelBytes u ++ byteOf (modeCode x.settled) ++ sinceBytes x.since ++ candidateBytes x.candidate
    ++ testBytes x.test s.tb.runClock

/-- The five tallies, STAND first (R133, R144). -/
def talliesBytes (t : PerMode Nat) (sat : PerMode Bool) : List Byte :=
  (t.toList.zip sat.toList).flatMap fun x => tallyBytes x.1 x.2

/-- The Tally Unit's part of READ UNIT (R144). -/
def State.tallyPart (s : State) (u : UnitId) : List Byte :=
  let x := s.tallyOf u
  talliesBytes x.tallies x.saturated ++ countBytes x.starts ++ countBytes x.trips
    ++ countBytes x.closings ++ lastTripBytes x.lastTrip
    ++ optionBytes 4 (x.permit.map fun grant =>
        leftBytes (timeLeft (grant + Config.tenMinutes) s.tb.runClock Config.second))
    ++ flagByte s.tally.locked

/-- READ UNIT (R89, R144). DESIGN CHOICE (log 55): the Mode Detector's part comes first, as R144 names it;
R89 names the tallies and counts first, and the manual leaves the order of the two parts open. -/
def State.readUnit (s : State) (unit : Byte) : Decision :=
  match unitNamed unit with
  | none => s.refuse .badValue
  | some u => s.gives (s.modePart u ++ s.tallyPart u)

/-! ### READ EVENTS and SEEK EVENTS (R101 to R106, R206) -/

def Record.bytes (r : Record) : List Byte :=
  be 4 r.seq.toNat ++ dateBytes r.second r.micros ++ [r.kind.code, r.field]
    ++ byteOf (r.cls * 16 + packFlags [r.test, r.scanned, r.stepNear, r.derived])
    ++ be 2 r.datum.toNat

/-- The count served (R101). -/
def servedCount (count : Byte) : Nat :=
  if count.toNat = 0 ∨ 8 < count.toNat then 8 else count.toNat

/-- The records from a port's cursor onwards, up to the count served (R101). -/
def Ring.readable (r : Ring) (q : Port) (count : Byte) : List Record :=
  (r.records.drop (r.cursors.get q - r.oldest).toNat).take (servedCount count)

/-- The cursor moves on and the loss count clears (R101, R102). -/
def Ring.passed (r : Ring) (q : Port) (n : Nat) : Ring :=
  { r with
    cursors := r.cursors.set q (r.cursors.get q + BitVec.ofNat 32 n)
    losses := r.losses.set q 0 }

/-- READ EVENTS (R101, R102). -/
def State.readEvents (s : State) (q : Port) (count : Byte) : Decision :=
  let records := s.ring.readable q count
  let t := s.withRing (s.ring.passed q records.length)
  t.gives (smallBytes (s.ring.losses.get q) ++ byteOf records.length
    ++ smallBytes (t.ring.unread q).toNat ++ records.flatMap Record.bytes)

/-- What a seek does with the cursor (R104, R105). -/
def Ring.seek (r : Ring) (cursor : EventSeq) (selector : Byte) (sequence : EventSeq) :
    Option (Result × EventSeq) :=
  match selector.toNat with
  | 0 => some (.ok, r.oldest)
  | 1 => some (.ok, r.next)
  | 2 =>
    if (sequence - r.oldest).toNat ≤ r.records.length then some (.ok, sequence)
    else if (r.oldest - sequence).toNat ≤ 2147483648 then some (.notHeld, r.oldest)
    else some (.badValue, cursor)
  | _ => none

/-- The four values of R106. -/
def Ring.seekBytes (r : Ring) (q : Port) : List Byte :=
  be 4 (r.cursors.get q).toNat ++ be 4 r.oldest.toNat ++ be 4 r.next.toNat
    ++ numberBytes (r.unread q).toNat

/-- SEEK EVENTS (R104 to R106). -/
def State.seekEvents (s : State) (q : Port) (selector : Byte) (sequence : EventSeq) : Decision :=
  match s.ring.seek (s.ring.cursors.get q) selector sequence with
  | none => s.refuse .badValue
  | some (result, cursor) =>
    let r := { s.ring with cursors := s.ring.cursors.set q cursor }
    ⟨s.withRing r, .answer result (r.seekBytes q)⟩

/-! ### Trip files (R126, R127, R208) -/

/-- A signed offset in µs, 4 bytes. -/
def Operate.bytes (x : Operate) : List Byte :=
  byteOf x.line.val ++ beInt 4 x.offset ++ flagByte x.scanned

def fileStateCode (f : Option TripFile) : Nat :=
  match f with
  | some f => f.state.code
  | none => 0

def satTally (t : Nat) : List Byte := tallyBytes t (t == Config.tallyCap)

def TripFile.bytes (f : TripFile) (now : Nat) : List Byte :=
  [unitByte f.unit] ++ dateBytes f.second f.micros ++ byteOf f.cls
    ++ byteOf (flagSet [f.test, f.cut, f.breakerClosed, f.ambiguous])
    ++ byteOf (modeCode f.modeBefore) ++ satTally f.genTally ++ satTally f.pumpTally
    ++ optionBytes 1 (f.precededBy.map fun u => [unitByte u])
    ++ optionBytes 1 (f.firstOut.map fun l => byteOf l.val)
    ++ optionBytes 4 (f.breakerOpen.map (beInt 4))
    ++ smallBytes f.overflow
    ++ leftBytes (if f.state = .opened then timeLeft f.windowEnd now 1000000 else 0)
    ++ byteOf f.operates.length ++ f.operates.flatMap Operate.bytes

/-- READ TRIP FILE (R126). -/
def State.readTripFile (s : State) (slot : Byte) : Decision :=
  match slotNamed slot with
  | none => s.refuse .badValue
  | some i =>
    s.gives ([slot] ++ byteOf (fileStateCode (s.file i))
      ++ match s.file i with
        | some f => f.bytes s.tb.runClock
        | none => [])

def fileListing (f : Option TripFile) : List Byte :=
  match f with
  | some f => byteOf f.state.code ++ [unitByte f.unit] ++ secondBytes f.second
  | none => List.replicate 6 0

/-- LIST TRIP FILES (R127). -/
def State.listTripFiles (s : State) : Decision :=
  s.gives (allSlots.flatMap fun i => fileListing (s.file i))

/-! ### READ SUMMARY (R180, R208) -/

def slotSet (xs : List SlotId) : Nat := flagSet (allSlots.map fun i => xs.contains i)

/-- The header of a summary; `running` is the overdue time that goes on now (R168, R176, R208). -/
def Summary.header (m : Summary) (running : Nat) : List Byte :=
  be 4 m.number.toNat ++ [m.crewOut, m.crewIn] ++ secondBytes m.start
    ++ optionBytes 4 (m.dueSecond.map secondBytes) ++ optionBytes 4 (m.cutSecond.map secondBytes)
    ++ clockBytes m.elapsed ++ be 4 m.firstSeq.toNat
    ++ optionBytes 4 (m.lastSeq.map fun q => be 4 q.toNat) ++ byteOf m.worstClass
    ++ smallBytes m.timeSteps ++ smallBytes m.missed ++ leftBytes ((m.overdue + running) / 60000000000)
    ++ optionBytes 2 (m.closedFiles.map fun xs => be 2 (slotSet xs))
    ++ optionBytes 1 (m.journalAtCut.map fun st => byteOf st.code) ++ flagByte m.isPartial

/-- The Shift Controller's own state, for index 0 (R180, R208). -/
def State.shiftOwn (s : State) : List Byte :=
  byteOf s.shift.state.code ++ Shift.identityBytes s.shift.identity
    ++ optionBytes 8 (s.shift.dueStart.map fun d => clockBytes (s.tb.runClock - d))
    ++ flagByte s.shift.overdueSince.isSome
    ++ optionBytes 4 (s.shift.missedWatch.map secondBytes)
    ++ optionBytes 5 (s.shift.offer.map fun o =>
        [o.crewOut] ++ leftBytes (timeLeft (o.start + Config.tenMinutes) s.tb.runClock
          Config.second))

def Summary.unitPart (m : Summary) (u : UnitId) : List Byte :=
  let x := m.units.get u
  x.buckets.toList.flatMap clockBytes ++ clockBytes m.elapsed ++ smallBytes x.starts
    ++ smallBytes x.trips ++ clockBytes x.testTime ++ flagByte x.inTest

/-- The summary an index names: 0 the running one, 1 the newest log entry (R180). -/
def Shift.summaryAt (x : Shift) (index : Nat) : Option Summary :=
  if index = 0 then x.running else x.log.reverse[index - 1]?

/-- READ SUMMARY (R180). -/
def State.readSummary (s : State) (index part : Byte) : Decision :=
  if 12 < index.toNat ∨ 6 < part.toNat then s.refuse .badValue
  else
    match s.shift.summaryAt index.toNat with
    | none => s.refuse .notHeld
    | some m =>
      s.gives ([index, part]
        ++ match unitNamed part with
          | some u => m.unitPart u
          | none =>
            byteOf s.shift.log.length
              ++ m.header (if index = 0 then s.overdueNow else 0)
              ++ if index = 0 then s.shiftOwn else [])

/-! ### READ JOURNAL (R163) -/

/-- The journal operation in flight: code, sector, and a program's slot and sequence (R163). -/
def flashOpBytes : FlashOp → List Byte
  | .program sector slot r =>
    byteOf 1 ++ optionBytes 4 (some (numberBytes sector.val))
      ++ optionBytes 8 (some (numberBytes slot.val ++ be 4 r.seq.toNat))
  | .erase sector => byteOf 2 ++ optionBytes 4 (some (numberBytes sector.val)) ++ optionBytes 8 none
  | .none | .settingsErase | .settingsProgram =>
    byteOf 0 ++ optionBytes 4 none ++ optionBytes 8 none

def sectorOption (x : Option (Fin 32)) : List Byte :=
  optionBytes 4 (x.map fun a => numberBytes a.val)

def NewestRecord.bytes (x : NewestRecord) : List Byte :=
  be 4 x.record.seq.toNat ++ numberBytes x.sector.val ++ numberBytes x.slot.val
    ++ secondBytes x.record.second ++ byteOf x.record.cls ++ byteOf x.record.causes.toNat
    ++ numberBytes x.record.integral ++ Shift.identityBytes x.record.shift

def State.intervalLeft (s : State) : Nat :=
  timeLeft (s.journal.since + s.settings.working.checkpointInterval * 60 * Config.second)
    s.tb.runClock Config.second

def State.paceLeft (s : State) : Option Nat :=
  if s.journal.countChanged then
    some (timeLeft (s.journal.since + Config.countPace) s.tb.runClock Config.second)
  else none

/-- Part 0 of READ JOURNAL (R163). -/
def State.journalPart (s : State) : List Byte :=
  let j := s.journal
  byteOf j.state.code ++ numberBytes (retiredCount j.retired) ++ be 4 j.retired.toNat
    ++ numberBytes j.sector.val ++ numberBytes j.slot.val ++ be 4 j.nextSeq.toNat
    ++ optionBytes 1 (if j.pending = 0 then none else some (byteOf j.pending.toNat))
    ++ leftBytes s.intervalLeft ++ optionBytes 4 (s.paceLeft.map leftBytes)
    ++ flashOpBytes s.flash.op ++ sectorOption j.reErase ++ sectorOption j.owedErase
    ++ flagByte j.retireOnLeave ++ flagByte j.taken
    ++ numberBytes j.programFailures ++ numberBytes j.eraseFailures
    ++ optionBytes 35 (j.newest.map NewestRecord.bytes)

/-- Parts 1 to 6 of READ JOURNAL (R163). -/
def JournalUnit.answerBytes (x : JournalUnit) : List Byte :=
  x.tallies.toList.flatMap satTally ++ countBytes x.starts ++ countBytes x.trips
    ++ countBytes x.closings ++ lastTripBytes x.lastTrip

/-- READ JOURNAL (R163). -/
def State.readJournal (s : State) (part : Byte) : Decision :=
  if part = 0 then s.gives s.journalPart
  else
    match unitNamed part with
    | none => s.refuse .badValue
    | some u =>
      s.gives (optionBytes 47 (s.journal.newest.map fun x =>
        (x.record.units.get u).answerBytes))

/-! ### READ SETTINGS (R202) -/

/-- The save in flight: ERASE until the erase has ended, PROGRAM from then on (R201, R203; log 43). -/
def SaveStage.code : SaveStage → Nat
  | .waitErase | .erasing => 1
  | .waitProgram | .programming => 2

/-- The value in force of an item that takes effect at a start only (R69, R202). -/
def State.valueInForce (s : State) (item qual : Byte) : List Byte :=
  match item.toNat, unitNamed qual with
  | 0x0A, some u => s.planInForce u
  | 0x0B, some u => [s.polarityInForce u]
  | 0x0C, _ => be 2 s.lines.period
  | _, _ => []

/-- READ SETTINGS (R202). -/
def State.readSettings (s : State) (item qual : Byte) : Decision :=
  let x := s.settings
  match Settings.valueOf x.working item qual, Settings.valueOf x.stored item qual with
  | some w, some v =>
    s.gives (w ++ v ++ flagByte (w != v || !x.valid) ++ s.valueInForce item qual
      ++ flagByte (!x.valid) ++ flagByte x.fromDefaults
      ++ byteOf ((x.save.map fun y => y.stage.code).getD 0)
      ++ optionBytes 1 (x.outcome.map fun o => byteOf o.code))
  | _, _ => s.refuse .badValue

/-! ### STATUS and IDENTIFY (R58, R108, R193, R194) -/

/-- The Distribution Driver's part of STATUS (R58). The last word stands there as the six bytes of R207, not
as four values of R203, by the model's choice (log 51). -/
def Distribution.bytes (d : Distribution) : List Byte :=
  flagByte d.fault ++ numberBytes d.correct ++ numberBytes d.latency ++ flagByte d.stepPending
    ++ numberBytes d.cuts ++ optionBytes 6 (d.word.map TimeWord.bytes)

/-- The Event Ring's part of STATUS (R108). -/
def Ring.bytes (r : Ring) (q : Port) : List Byte :=
  be 4 r.oldest.toNat ++ be 4 r.next.toNat ++ numberBytes r.records.length
    ++ be 4 (r.cursors.get q).toNat ++ numberBytes (r.unread q).toNat
    ++ smallBytes (r.losses.get q)

/-- STATUS: the latches the answer shows are cleared; the notice line is given after that (R193). -/
def State.status (s : State) (q : Port) : Decision :=
  let t := s.modPort q fun x => { x with latches := 0 }
  t.gives (be 2 (s.port q).latches.toNat ++ be 2 (s.settings.working.enables.get q).toNat
    ++ flagByte (t.noticeLine q) ++ numberBytes (s.port q).refusals
    ++ s.dist.bytes ++ s.ring.bytes q)

/-- IDENTIFY (R194): each name as the 16 bytes of sector 33 (log 22), the revision as a number (R203). -/
def State.identify (s : State) (q : Port) : Decision :=
  let x := s.identity
  s.gives (x.vendor ++ x.part ++ numberBytes x.revision.toNat ++ be 4 x.serial.toNat ++ secondBytes x.date
    ++ [q.letter] ++ flagByte x.ok)

end Sys2Proof.Machine
end

