-- ==== Sys2Proof/Machine/Startup.lean ====
section
/-! DEFINITION. Power-on, the power-on sequence, restart and the loss of the supply (12.1, 12.3). -/

namespace Sys2Proof.Machine

/-! ### Supply (R196 step 1, POWER_LOSS) -/

/-- The part without supply: what RAM held is gone, an operation of the flash was cut short, the pins
keep their levels (R157; log 3, log 8). -/
def State.dark (s : State) : State :=
  let c := s.cutFlash
  { State.reset with
    phase := .off
    lines := { State.reset.lines with
      tab := Table.build fun l => { Line.powerOn l with raw := (s.line l).raw } }
    dist := { Distribution.powerOn with readsBack := s.dist.readsBack }
    journal := { Journal.powerOn with warning := s.journal.warning }
    flash := c.flash
    freeCount := c.freeCount
    pending := s.pending }

/-- Supply is applied: steps 1 and 2 of R196, and recovery begins (R159, R194, R198). A supply that was
there has fallen first. -/
def State.powerOn (s : State) : State :=
  ({ s.dark with phase := .recovering }).loadSettings.readIdentity.scanJournal.continueRecovery

/-! ### The end of recovery (R25, R145, R161, R181) -/

/-- The journal state at the end of recovery (R160). -/
def Journal.recoveredState (j : Journal) : JournalState :=
  let byCount := stateOfRetired (retiredCount j.retired)
  if byCount = .failed then .failed else if j.newest.isNone then .empty else byCount

def UnitTally.recovered (x : JournalUnit) : UnitTally :=
  { UnitTally.powerOn with
    tallies := x.tallies
    saturated := x.tallies.map fun t => t == Config.tallyCap
    starts := x.starts
    trips := x.trips
    closings := x.closings
    lastTrip := x.lastTrip }

/-- The shift identity without a record (R181). -/
def State.firstIdentity (s : State) : ShiftIdentity where
  number := 0
  crew := 0
  start := s.tb.second
  nextDue := s.instantAfter s.tb.second

/-- The recovered values go to the Timebase, the Tally Unit, the Shift Controller and the Event Ring
(R161). -/
def State.handOverRecovered (s : State) : State :=
  match s.journal.newest with
  | some x =>
    let r := x.record
    { s with
      tb := s.tb.start r.second r.integral
      tally := { s.tally with units := r.units.map UnitTally.recovered }
      shift := { s.shift with identity := r.shift }
      ring := { s.ring with orderly := r.causes.getLsbD 5 } }
  | none =>
    let t := s.withTb (s.tb.start 0 0)
    t.withShift { t.shift with identity := t.firstIdentity }

/-- The JOURNAL record of recovery, and its notice unless the state is NORMAL (R161). -/
def State.announceJournal (s : State) : State :=
  let st := s.journal.recoveredState
  let t := (s.withJournal { s.journal with state := st, recoveredAt := s.tb.runClock }).note .journal
    (datumOf 0 st.code)
  if st = .normal then t else t.raiseAll .journal

/-- Steps 3 to 6 of R196, up to the awaited baseline. -/
def State.endRecovery (s : State) : State :=
  if s.recoveryDone then
    { s.handOverRecovered.announceJournal.awaitBaseline with phase := .baselining }
  else s

/-! ### The end of the sequence (R109, R110, R181, R197) -/

/-- A START record is completed at once, then the records handed before it (R109, R110). -/
def State.start (s : State) (datum : BitVec 16) : State :=
  let e : Entry := { kind := .start, field := 0xFF, stamp := s.reading, datum := datum }
  let held := s.ring.deferred
  let t := (s.withRing { s.ring with started := true, deferred := [] }).complete e
  t.forEach held fun d u => u.complete d

/-- Steps 7 to 9 of R196. -/
def State.endSequence (s : State) : State :=
  let t := s.withShift { s.shift with running := some (s.openSummary s.ring.next true) }
  ({ t.start (if s.ring.orderly then 2 else 0) with phase := .running }).raiseAll .restart

/-- BASELINE: at power-on it ends the power-on sequence (R75, R76, R77, R197). -/
def State.baseline (s : State) (pins : BitVec 48) : State :=
  if s.baselineDue then
    if s.phase = .baselining then (s.takeBaseline pins).endSequence else s.takeBaseline pins
  else s

/-! ### Restart (R199) -/

/-- The ports at restart, with the RESTART latch (R195). -/
def State.restartPorts (s : State) : State :=
  ({ s with ports := s.ports.map PortState.restart }).raiseAll .restart

/-- The blocks after the restart's START record (R26, R46, R52, R77, R92, R130, R162, R195). -/
def State.restartBlocks (s : State) : State :=
  let t := s.restartTimebase
  let r := (t.reviewAlarm t.cls).restartReferences
  let d := (r.withDist { r.dist with latency := 2 }).awaitBaseline
  d.restartModes.restartTrips.restartJournal.restartPorts

/-- A restart in place; before step 9 of the power-on sequence it is ignored (R196, R199). -/
def State.restart (s : State) : State :=
  if s.phase = .running then (s.reloadSettings.start 1).restartBlocks else s

end Sys2Proof.Machine
end

