-- ==== Sys2Proof/Machine/Requests.lean ====
section
/-! DEFINITION. How a request reaches its owner: the owner takes a request that a frame has handed on,
or a whole frame with it happens and is taken at once (R186, R187; log 11). -/

namespace Sys2Proof.Machine

/-- What the owner of a request makes of it (R190). CLEAR PORT is the Port Controller's own and is never
handed on (R187 case 2). -/
def State.decide (s : State) (q : Port) : Request → Decision
  | .nop => s.ok
  | .status => s.status q
  | .identify => s.identify q
  | .clearPort => s.ok
  | .readTime => s.readTime
  | .readReferences => s.readReferences q
  | .readLines unit => s.readLines unit
  | .readUnit unit => s.readUnit unit
  | .readEvents count => s.readEvents q count
  | .seekEvents selector sequence => s.seekEvents q selector sequence
  | .listTripFiles => s.listTripFiles
  | .readTripFile slot => s.readTripFile slot
  | .readSummary index part => s.readSummary index part
  | .readJournal part => s.readJournal part
  | .readSettings item qual => s.readSettings item qual
  | .setTime second micros => s.setTime second micros
  | .selectReference mode => s.selectReference mode
  | .clearTripFile slot second => s.clearTripFile slot second
  | .presetTally body => s.presetTally body
  | .lockPresets => s.lockPresets
  | .writeSettings item qual value => s.writeSettings item qual value
  | .saveSettings => s.saveSettings
  | .restart => ⟨s.restart, .removed⟩
  | .setTest unit => s.setTest unit
  | .endTest unit => s.endTest unit
  | .takeShift crew => s.takeShift crew
  | .handOver crew => s.handOver crew
  | .accept crew => s.accept crew
  | .withdraw => s.withdraw
  | .acknowledgeTripFile slot second => s.acknowledgeTripFile slot second
  | .permitPreset unit => s.permitPreset unit

/-- The response of a NOP in a slot is FINISHED as soon as it is taken (R194). -/
def PortState.finishNop (x : PortState) (r : Request) : PortState :=
  if r = .nop ∧ (x.slotA.builds ++ x.slotB.builds).any (fun b => decide (b.request = .nop)) then
    x.finishBuild
  else x

/-- The owner takes a waiting request at one instant and decides it then (11.3). -/
def State.take (s : State) (q : Port) (r : Request) : State :=
  if (s.port q).waits r then
    let d := s.decide q r
    d.state.modPort q fun x => (x.settle r d.reply).finishNop r
  else s

/-- A NOP that still waits is answered before the port's next frame (R194; log 12). -/
def State.answerNop (s : State) (q : Port) : State := s.take q .nop

def State.frameBegin (s : State) (q : Port) : State :=
  if s.phase = .off then s
  else (s.answerNop q).modPort q fun x => if x.inFrame then x else x.beginFrame s.isStarting

/-- The port at the end of a complete frame (R183, R186, R187). A frame of no bytes holds no code byte, so
the code that its refusal echoes is a free value, and the counter of free values moves on (log 47). -/
def State.endFrame (s : State) (q : Port) (bytes : List Byte) : State :=
  match bytes with
  | [] =>
    let t := s.modPort q fun x => x.endFrame s.isStarting q [] (Config.absentCode s.freeCount)
    { t with freeCount := s.freeCount + 1 }
  | code :: _ => s.modPort q fun x => x.endFrame s.isStarting q bytes code

/-- FRAME is released with no frame begun: an assertion without an SCLK edge is no frame (R183). -/
def State.noFrame (s : State) (q : Port) (bytes : List Byte) : Bool :=
  bytes.isEmpty && !(s.port q).inFrame

/-- The end of a frame whose request has been judged; a RESTART it hands on is taken at that instant
(R187, R195). -/
def State.frameEnd (s : State) (q : Port) (bytes : List Byte) : State :=
  if s.phase = .off || s.noFrame q bytes then s
  else
    let a := s.answerNop q
    let t := a.endFrame q bytes
    if (a.port q).handsRestart s.isStarting q bytes then t.take q .restart else t

def State.frameAbort (s : State) (q : Port) : State :=
  if s.phase = .off then s
  else (s.answerNop q).modPort q fun x => x.abortFrame s.isStarting

/-- An owner has built its response, in a slot or for an orphan (R187, R189). -/
def State.responseFinished (s : State) (q : Port) (orphan : Bool) : State :=
  s.modPort q fun x => if orphan then x.discardOrphan else x.finishBuild

/-- A request row of the table: its owner takes it when it waits, and otherwise a whole frame with it
ends and is taken when it is handed on (log 11). -/
def State.request (s : State) (q : Port) (r : Request) : State :=
  if (s.port q).waits r then s.take q r else (s.frameEnd q r.frame).take q r

end Sys2Proof.Machine
end

