-- ==== Sys2Proof/Machine/Cycle.lean ====
section
/-! DEFINITION. One oscillator cycle: what the present cycle still owes is served in a fixed order, then
station time and the run clock advance (R1, R3; log 6). -/

namespace Sys2Proof.Machine

/-! ### Requests that are taken in the cycle in which their frame ends (R17, R194; log 12) -/

def Request.prompt : Request → Bool
  | .nop | .setTime _ _ => true
  | _ => false

/-- The builds of a port that wait for a prompt owner. -/
def PortState.promptBuilds (x : PortState) : List Build :=
  (x.orphans ++ x.slotA.builds ++ x.slotB.builds).filter fun b =>
    !b.taken && Request.prompt b.request

def State.servePrompt (s : State) : State :=
  s.forEach allPorts fun q t =>
    t.forEach (t.port q).promptBuilds fun b u => u.take q b.request

/-! ### The groups, in their order (log 6) -/

def State.serveMessages (s : State) : State := s.forEach allRefs fun r t => t.takeArrived r

def State.serveDriver (s : State) : State :=
  let t := s.clockWord.endWord
  (t.checkEcho t.dist.readsBack).releaseStrobe

def State.serveReferences (s : State) : State :=
  (s.forEach allRefs fun r t => (t.failLate r).expirePulse r).expireUnpaired

/-- A scan instant that the present cycle has brought: the pins as last named (log 3). -/
def State.serveScan (s : State) : State :=
  let t := (s.baseline s.pins).scan s.pins
  t.withDue { t.due with scan := false }

def fastLines : List LineId := allUnits.flatMap fun u => [lineOf u 0, lineOf u 1]

def State.serveLines (s : State) : State :=
  let d := (s.forEach fastLines fun l t => t.endFastDebounce l).serveScan
  d.forEach scannedLines fun l t => (t.closeChatterWindow l).endChatter l

def State.serveUnits (s : State) : State :=
  let t := s.forEach allUnits fun u t => (t.settle u).expireTest u
  let f := t.forEach allSlots fun i t => t.windowEnd i
  f.forEach allUnits fun u t => t.lapsePermit u

def State.serveFlash (s : State) : State :=
  let t := s.intervalRequest.paceRequest
  (if t.watching then t.grantFlash else t).checkpointBegin

/-- Everything the present cycle still owes (log 6). -/
def State.serveDue (s : State) : State :=
  let a := s.servePrompt.serveMessages.secondBoundary.millisecondBoundary
  a.serveDriver.serveReferences.serveLines.serveUnits.endGrace.lapseOffer.serveFlash

/-- One cycle of the 10 MHz oscillator (R1, R2, R3). -/
def State.oscillatorCycle (s : State) : State :=
  if s.phase = .off then s else s.serveDue.cycle

end Sys2Proof.Machine
end

