-- ==== Sys2Proof/Machine/Events.lean ====
section
/-! DEFINITION. The meanings of the commands that events bring: one definition for each row of the
table. Every one answers a next state; an event whose condition does not hold changes nothing (log 5). -/

namespace Sys2Proof.Machine

/-- POWER_ON: supply is applied (R196). -/
def execPowerOn (s : State) : Host.Outcome State Fault Refusal :=
  .next s.powerOn

/-- END_OF_RECOVERY (R161); it has no effect before recovery is done. -/
def execEndOfRecovery (s : State) : Host.Outcome State Fault Refusal :=
  .next s.endRecovery

/-- BASELINE (R75): the pins at the first scan instant of a start. -/
def execBaseline (pins : BitVec 48) (s : State) : Host.Outcome State Fault Refusal :=
  .next (s.baseline pins)

/-- RESTART_LINE: an assertion of the restart line (R199). -/
def execRestartLine (s : State) : Host.Outcome State Fault Refusal :=
  .next s.restart

/-- POWER_FAIL_WARNING (R157). -/
def execPowerFailWarning (s : State) : Host.Outcome State Fault Refusal :=
  .next s.powerFailWarning

/-- POWER_FAIL_RELEASE (R158). -/
def execPowerFailRelease (s : State) : Host.Outcome State Fault Refusal :=
  .next s.powerFailRelease

/-- POWER_LOSS: the supply falls (R157). -/
def execPowerLoss (s : State) : Host.Outcome State Fault Refusal :=
  .next s.dark

/-- OSCILLATOR_CYCLE (R1). -/
def execOscillatorCycle (s : State) : Host.Outcome State Fault Refusal :=
  .next s.oscillatorCycle

/-- SECOND_BOUNDARY: the blocks act on a boundary the last cycle has brought (R2). -/
def execSecondBoundary (s : State) : Host.Outcome State Fault Refusal :=
  .next s.secondBoundary

/-- RUN_CLOCK_MILLISECOND_BOUNDARY (R3). -/
def execMillisecondBoundary (s : State) : Host.Outcome State Fault Refusal :=
  .next s.millisecondBoundary

/-- PULSE_EDGE (R27); edges before step 5 of R196 are not watched. -/
def execPulseEdge (r : RefId) (rising : Bool) (s : State) : Host.Outcome State Fault Refusal :=
  .next (if s.watching then s.pulseEdge r rising else s)

/-- TIME_MESSAGE: a complete message (R28). -/
def execTimeMessage (r : RefId) (bytes : List Byte) (s : State) :
    Host.Outcome State Fault Refusal :=
  .next (if s.watching then s.timeMessage r bytes else s)

/-- MESSAGE_BYTE: a byte ends on a message line (R28). -/
def execMessageByte (r : RefId) (b : Byte) (stopHigh : Bool) (sinceStart : Nat) (s : State) :
    Host.Outcome State Fault Refusal :=
  .next (if s.watching then s.messageByte r b stopHigh sinceStart else s)

/-- MESSAGE_BYTE_TIMEOUT (R28). -/
def execMessageByteTimeout (r : RefId) (s : State) : Host.Outcome State Fault Refusal :=
  .next (s.dropPartial r)

/-- PULSE_LOSS_TIMEOUT (R27). -/
def execPulseLossTimeout (r : RefId) (s : State) : Host.Outcome State Fault Refusal :=
  .next (s.expirePulse r)

/-- LATE_PULSE (R32). -/
def execLatePulse (r : RefId) (s : State) : Host.Outcome State Fault Refusal :=
  .next (s.failLate r)

/-- UNPAIRED_MARK_TIMEOUT (R41). -/
def execUnpairedMarkTimeout (s : State) : Host.Outcome State Fault Refusal :=
  .next s.expireUnpaired

/-- STROBE_RELEASE (R49). -/
def execStrobeRelease (s : State) : Host.Outcome State Fault Refusal :=
  .next s.releaseStrobe

/-- WORD_END (R51). -/
def execWordEnd (s : State) : Host.Outcome State Fault Refusal :=
  .next s.endWord

/-- DCLK_DDATA_CHANGE (R51). -/
def execDclkDdataChange (s : State) : Host.Outcome State Fault Refusal :=
  .next s.clockWord

/-- ECHO_CHECK: DSTROBE is read back midway through the strobe (R56). -/
def execEchoCheck (asserted : Bool) (s : State) : Host.Outcome State Fault Refusal :=
  .next ((s.setReadsBack asserted).checkEcho asserted)

/-- FAST_LINE_EDGE (R61). -/
def execFastLineEdge (u : UnitId) (f : FastLine) (high : Bool) (s : State) :
    Host.Outcome State Fault Refusal :=
  .next (s.fastEdge (fastLine u f) high)

/-- FAST_LINE_DEBOUNCE_END (R62). -/
def execFastLineDebounceEnd (u : UnitId) (f : FastLine) (s : State) :
    Host.Outcome State Fault Refusal :=
  .next (s.endFastDebounce (fastLine u f))

/-- SCAN_INSTANT (R63). -/
def execScanInstant (pins : BitVec 48) (s : State) : Host.Outcome State Fault Refusal :=
  .next (s.scan pins)

/-- CHATTER_WINDOW_CLOSE (R70). -/
def execChatterWindowClose (l : LineId) (s : State) : Host.Outcome State Fault Refusal :=
  .next (s.closeChatterWindow l)

/-- CHATTER_OFF (R72). -/
def execChatterOff (l : LineId) (s : State) : Host.Outcome State Fault Refusal :=
  .next (s.endChatter l)

/-- SETTLING (R80, R81). -/
def execSettling (u : UnitId) (s : State) : Host.Outcome State Fault Refusal :=
  .next (s.settle u)

/-- TEST_EXPIRY (R87). -/
def execTestExpiry (u : UnitId) (s : State) : Host.Outcome State Fault Refusal :=
  .next (s.expireTest u)

/-- WINDOW_END (R122). -/
def execWindowEnd (slot : SlotId) (s : State) : Host.Outcome State Fault Refusal :=
  .next (s.windowEnd slot)

/-- PERMIT_LAPSE (R139). -/
def execPermitLapse (u : UnitId) (s : State) : Host.Outcome State Fault Refusal :=
  .next (s.lapsePermit u)

/-- CHECKPOINT_INTERVAL (R150). -/
def execCheckpointInterval (s : State) : Host.Outcome State Fault Refusal :=
  .next s.intervalRequest

/-- COUNT_PACE (R150). -/
def execCountPace (s : State) : Host.Outcome State Fault Refusal :=
  .next s.paceRequest

/-- CHECKPOINT_BEGIN (R151). -/
def execCheckpointBegin (s : State) : Host.Outcome State Fault Refusal :=
  .next s.checkpointBegin

/-- PROGRAM_END: a journal program ends, having left what programming leaves, or failed on its read-back and
left the bytes given (R152, R153; log 52). -/
def execProgramEnd (left : Option (List Byte)) (s : State) : Host.Outcome State Fault Refusal :=
  .next (s.programEnd left)

/-- ERASE_END: a journal erase ends, having left the bytes given (R155). -/
def execEraseEnd (left : List Byte) (s : State) : Host.Outcome State Fault Refusal :=
  .next (s.eraseEnd left)

/-- SETTINGS_ERASE_END (R201). -/
def execSettingsEraseEnd (left : List Byte) (s : State) : Host.Outcome State Fault Refusal :=
  .next (s.settingsEraseEnd left)

/-- SETTINGS_PROGRAM_END (R201). -/
def execSettingsProgramEnd (left : Option (List Byte)) (s : State) :
    Host.Outcome State Fault Refusal :=
  .next (s.settingsProgramEnd left)

/-- GRACE_END (R168). -/
def execGraceEnd (s : State) : Host.Outcome State Fault Refusal :=
  .next s.endGrace

/-- OFFER_LAPSE (R172). -/
def execOfferLapse (s : State) : Host.Outcome State Fault Refusal :=
  .next s.lapseOffer

/-- FRAME_BEGIN (R186). -/
def execFrameBegin (q : Port) (s : State) : Host.Outcome State Fault Refusal :=
  .next (s.frameBegin q)

/-- FRAME_END: a complete frame ends with the DI bytes given (R187). -/
def execFrameEnd (q : Port) (bytes : List Byte) (s : State) : Host.Outcome State Fault Refusal :=
  .next (s.frameEnd q bytes)

/-- FRAME_ABORT (R188). -/
def execFrameAbort (q : Port) (s : State) : Host.Outcome State Fault Refusal :=
  .next (s.frameAbort q)

/-- RESPONSE_FINISHED: an owner has built a response (R187, R189). -/
def execResponseFinished (q : Port) (orphan : Bool) (s : State) :
    Host.Outcome State Fault Refusal :=
  .next (s.responseFinished q orphan)

end Sys2Proof.Machine
end

