-- ==== Sys2Proof/Machine/Queries.lean ====
section
/-! DEFINITION. The meanings of the 31 requests (R190, R204): one definition for each, over the shared
way of a request to its owner (Requests.lean) and what the owner makes of it. -/

namespace Sys2Proof.Machine

/-- NOP (R194). -/
def execNop (q : Port) (s : State) : Host.Outcome State Fault Refusal :=
  .next (s.request q .nop)

/-- STATUS (R193). -/
def execStatus (q : Port) (s : State) : Host.Outcome State Fault Refusal :=
  .next (s.request q .status)

/-- IDENTIFY (R194). -/
def execIdentify (q : Port) (s : State) : Host.Outcome State Fault Refusal :=
  .next (s.request q .identify)

/-- CLEAR PORT (R189). -/
def execClearPort (q : Port) (s : State) : Host.Outcome State Fault Refusal :=
  .next (s.request q .clearPort)

/-- READ TIME (R24). -/
def execReadTime (q : Port) (s : State) : Host.Outcome State Fault Refusal :=
  .next (s.request q .readTime)

/-- READ REFERENCES (R44). -/
def execReadReferences (q : Port) (s : State) : Host.Outcome State Fault Refusal :=
  .next (s.request q .readReferences)

/-- READ LINES (R74), with the pin levels at its cycle (log 3). -/
def execReadLines (q : Port) (look : LinesLook) (s : State) : Host.Outcome State Fault Refusal :=
  .next ((s.pinsOfScan look.pins).request q (.readLines look.unit))

/-- READ UNIT (R89, R144). -/
def execReadUnit (q : Port) (unit : Byte) (s : State) : Host.Outcome State Fault Refusal :=
  .next (s.request q (.readUnit unit))

/-- READ EVENTS (R101). -/
def execReadEvents (q : Port) (count : Byte) (s : State) : Host.Outcome State Fault Refusal :=
  .next (s.request q (.readEvents count))

/-- SEEK EVENTS (R104). -/
def execSeekEvents (q : Port) (selector : Byte) (sequence : EventSeq) (s : State) :
    Host.Outcome State Fault Refusal :=
  .next (s.request q (.seekEvents selector sequence))

/-- LIST TRIP FILES (R127). -/
def execListTripFiles (q : Port) (s : State) : Host.Outcome State Fault Refusal :=
  .next (s.request q .listTripFiles)

/-- READ TRIP FILE (R126). -/
def execReadTripFile (q : Port) (slot : Byte) (s : State) : Host.Outcome State Fault Refusal :=
  .next (s.request q (.readTripFile slot))

/-- READ SUMMARY (R180). -/
def execReadSummary (q : Port) (index part : Byte) (s : State) : Host.Outcome State Fault Refusal :=
  .next (s.request q (.readSummary index part))

/-- READ JOURNAL (R163). -/
def execReadJournal (q : Port) (part : Byte) (s : State) : Host.Outcome State Fault Refusal :=
  .next (s.request q (.readJournal part))

/-- READ SETTINGS (R202). -/
def execReadSettings (q : Port) (item qual : Byte) (s : State) : Host.Outcome State Fault Refusal :=
  .next (s.request q (.readSettings item qual))

/-- SET TIME (R17). -/
def execSetTime (q : Port) (second : Second) (micros : BitVec 24) (s : State) :
    Host.Outcome State Fault Refusal :=
  .next (s.request q (.setTime second micros))

/-- SELECT REFERENCE (R38). -/
def execSelectReference (q : Port) (mode : Byte) (s : State) : Host.Outcome State Fault Refusal :=
  .next (s.request q (.selectReference mode))

/-- CLEAR TRIP FILE (R125). -/
def execClearTripFile (q : Port) (slot : Byte) (second : Second) (s : State) :
    Host.Outcome State Fault Refusal :=
  .next (s.request q (.clearTripFile slot second))

/-- PRESET TALLY (R140). -/
def execPresetTally (q : Port) (body : PresetBody) (s : State) : Host.Outcome State Fault Refusal :=
  .next (s.request q (.presetTally body))

/-- LOCK PRESETS (R143). -/
def execLockPresets (q : Port) (s : State) : Host.Outcome State Fault Refusal :=
  .next (s.request q .lockPresets)

/-- WRITE SETTINGS (R200). -/
def execWriteSettings (q : Port) (item qual : Byte) (value : List Byte) (s : State) :
    Host.Outcome State Fault Refusal :=
  .next (s.request q (.writeSettings item qual value))

/-- SAVE SETTINGS (R201). -/
def execSaveSettings (q : Port) (s : State) : Host.Outcome State Fault Refusal :=
  .next (s.request q .saveSettings)

/-- RESTART (R195, R199). -/
def execRestart (q : Port) (s : State) : Host.Outcome State Fault Refusal :=
  .next (s.request q .restart)

/-- SET TEST (R84). -/
def execSetTest (q : Port) (unit : Byte) (s : State) : Host.Outcome State Fault Refusal :=
  .next (s.request q (.setTest unit))

/-- END TEST (R86). -/
def execEndTest (q : Port) (unit : Byte) (s : State) : Host.Outcome State Fault Refusal :=
  .next (s.request q (.endTest unit))

/-- TAKE SHIFT (R170). -/
def execTakeShift (q : Port) (crew : Byte) (s : State) : Host.Outcome State Fault Refusal :=
  .next (s.request q (.takeShift crew))

/-- HAND OVER (R171). -/
def execHandOver (q : Port) (crew : Byte) (s : State) : Host.Outcome State Fault Refusal :=
  .next (s.request q (.handOver crew))

/-- ACCEPT (R174). -/
def execAccept (q : Port) (crew : Byte) (s : State) : Host.Outcome State Fault Refusal :=
  .next (s.request q (.accept crew))

/-- WITHDRAW (R173). -/
def execWithdraw (q : Port) (s : State) : Host.Outcome State Fault Refusal :=
  .next (s.request q .withdraw)

/-- ACKNOWLEDGE TRIP FILE (R124). -/
def execAcknowledgeTripFile (q : Port) (slot : Byte) (second : Second) (s : State) :
    Host.Outcome State Fault Refusal :=
  .next (s.request q (.acknowledgeTripFile slot second))

/-- PERMIT PRESET (R138). -/
def execPermitPreset (q : Port) (unit : Byte) (s : State) : Host.Outcome State Fault Refusal :=
  .next (s.request q (.permitPreset unit))

end Sys2Proof.Machine
end

