-- ==== Sys2Proof/Machine/Dispatch.lean ====
section
/-! DEFINITION. The effect of a command on everything but the queue: one arm for each command. -/

namespace Sys2Proof.Machine

def exec (i : Instr) (s : State) : Host.Outcome State Fault Refusal :=
  match i with
  | .powerOn => Sys2Proof.Machine.execPowerOn s
  | .endOfRecovery => Sys2Proof.Machine.execEndOfRecovery s
  | .baseline pins => Sys2Proof.Machine.execBaseline pins s
  | .restart q => Sys2Proof.Machine.execRestart q s
  | .restartLine => Sys2Proof.Machine.execRestartLine s
  | .powerFailWarning => Sys2Proof.Machine.execPowerFailWarning s
  | .powerFailRelease => Sys2Proof.Machine.execPowerFailRelease s
  | .oscillatorCycle => Sys2Proof.Machine.execOscillatorCycle s
  | .secondBoundary => Sys2Proof.Machine.execSecondBoundary s
  | .millisecondBoundary => Sys2Proof.Machine.execMillisecondBoundary s
  | .pulseEdge r rising => Sys2Proof.Machine.execPulseEdge r rising s
  | .timeMessage r bytes => Sys2Proof.Machine.execTimeMessage r bytes s
  | .messageByteTimeout r => Sys2Proof.Machine.execMessageByteTimeout r s
  | .pulseLossTimeout r => Sys2Proof.Machine.execPulseLossTimeout r s
  | .latePulse r => Sys2Proof.Machine.execLatePulse r s
  | .unpairedMarkTimeout => Sys2Proof.Machine.execUnpairedMarkTimeout s
  | .strobeRelease => Sys2Proof.Machine.execStrobeRelease s
  | .wordEnd => Sys2Proof.Machine.execWordEnd s
  | .echoCheck asserted => Sys2Proof.Machine.execEchoCheck asserted s
  | .fastLineEdge u f high => Sys2Proof.Machine.execFastLineEdge u f high s
  | .fastLineDebounceEnd u f => Sys2Proof.Machine.execFastLineDebounceEnd u f s
  | .scanInstant pins => Sys2Proof.Machine.execScanInstant pins s
  | .chatterWindowClose l => Sys2Proof.Machine.execChatterWindowClose l s
  | .chatterOff l => Sys2Proof.Machine.execChatterOff l s
  | .settling u => Sys2Proof.Machine.execSettling u s
  | .testExpiry u => Sys2Proof.Machine.execTestExpiry u s
  | .windowEnd slot => Sys2Proof.Machine.execWindowEnd slot s
  | .permitLapse u => Sys2Proof.Machine.execPermitLapse u s
  | .checkpointInterval => Sys2Proof.Machine.execCheckpointInterval s
  | .countPace => Sys2Proof.Machine.execCountPace s
  | .checkpointBegin => Sys2Proof.Machine.execCheckpointBegin s
  | .programEnd left => Sys2Proof.Machine.execProgramEnd left s
  | .eraseEnd left => Sys2Proof.Machine.execEraseEnd left s
  | .settingsEraseEnd left => Sys2Proof.Machine.execSettingsEraseEnd left s
  | .settingsProgramEnd left => Sys2Proof.Machine.execSettingsProgramEnd left s
  | .graceEnd => Sys2Proof.Machine.execGraceEnd s
  | .offerLapse => Sys2Proof.Machine.execOfferLapse s
  | .frameBegin q => Sys2Proof.Machine.execFrameBegin q s
  | .frameEnd q bytes => Sys2Proof.Machine.execFrameEnd q bytes s
  | .frameAbort q => Sys2Proof.Machine.execFrameAbort q s
  | .responseFinished q orphan => Sys2Proof.Machine.execResponseFinished q orphan s
  | .nop q => Sys2Proof.Machine.execNop q s
  | .status q => Sys2Proof.Machine.execStatus q s
  | .identify q => Sys2Proof.Machine.execIdentify q s
  | .clearPort q => Sys2Proof.Machine.execClearPort q s
  | .readTime q => Sys2Proof.Machine.execReadTime q s
  | .readReferences q => Sys2Proof.Machine.execReadReferences q s
  | .readLines q look => Sys2Proof.Machine.execReadLines q look s
  | .readUnit q unit => Sys2Proof.Machine.execReadUnit q unit s
  | .readEvents q count => Sys2Proof.Machine.execReadEvents q count s
  | .seekEvents q selector sequence => Sys2Proof.Machine.execSeekEvents q selector sequence s
  | .listTripFiles q => Sys2Proof.Machine.execListTripFiles q s
  | .readTripFile q slot => Sys2Proof.Machine.execReadTripFile q slot s
  | .readSummary q index part => Sys2Proof.Machine.execReadSummary q index part s
  | .readJournal q part => Sys2Proof.Machine.execReadJournal q part s
  | .readSettings q item qual => Sys2Proof.Machine.execReadSettings q item qual s
  | .setTime q second micros => Sys2Proof.Machine.execSetTime q second micros s
  | .selectReference q mode => Sys2Proof.Machine.execSelectReference q mode s
  | .clearTripFile q slot second => Sys2Proof.Machine.execClearTripFile q slot second s
  | .presetTally q body => Sys2Proof.Machine.execPresetTally q body s
  | .lockPresets q => Sys2Proof.Machine.execLockPresets q s
  | .writeSettings q item qual value => Sys2Proof.Machine.execWriteSettings q item qual value s
  | .saveSettings q => Sys2Proof.Machine.execSaveSettings q s
  | .setTest q unit => Sys2Proof.Machine.execSetTest q unit s
  | .endTest q unit => Sys2Proof.Machine.execEndTest q unit s
  | .takeShift q crew => Sys2Proof.Machine.execTakeShift q crew s
  | .handOver q crew => Sys2Proof.Machine.execHandOver q crew s
  | .accept q crew => Sys2Proof.Machine.execAccept q crew s
  | .withdraw q => Sys2Proof.Machine.execWithdraw q s
  | .acknowledgeTripFile q slot second => Sys2Proof.Machine.execAcknowledgeTripFile q slot second s
  | .permitPreset q unit => Sys2Proof.Machine.execPermitPreset q unit s
  | .messageByte r b stopHigh sinceStart => Sys2Proof.Machine.execMessageByte r b stopHigh sinceStart s
  | .dclkDdataChange => Sys2Proof.Machine.execDclkDdataChange s
  | .powerLoss => Sys2Proof.Machine.execPowerLoss s

end Sys2Proof.Machine
end

