-- ==== Sys2Proof/Machine/Step.lean ====
section
/-! DEFINITION. One step: the command at the front of the queue is taken and executed on the rest of
the state; on an empty queue the block idles (log 7). -/

namespace Sys2Proof.Machine

/-- The state with a queue of commands. -/
def State.withPending (s : State) (queue : List Instr) : State := { s with pending := queue }

def step (s : State) : Host.Outcome State Fault Refusal :=
  match s.pending with
  | [] => .next s
  | c :: rest => exec c (s.withPending rest)

/-- The command a word spells put at the front of the queue; the table gives no bits, so no word spells
one. -/
def State.withFetchWord (s : State) (nbits w : Nat) : State :=
  match decodeTableWord nbits w with
  | none => s
  | some c => s.withPending (c :: s.pending)

end Sys2Proof.Machine
end

