-- ==== Sys2Proof/Safety.lean ====
section
/-! DEFINITION. What claims about runs are stated in: the ranges and forms that the manual says always
hold, and what it means that a request waits on a port or has been answered there. -/

namespace Sys2Proof.Machine

/-! ### Forms that every step keeps -/

/-- N is a fraction of a second (R2), U stays at or below its ceiling (R19, R20), the outlier count
below 3 (R12), and the run clock is a 64-bit count (R3). -/
def Timebase.sound (t : Timebase) : Prop :=
  t.nanos < Config.second ∧ t.uncertainty ≤ Config.uncertaintyCap ∧ t.outliers < 3
    ∧ t.runClock < 2 ^ 64

/-- Every port's cursor lies between the oldest sequence and one past the newest (R97). -/
def Ring.cursorsHeld (r : Ring) : Prop :=
  ∀ q : Port, (r.next - r.cursors.get q).toNat ≤ r.records.length

/-- The held records carry consecutive sequences from the oldest on (R97). -/
def Ring.consecutive (r : Ring) : Prop :=
  ∀ (i : Nat) (x : Record), r.records[i]? = some x → x.seq = r.oldest + BitVec.ofNat 32 i

/-- The ring holds at most 1024 records (R97), and the write position lies in its storage (R95). -/
def Ring.sound (r : Ring) : Prop :=
  r.records.length ≤ Config.ringSize ∧ r.writePos < Config.ringSize ∧ r.cursorsHeld
    ∧ r.consecutive

/-- The flash array is in canonical form: rising addresses, no erased byte listed. -/
def Flash.sound (f : Flash) : Prop := Memory.wf f.mem = true

/-- At most one slot of a port is BUILDING (R187). -/
def PortState.sound (x : PortState) : Prop :=
  (x.slotA.isBuilding && x.slotB.isBuilding) = false

def State.portsSound (s : State) : Prop := ∀ q : Port, (s.port q).sound

/-- The builds a port holds: orphans, then slot A, then slot B. -/
def PortState.builds (x : PortState) : List Build :=
  x.orphans ++ x.slotA.builds ++ x.slotB.builds

/-- The shift log holds at most twelve summaries whose numbers rise by one up to the running summary's,
which is the number of the present shift (R176, R179). -/
def Shift.logSound (x : Shift) : Prop :=
  x.log.length ≤ Config.logSize
    ∧ (∀ (i : Nat) (m n : Summary), x.log[i]? = some m → x.log[i + 1]? = some n →
        n.number = m.number + 1)
    ∧ (∀ m, x.log.getLast? = some m →
        m.number + 1 = x.identity.number ∧ x.running.isSome = true)
    ∧ ∀ m, x.running = some m → m.number = x.identity.number

/-- Until the power-on sequence has ended there is no summary and no request has been handed on (R181,
R187 case 1). -/
def State.summariesSound (s : State) : Prop :=
  s.shift.logSound
    ∧ (s.phase ≠ .running →
        s.shift.log = [] ∧ s.shift.running = none ∧ ∀ q : Port, (s.port q).builds = [])

/-! ### Requests on a port -/

/-- The first build that meets a condition, orphans before slot A before slot B, has become `done`, and
nothing else of the port has moved (R187, R189). -/
def PortState.Settles (x : PortState) (c : Build → Bool) (done : Build) (y : PortState) : Prop :=
  (∃ before b after, x.orphans = before ++ b :: after ∧ before.any c = false ∧ c b = true
    ∧ y = { x with orphans := before ++ done :: after })
  ∨ (x.orphans.any c = false
    ∧ ∃ b, x.slotA = .building b ∧ c b = true ∧ y = { x with slotA := .building done })
  ∨ (x.orphans.any c = false ∧ x.slotA.builds.any c = false
    ∧ ∃ b, x.slotB = .building b ∧ c b = true ∧ y = { x with slotB := .building done })

/-- A build whose owner has decided its request (R187). -/
def Build.decided (r : Request) (result : Result) (body : List Byte) : Build :=
  ⟨r, true, some ⟨r.code, result, body⟩⟩

/-- From a state that gives a request's effects, the build that waited for it stands answered, and
nothing else has changed. -/
def AnsweredIn (q : Port) (r : Request) (result : Result) (body : List Byte) (effect t : State) :
    Prop :=
  (effect.port q).Settles (Build.waits r) (Build.decided r result body) (t.port q)
    ∧ t = effect.setPort q (t.port q)

/-- The ports of one state with the notice latches of another: nothing of a port but its latches has
moved (R191). -/
def State.latched (s t : State) : PerPort PortState :=
  PerPort.map2 (fun (x y : PortState) => { x with latches := y.latches }) s.ports t.ports

/-- The build that waited for a request stands answered, and of the ports nothing else has moved but
notice latches. -/
def AnsweredAndNoticed (q : Port) (r : Request) (result : Result) (body : List Byte) (s t : State) :
    Prop :=
  AnsweredIn q r result body { t with ports := s.latched t } t

/-- A SAVE SETTINGS that its owner has taken and that waits for the end of the save (R201). -/
def Build.awaitsSave (b : Build) : Bool :=
  decide (b.request = .saveSettings) && b.taken && b.answer.isNone

/-- The end of a save answers the SAVE SETTINGS that waits on port G, when one still does, with the code of
the outcome; of the ports nothing else has moved but notice latches (R201). -/
def SaveAnswered (code : Byte) (s t : State) : Prop :=
  ∃ y, (((s.port .g).builds.any Build.awaitsSave = false ∧ y = s.port .g)
      ∨ (s.port .g).Settles Build.awaitsSave
          ⟨.saveSettings, true, some ⟨0x86, .ok, [code]⟩⟩ y)
    ∧ t.ports = (s.setPort .g y).latched t

/-- The request a row of the table carries, with its port. -/
def requestOf : Instr → Option (Port × Request)
  | .nop q => some (q, .nop)
  | .status q => some (q, .status)
  | .identify q => some (q, .identify)
  | .clearPort q => some (q, .clearPort)
  | .readTime q => some (q, .readTime)
  | .readReferences q => some (q, .readReferences)
  | .readLines q look => some (q, .readLines look.unit)
  | .readUnit q unit => some (q, .readUnit unit)
  | .readEvents q count => some (q, .readEvents count)
  | .seekEvents q selector sequence => some (q, .seekEvents selector sequence)
  | .listTripFiles q => some (q, .listTripFiles)
  | .readTripFile q slot => some (q, .readTripFile slot)
  | .readSummary q index part => some (q, .readSummary index part)
  | .readJournal q part => some (q, .readJournal part)
  | .readSettings q item qual => some (q, .readSettings item qual)
  | .setTime q second micros => some (q, .setTime second micros)
  | .selectReference q mode => some (q, .selectReference mode)
  | .clearTripFile q slot second => some (q, .clearTripFile slot second)
  | .presetTally q body => some (q, .presetTally body)
  | .lockPresets q => some (q, .lockPresets)
  | .writeSettings q item qual value => some (q, .writeSettings item qual value)
  | .saveSettings q => some (q, .saveSettings)
  | .restart q => some (q, .restart)
  | .setTest q unit => some (q, .setTest unit)
  | .endTest q unit => some (q, .endTest unit)
  | .takeShift q crew => some (q, .takeShift crew)
  | .handOver q crew => some (q, .handOver crew)
  | .accept q crew => some (q, .accept crew)
  | .withdraw q => some (q, .withdraw)
  | .acknowledgeTripFile q slot second => some (q, .acknowledgeTripFile slot second)
  | .permitPreset q unit => some (q, .permitPreset unit)
  | .powerOn | .endOfRecovery | .baseline _ | .restartLine | .powerFailWarning | .powerFailRelease
  | .oscillatorCycle | .secondBoundary | .millisecondBoundary | .pulseEdge _ _ | .timeMessage _ _
  | .messageByteTimeout _ | .pulseLossTimeout _ | .latePulse _ | .unpairedMarkTimeout
  | .strobeRelease | .wordEnd | .echoCheck _ | .fastLineEdge _ _ _ | .fastLineDebounceEnd _ _
  | .scanInstant _ | .chatterWindowClose _ | .chatterOff _ | .settling _ | .testExpiry _
  | .windowEnd _ | .permitLapse _ | .checkpointInterval | .countPace | .checkpointBegin
  | .programEnd _ | .eraseEnd _ | .settingsEraseEnd _ | .settingsProgramEnd _ | .graceEnd
  | .offerLapse | .frameBegin _ | .frameEnd _ _ | .frameAbort _ | .responseFinished _ _
  | .messageByte _ _ _ _ | .dclkDdataChange | .powerLoss => none

/-- A request whose body has the length its layout gives (R187 case 8, R204). -/
def wellSized : Request → Bool
  | .writeSettings item _ value =>
    match valueLength item with
    | some n => value.length == n
    | none => decide (value.length ≤ 58)
  | _ => true

/-! ### What a command leaves behind -/

/-- The ring holds the record that an entry became, under a sequence (R93, R95). -/
def Ring.holds (r : Ring) (seq : EventSeq) (e : Entry) : Prop :=
  ∃ near : Bool, e.record seq near ∈ r.records

/-- A notice is latched on every port (R191). -/
def State.noticed (s : State) (k : Notice) : Prop :=
  ∀ q : Port, (s.port q).latches.getLsbD k.index = true

/-- A record of the part itself, unit field 0xFF, dated by a reading of the present cycle (R4, R94). -/
def State.ownRecord (s : State) (kind : Kind) (datum : BitVec 16) : Entry :=
  { kind := kind, field := 0xFF, stamp := s.reading, datum := datum }

/-- A record holds the values of a checkpoint as they stand in a state, with its causes (R148, R151). -/
def JournalRecord.Captures (r : JournalRecord) (s : State) (causes : Causes) : Prop :=
  r.seq = s.journal.nextSeq ∧ r.second = s.tb.second ∧ r.cls = s.cls ∧ r.causes = causes
    ∧ r.integral = s.tb.integral ∧ r.retired = s.journal.retired ∧ r.shift = s.shift.identity
    ∧ ∀ u, r.units.get u = ⟨(s.tallyOf u).tallies, (s.tallyOf u).starts, (s.tallyOf u).trips,
        (s.tallyOf u).closings, (s.tallyOf u).lastTrip⟩

/-- The journal once a checkpoint has been captured: the next sequence has risen, nothing is pending, and
the interval and the pace are measured from now (R150, R151). -/
def Journal.captured (j : Journal) (now : Nat) : Journal :=
  { j with nextSeq := j.nextSeq + 1, pending := 0, lastCapture := some now, countChanged := false }

/-- The journal once the Tally Unit has told it whether a count has risen: a rise sets the count-changed
mark and, where ten seconds have passed since the last capture or the end of recovery, requests a COUNT
checkpoint, which a FAILED journal ignores (R134, R149, R150). -/
def State.journalTold (s : State) (rises : Bool) : Journal :=
  let since := match s.journal.lastCapture with
    | some x => x
    | none => s.journal.recoveredAt
  if rises then { s.journal with
    countChanged := true
    pending :=
      if since + 10000000000 ≤ s.tb.runClock ∧ s.journal.state ≠ .failed then
        s.journal.pending ||| 2#6
      else s.journal.pending }
  else s.journal

/-- Of the running summary, if there is one, one unit's entry has become another and nothing else has
moved (R176, R178). -/
def Shift.EntryBecomes (x : Shift) (u : UnitId) (f : SummaryUnit → SummaryUnit) (y : Shift) : Prop :=
  (x.running = none → y.running = none)
    ∧ ∀ m, x.running = some m → ∃ n, y.running = some n ∧ n = { m with units := n.units }
      ∧ ∀ v, n.units.get v = if v = u then f (m.units.get u) else m.units.get v

/-- What a baseline makes of the lines and the units: each of the 48 lines takes its pin's level, each unit
the levels of its RUNNING, BREAKER, PUMP and CONDENSER lines; a unit in test takes nothing more, and any other
unit the mode they derive, settled now and counted on in tally and summary, its tallies, saturated flags and
counts kept (R75, R91, R92, R132, R177). -/
def State.BaselineTaken (s : State) (pins : BitVec 48) (t : State) : Prop :=
  (∀ l : LineId,
      let level := pins.getLsbD l.val != (s.line l).inverted
      t.line l = { s.line l with
        raw := pins.getLsbD l.val
        filtered := level
        lastRecorded := level
        pend := none
        chatter := .quiet })
    ∧ t.lines.awaiting = false ∧ t.lines.period = s.lines.period
    ∧ (∀ u : UnitId, (s.modeOf u).test = none →
        t.modeOf u = { s.modeOf u with
          levels := (t.modeOf u).levels
          settled := some (t.modeOf u).levels.derived
          since := some s.reading
          candidate := none }
        ∧ t.tallyOf u = { s.tallyOf u with counted := some (t.modeOf u).levels.derived }
        ∧ t.shift.units.get u
            = { s.shift.units.get u with counted := some (t.modeOf u).levels.derived })
    ∧ (∀ u : UnitId, (s.modeOf u).test.isSome = true →
        t.modeOf u = { s.modeOf u with levels := (t.modeOf u).levels }
        ∧ t.tallyOf u = s.tallyOf u ∧ t.shift.units.get u = s.shift.units.get u)
    ∧ ∀ u : UnitId,
        let active (r : Role) : Prop :=
          ∃ l : LineId, l.val / 8 = u.val ∧ (t.line l).role = r ∧ (t.line l).filtered = true
        ((t.modeOf u).levels.breaker = true ↔ active .breaker)
        ∧ ((t.modeOf u).levels.running = true ↔ active .running)
        ∧ ((t.modeOf u).levels.pump = true ↔ active .pump)
        ∧ ((t.modeOf u).levels.condenser = true ↔ active .condenser)

/-- A shift once its running summary has seen a class, and a step of station time if there was one
(R178). -/
def Shift.seeing (x : Shift) (old new : Nat) (stepped : Bool) : Shift :=
  { x with running := x.running.map fun m => { m with
      worstClass := if new = old then m.worstClass else max m.worstClass new
      timeSteps := if stepped then min 65535 (m.timeSteps + 1) else m.timeSteps } }

/-- What a possible change of class from `s` to `t` makes of the alarm (R22): the flag follows a changed
class; a flag that moves has its QUALITY record under `seq`, the old class above the new one, and the
notice; a flag that stays is silent. -/
def State.AlarmFollows (s t : State) (seq : EventSeq) (date : Stamp) : Prop :=
  t.tb.alarm
      = (if t.cls = s.cls then s.tb.alarm else Decidable.decide (s.settings.working.alarmClass < t.cls))
    ∧ (t.tb.alarm ≠ s.tb.alarm → t.noticed .quality
        ∧ (s.ring.started = true → t.ring.holds seq
            { kind := .quality, field := 0xFF, stamp := date
              datum := BitVec.ofNat 16 (s.cls * 256 + t.cls) }))
    ∧ (t.tb.alarm = s.tb.alarm →
        (∀ q : Port, (t.port q).latches.getLsbD Notice.quality.index
            = (s.port q).latches.getLsbD Notice.quality.index)
        ∧ ∀ x ∈ t.ring.records, x.kind = .quality → x ∈ s.ring.records)

/-- The ranges of the settings, and the conditions on line plans and handover instants (R23, R45, R53, R63,
R68, R73, R88, R128, R150, R164). -/
def Settings.InRanges (w : Settings) : Prop :=
  10 ≤ w.stepThreshold ∧ w.stepThreshold ≤ 100000
    ∧ 1 ≤ w.holdoverDrift ∧ w.holdoverDrift ≤ 10000
    ∧ 1 ≤ w.alarmClass ∧ w.alarmClass ≤ 6
    ∧ 200 ≤ w.spacingTolerance ∧ w.spacingTolerance ≤ 20000
    ∧ 10 ≤ w.disagreementLimit ∧ w.disagreementLimit ≤ 10000
    ∧ w.bitPeriodP ≤ 255 ∧ 1 ≤ w.delayD ∧ w.delayD ≤ 2
    ∧ 1 ≤ w.strobeWidth ∧ w.strobeWidth ≤ 200
    ∧ (∀ u : UnitId, let roles := (w.plans.get u).list
        roles.count .running = 1 ∧ roles.count .pump ≤ 1 ∧ roles.count .condenser ≤ 1
          ∧ roles.count .masterTrip = 0 ∧ roles.count .breaker = 0)
    ∧ (w.scanPeriod = 250 ∨ w.scanPeriod = 500 ∨ w.scanPeriod = 1000)
    ∧ w.fastDebounce ≤ 5000 ∧ w.fastDebounce % 50 = 0
    ∧ w.scannedDebounce ≤ 50000 ∧ w.scannedDebounce % 50 = 0
    ∧ 4 ≤ w.chatterLimit ∧ w.chatterLimit ≤ 30
    ∧ 1 ≤ w.chatterWindow ∧ w.chatterWindow ≤ 60
    ∧ w.settleTime ≤ 30000 ∧ 1 ≤ w.testLength ∧ w.testLength ≤ 24
    ∧ 100 ≤ w.tripWindow ∧ w.tripWindow ≤ 5000 ∧ w.lookback ≤ 100
    ∧ 1 ≤ w.checkpointInterval ∧ w.checkpointInterval ≤ 60
    ∧ 2 ≤ w.instants.length ∧ w.instants.length ≤ 4
    ∧ (∀ m ∈ w.instants, m ≤ 1439)
    ∧ w.instants.IsChain (fun a b => a + 60 ≤ b)
    ∧ w.instants.getLastD 0 + 60 ≤ w.instants.headD 0 + 1440
    ∧ w.earlyMargin ≤ 60 ∧ 5 ≤ w.grace ∧ w.grace ≤ 180

/-- What one evaluation of the schedule makes of a shift, in the state after it: nothing at class 7; the
handover falls due when it is not due yet and S has reached next due; once due, an instant that S has
reached is missed. The HANDOVER record is then the newest one, dated by the reading given (R166, R167,
R169). -/
def Shift.Evaluated (x : Shift) (started : Bool) (date : Stamp) (t : State) : Prop :=
  let reached (y : Second) : Prop := (t.tb.second - y).toNat ≤ 2147483647
  let next := firstInstantAfter t.settings.working.instants t.tb.second
  let recorded (subkind : Nat) : Prop := started = true →
    t.ring.holds (t.ring.next - 1)
      { kind := .handover, field := 0xFF, stamp := date
        datum := BitVec.ofNat 16 (subkind * 256 + x.identity.crew.toNat) }
  let ahead : Prop := x.state = .onShift ∨ (x.state = .offered ∧ x.dueStart = none)
  (t.tb.unset = true → t.shift = x)
    ∧ (t.tb.unset = false → ahead → reached x.identity.nextDue →
        t.shift = { x with
          state := if x.state = .onShift then .due else x.state
          dueStart := some t.tb.runClock
          missedWatch := some next }
        ∧ t.noticed .due ∧ recorded 1)
    ∧ (ahead → ¬ reached x.identity.nextDue → t.shift = x)
    ∧ (∀ watch, t.tb.unset = false → ¬ ahead → x.missedWatch = some watch → reached watch →
        t.shift = { x with
          missedWatch := some next
          running := x.running.map fun m => { m with missed := min 65535 (m.missed + 1) } }
        ∧ t.noticed .overdue ∧ recorded 8)
    ∧ (¬ ahead → (∀ watch, x.missedWatch = some watch → ¬ reached watch) → t.shift = x)

/-- Outside a sector of the flash every byte reads as before (9.1). -/
def Memory.SameOutside (sector : Nat) (m n : Memory) : Prop :=
  ∀ a, a < sector * 4096 ∨ (sector + 1) * 4096 ≤ a → n.read a = m.read a


end Sys2Proof.Machine
end

