-- ==== Sys2Proof/Certificates/Slice0/Obligations.lean ====
section
/-! DEFINITION. The statements for the provers, chapter by chapter of the manual. Each is about the
meanings, operations and predicates of the model; where one rests on a choice of the model its
docstring names the log entry. -/

open Sys2Proof Sys2Proof.Machine

/-! ### The queue and the start -/

/-- A step takes the command at the front of the queue and runs it on the rest; on an empty queue the
block idles (the model's choice, log 7). -/
def Obligations.StepTakesFrontCommand : Prop :=
  (∀ (s : State) (c : Instr) (rest : List Instr), s.pending = c :: rest →
    step s = exec c { s with pending := rest })
  ∧ ∀ s : State, s.pending = [] → step s = .next s

/-- No meaning faults or refuses: every command has an effect in every state, and none of them touches
the queue (00_scope; POWER_LOSS keeps the queue by the model's choice, log 7). -/
def Obligations.EveryCommandCompletesAndKeepsQueue : Prop :=
  ∀ (c : Instr) (s : State), ∃ t, exec c s = .next t ∧ t.pending = s.pending

/-- The power-on values the manual gives (R25, R46, R59, R90, R110, R129, R145, R181). That State.reset is the
part at step 1 of the power-on sequence is the model's deduction (log 1). -/
def Claims.PowerOnValuesHoldAtReset : Prop :=
  let s := State.reset
  s.tb.runClock = 0 ∧ s.tb.unset = true ∧ s.cls = 7 ∧ s.tb.alarm = true ∧ s.tb.state = .free
    ∧ s.tb.uncertainty = 1000000000 ∧ s.tb.lastStep = none
    ∧ (∀ r, s.ref r = Reference.powerOn ∧ (s.ref r).state = .absent ∧ (s.ref r).polarity = none
        ∧ (s.ref r).anchor = none ∧ (s.ref r).claim = none ∧ (s.ref r).lastFailure = none)
    ∧ s.sel.mode = .auto ∧ s.sel.selected = none ∧ s.sel.disagree = false
    ∧ s.dist.asserted = false ∧ s.dist.wordState = .idle ∧ s.dist.latency = 2
    ∧ s.dist.fault = false ∧ s.dist.stepPending = false ∧ s.dist.cuts = 0
    ∧ (∀ u, (s.modes.get u).settled = none ∧ (s.modes.get u).test = none)
    ∧ s.ring.records = [] ∧ s.ring.next = 0
    ∧ (∀ i, s.trips.slots.get i = none) ∧ s.trips.order = []
    ∧ (∀ u, (s.tallyOf u).permit = none ∧ (s.tallyOf u).counted = none)
    ∧ s.tally.locked = false ∧ s.shift.log = [] ∧ s.shift.offer = none

/-! ### Station time (01) -/

/-- One oscillator cycle advances station time and the run clock by 99, 100 or 101 ns (R1, R2, R3),
after what the present cycle still owes has been served (the model's order, log 6), and marks the second,
the millisecond and the scan instant it brings (R63). The new cycle judges the settings as they now stand
(R73, R80, R150, R168; the model's own copy, log 37), and every reading of the cycle shows S, N, the class
and the timebase state as they now stand, the growth of U at a boundary in HOLDOVER counted (R4, R5, R20, R47;
the model's own copy, log 45). -/
def Obligations.CycleAdvancesByCorrectedNanoseconds : Prop :=
  ∀ s : State, s.phase ≠ .off →
    let b := s.serveDue
    let e := b.tb.residue + 100 * b.tb.rate
    let advance : Nat := if 1000000000 ≤ e then 101 else if e ≤ -1000000000 then 99 else 100
    let left : Int :=
      if 1000000000 ≤ e then e - 1000000000
      else if e ≤ -1000000000 then e + 1000000000 else e
    let crosses : Bool := b.tb.advancing && decide (1000000000 ≤ b.tb.nanos + advance)
    let grown : Timebase := { b.tb with
      uncertainty := min 1000000000 (b.tb.uncertainty + b.settings.working.holdoverDrift) }
    ∃ t, exec .oscillatorCycle s = .next t
      ∧ t = { b with
          tb := t.tb, due := t.due
          settings := { b.settings with atCycle := b.settings.working } }
      ∧ t.tb = { b.tb with
          residue := left
          runClock := (b.tb.runClock + advance) % 2 ^ 64
          second := if crosses then b.tb.second + 1 else b.tb.second
          nanos :=
            if crosses then b.tb.nanos + advance - 1000000000
            else if b.tb.advancing then b.tb.nanos + advance else b.tb.nanos
          cycleSecond := t.tb.second
          cycleNanos := t.tb.nanos
          cycleClass := if crosses ∧ b.tb.state = .holdover then grown.cls else b.tb.cls
          cycleState := b.tb.state }
      ∧ t.due.second = (b.due.second || crosses)
      ∧ t.due.millisecond
          = (b.due.millisecond || b.tb.runClock / 1000000 != t.tb.runClock / 1000000)
      ∧ t.due.scan
          = (b.due.scan || b.tb.runClock / (b.lines.period * 1000)
              != t.tb.runClock / (b.lines.period * 1000))
      ∧ (b.tb.residue.natAbs < 1000000000 → b.tb.rate.natAbs ≤ 200000 →
          t.tb.residue.natAbs < 1000000000)

/-- The class of station time (R21). -/
def Claims.ClassIsReadFromUncertainty : Prop :=
  ∀ t : Timebase,
    (t.unset = true → t.cls = 7)
    ∧ (t.unset = false →
      (t.cls = 1 ↔ t.uncertainty ≤ 1000)
      ∧ (t.cls = 2 ↔ 1000 < t.uncertainty ∧ t.uncertainty ≤ 10000)
      ∧ (t.cls = 3 ↔ 10000 < t.uncertainty ∧ t.uncertainty ≤ 100000)
      ∧ (t.cls = 4 ↔ 100000 < t.uncertainty ∧ t.uncertainty ≤ 1000000)
      ∧ (t.cls = 5 ↔ 1000000 < t.uncertainty ∧ t.uncertainty ≤ 10000000)
      ∧ (t.cls = 6 ↔ 10000000 < t.uncertainty))

/-- A second boundary: in HOLDOVER U grows by H (R20), and nothing else of the Timebase moves but the
alarm flag that follows the class, with QUALITY when it moves and in silence when it stays (R22). QUALITY
stands at the next sequence, ahead of the HANDOVER that the same boundary may write, and is dated by the
reading of the cycle (R4), whose class counts the growth: that order and that date are the model's choice (logs
17, 45). Without a boundary due nothing happens (log 5). -/
def Obligations.SecondBoundaryGrowsUncertaintyInHoldover : Prop :=
  (∀ s : State, s.due.second = false → exec .secondBoundary s = .next s)
  ∧ ∀ s : State, s.due.second = true →
    let u :=
      if s.tb.state = .holdover then
        min 1000000000 (s.tb.uncertainty + s.settings.working.holdoverDrift)
      else s.tb.uncertainty
    ∃ t, exec .secondBoundary s = .next t
      ∧ t.tb = { s.tb with uncertainty := u, alarm := t.tb.alarm }
      ∧ s.AlarmFollows t s.ring.next s.reading
      ∧ t = { s with
          tb := t.tb, due := { s.due with second := false }, dist := t.dist, shift := t.shift,
          ring := t.ring, ports := s.latched t }

/-- A pulse report whose error is within the step threshold is slewed, in LOCKED and in HOLDOVER
(R6, R11, R13, R19); the alarm follows the class (R22), QUALITY dated by the reading of the cycle (R4;
log 45). -/
def Claims.PulseWithinThresholdSlews : Prop :=
  ∀ (s : State) (capture : Capture) (second : Second) (claim : Nat),
    s.tb.state = .locked ∨ s.tb.state = .holdover → 1 ≤ claim → claim ≤ 5 →
    let e : Int := (second - capture.second).toInt * 1000000000 - capture.nanos
    e.natAbs ≤ s.settings.working.stepThreshold * 1000 →
    let i : Int := max (-200000) (min 200000 (s.tb.integral + e.tdiv 64))
    let t := s.pulseReport capture second claim
    t.tb = { s.tb with
        integral := i
        rate := max (-200000) (min 200000 (i + e.tdiv 8))
        outliers := 0
        uncertainty := min 1000000000 (e.natAbs + 10 ^ (claim + 1))
        state := .locked
        alarm := t.tb.alarm }
      ∧ s.AlarmFollows t s.ring.next s.reading
      ∧ t = { s with tb := t.tb, shift := t.shift, ring := t.ring, ports := s.latched t }

/-- In LOCKED the first two outliers in a row move U and the count, and the alarm follows the class (R12,
R19, R22), QUALITY dated by the reading of the cycle (R4; log 45). -/
def Claims.EarlyOutlierKeepsRate : Prop :=
  ∀ (s : State) (capture : Capture) (second : Second) (claim : Nat),
    s.tb.state = .locked → s.tb.outliers < 2 → 1 ≤ claim → claim ≤ 5 →
    let e : Int := (second - capture.second).toInt * 1000000000 - capture.nanos
    s.settings.working.stepThreshold * 1000 < e.natAbs →
    let t := s.pulseReport capture second claim
    t.tb = { s.tb with
        outliers := s.tb.outliers + 1
        uncertainty := min 1000000000 (e.natAbs + 10 ^ (claim + 1))
        alarm := t.tb.alarm }
      ∧ s.AlarmFollows t s.ring.next s.reading
      ∧ t = { s with tb := t.tb, shift := t.shift, ring := t.ring, ports := s.latched t }

/-- A pulse report steps station time in ACQUIRE whatever its error, in LOCKED at the third outlier and
in HOLDOVER beyond the threshold (R9, R12, R13, R14, R15, R19); a boundary the present cycle owes is
taken first by the model's choice (log 17), so none is due here. The step counts in the running summary
and the schedule is evaluated (R166, R178). TIME_STEP comes first and the QUALITY of a moved alarm flag next
(R15, R22). Its records show the stepped time; readings for anything else in
the cycle stay as they were (R4, R61; log 45). -/
def Obligations.PulseBeyondThresholdSteps : Prop :=
  ∀ (s : State) (capture : Capture) (second : Second) (claim : Nat),
    s.due.second = false → s.ring.started = true → 1 ≤ claim → claim ≤ 5 →
    let e : Int := (second - capture.second).toInt * 1000000000 - capture.nanos
    s.tb.state = .acquire
      ∨ (s.settings.working.stepThreshold * 1000 < e.natAbs
        ∧ (s.tb.state = .holdover ∨ (s.tb.state = .locked ∧ s.tb.outliers = 2))) →
    let t := s.pulseReport capture second claim
    t.tb = { s.tb with
        second := s.tb.second + BitVec.ofInt 32 (((s.tb.nanos : Int) + e) / 1000000000)
        nanos := (((s.tb.nanos : Int) + e) % 1000000000).toNat
        lastStep := some ⟨s.tb.runClock, e⟩
        uncertainty := 100 + 10 ^ (claim + 1)
        unset := false
        outliers := 0
        state := .locked
        alarm := t.tb.alarm }
      ∧ t.dist.stepPending = true
      ∧ t.ring.holds s.ring.next
          { kind := .timeStep, field := 0xFF
            stamp := ⟨t.tb.second, t.tb.nanos / 1000, t.cls, s.tb.runClock⟩
            datum := BitVec.ofInt 16 (max (-32767) (min 32767 (e.tdiv 1000000))) }
      ∧ t.noticed .step ∧ t.reading = s.reading
      ∧ s.AlarmFollows t (s.ring.next + 1) ⟨t.tb.second, t.tb.nanos / 1000, t.cls, s.tb.runClock⟩
      ∧ (s.shift.seeing s.cls t.cls true).Evaluated true
          ⟨t.tb.second, t.tb.nanos / 1000, t.cls, s.tb.runClock⟩ t
      ∧ t = { s with
          tb := t.tb, dist := t.dist, shift := t.shift, ring := t.ring, ports := s.latched t }

/-- In FREE a pulse report is discarded (R10). -/
def Claims.PulseReportInFreeIsDiscarded : Prop :=
  ∀ (s : State) (capture : Capture) (second : Second) (claim : Nat),
    s.tb.state = .free → s.pulseReport capture second claim = s

/-- A pulse report slews within the threshold, counts as an outlier beyond it, and is discarded in
FREE. -/
def Obligations.PulseReportSlewsCountsOrIsDiscarded : Prop :=
  Claims.PulseWithinThresholdSlews
    ∧ Claims.EarlyOutlierKeepsRate
    ∧ Claims.PulseReportInFreeIsDiscarded

/-- SET TIME (R17, R18): refused in ACQUIRE and LOCKED, then refused for its microseconds, and
otherwise the time is set, dated and made known, and the schedule is evaluated (R166, R178). Which refusal
comes first is the model's choice (log 24), and so is the order of TIME_SET before the QUALITY record of the
same SET TIME (R22; log 38); a boundary the present cycle owes is taken first (log 17), so none is due in the
last case. Its records show the set time; readings for anything else in the cycle stay as they were (R4,
R61; log 45). -/
def Claims.SetTimeSetsOrRefuses : Prop :=
  ∀ (s : State) (q : Port) (second : Second) (micros : BitVec 24),
    (s.port q).waits (.setTime second micros) = true →
    ∃ t, exec (.setTime q second micros) s = .next t
      ∧ (s.tb.state = .acquire ∨ s.tb.state = .locked →
          AnsweredIn q (.setTime second micros) .wrongState [] s t)
      ∧ (s.tb.state = .free ∨ s.tb.state = .holdover →
          (1000000 ≤ micros.toNat →
            AnsweredIn q (.setTime second micros) .badValue [] s t)
          ∧ (micros.toNat ≤ 999999 → s.due.second = false → s.ring.started = true →
            AnsweredAndNoticed q (.setTime second micros) .ok [] s t
            ∧ t.tb = { s.tb with
                second := second
                nanos := micros.toNat * 1000
                uncertainty := 1000000000
                unset := false
                lastStep := some ⟨s.tb.runClock,
                  (second - s.tb.second).toInt * 1000000000 + micros.toNat * 1000 - s.tb.nanos⟩
                alarm := t.tb.alarm }
            ∧ t.cls = 6
            ∧ t.dist.stepPending = true
            ∧ t.ring.holds s.ring.next
                { kind := .timeSet, field := 0xFF
                  stamp := ⟨second, micros.toNat, 6, s.tb.runClock⟩, datum := 0 }
            ∧ t.noticed .step ∧ t.reading = s.reading
            ∧ s.AlarmFollows t (s.ring.next + 1) ⟨second, micros.toNat, 6, s.tb.runClock⟩
            ∧ (s.shift.seeing s.cls t.cls true).Evaluated true
                ⟨second, micros.toNat, 6, s.tb.runClock⟩ t
            ∧ t = { s with
                tb := t.tb, dist := t.dist, shift := t.shift, ring := t.ring, ports := t.ports }))

/-! ### Time references (02) -/

/-- In ABSENT the first edge, of either direction, starts LISTEN with an empty learning record and the
loss timer, and writes REF_STATE (R27, R30). -/
def Claims.FirstEdgeStartsListening : Prop :=
  ∀ (s : State) (r : RefId) (rising : Bool),
    s.watching = true → (s.ref r).arrived = none → (s.ref r).state = .absent →
    s.ring.started = true →
    ∃ t, exec (.pulseEdge r rising) s = .next t
      ∧ t.ref r = { s.ref r with
          state := .listen
          polarity := none
          learning := ⟨some ⟨s.tb.runClock, rising⟩, none, none⟩
          lossFrom := s.tb.runClock }
      ∧ t.ref r.other = s.ref r.other
      ∧ t.ring.holds s.ring.next
          (s.ownRecord .refState (BitVec.ofNat 16 (r.code * 256 + 1)))
      ∧ t = { s with refs := t.refs, ring := t.ring, ports := s.latched t }

/-- The edge that ends a learning period in LISTEN (R31): a second decisive period with the same shorter
level decides the polarity, a first one is remembered, and an undecided or contradicting one empties
the record but for the edge. The anchor is the edge's capture, S and N as the cycle began with them (R5;
the model's own copy, log 45). Two levels of equal length are left out: which of them is the shorter the
manual does not say (log 9). -/
def Claims.LearningPeriodDecidesPolarity : Prop :=
  ∀ (s : State) (r : RefId) (rising : Bool) (last : SeenEdge) (first : LevelSpan),
    s.watching = true → (s.ref r).arrived = none → (s.ref r).state = .listen →
    (s.ref r).polarity = none → (s.ref r).learning.lastEdge = some last →
    (s.ref r).learning.firstLevel = some first →
    let level := s.tb.runClock - last.runClock
    first.length ≠ level →
    let high := if first.length < level then first.high else last.high
    ∃ t, exec (.pulseEdge r rising) s = .next t
      ∧ (min first.length level < 400000000 → (s.ref r).learning.shorter = some high →
          t.ref r = { s.ref r with
            state := .check
            polarity := some high
            count := 0
            learning := ⟨none, none, none⟩
            previous := none
            window := none
            two := false
            failed := false
            anchor :=
              if rising = high then some ⟨s.tb.cycleSecond, s.tb.cycleNanos, s.tb.runClock⟩ else none
            lossFrom := if rising = high then s.tb.runClock else last.runClock })
      ∧ (min first.length level < 400000000 → (s.ref r).learning.shorter = none →
          t.ref r = { s.ref r with
            learning := ⟨some ⟨s.tb.runClock, rising⟩, none, some high⟩
            lossFrom := s.tb.runClock })
      ∧ (400000000 ≤ min first.length level ∨ (s.ref r).learning.shorter = some (!high) →
          t.ref r = { s.ref r with
            learning := ⟨some ⟨s.tb.runClock, rising⟩, none, none⟩
            lossFrom := s.tb.runClock })
      ∧ t.ref r.other = s.ref r.other
      ∧ t = { s with
          refs := t.refs, ring := t.ring, ports := s.latched t, freeCount := s.freeCount + 1 }

/-- The first edge starts LISTEN, and the periods that follow decide the polarity. -/
def Obligations.LineIsLearnedFromItsFirstEdge : Prop :=
  Claims.FirstEdgeStartsListening
    ∧ Claims.LearningPeriodDecidesPolarity

/-- A second closed in CHECK by an edge inside the spacing window is judged by the order of R33, and
the count and the previous message follow (R32, R33, R34), up to the second that brings the count
to 3. The edge is captured as S and N stood when its cycle began (R5; the model's own copy, log 45). -/
def Obligations.SecondClosedInCheckIsJudged : Prop :=
  ∀ (s : State) (r : RefId) (rising : Bool) (a : Capture),
    s.watching = true → (s.ref r).arrived = none → (s.ref r).state = .check →
    (s.ref r).polarity = some rising → (s.ref r).anchor = some a → (s.ref r).failed = false →
    let tolerance := s.settings.working.spacingTolerance * 1000
    a.runClock + 1000000000 ≤ s.tb.runClock + tolerance →
    s.tb.runClock ≤ a.runClock + 1000000000 + tolerance →
    let x := s.ref r
    let cause : Option FailCause :=
      match x.window with
      | none => some .noMessage
      | some w =>
        if x.two then some .twoMessages
        else if w.fault.isSome then w.fault
        else if x.previous = some (w.info.second - 1) then none
        else some .discontinuous
    let next : Reference := { x with
      lossFrom := s.tb.runClock
      anchor := some ⟨s.tb.cycleSecond, s.tb.cycleNanos, s.tb.runClock⟩
      window := none
      two := false
      previous :=
        match x.window with
        | some w => if w.fault.isNone && !x.two then some w.info.second else none
        | none => none }
    ∃ t, exec (.pulseEdge r rising) s = .next t
      ∧ (∀ c, cause = some c →
          t.ref r = { next with count := 0, lastFailure := some c } ∧ t = { s with refs := t.refs })
      ∧ (∀ w, x.window = some w → cause = none → x.count + 1 < 3 →
          t.ref r = { next with count := x.count + 1, claim := some w.info.claim }
          ∧ t = { s with refs := t.refs })
      ∧ (∀ w, x.window = some w → cause = none → x.count = 2 →
          (t.ref r).count = 3 ∧ (t.ref r).claim = some w.info.claim
          ∧ ((t.ref r).state = .qualified ↔
              1 ≤ w.info.claim ∧ w.info.claim ≤ 5 ∧ w.info.flags.getLsbD 0 = false)
          ∧ ((t.ref r).state = .unsynced ↔
              ¬ (1 ≤ w.info.claim ∧ w.info.claim ≤ 5 ∧ w.info.flags.getLsbD 0 = false)))
      ∧ t.ref r.other = s.ref r.other

/-- A consistent, clean second of the selected QUALIFIED reference with an unchanged claim hands the
Timebase one pulse report with the closing edge's capture, the second and the claim of its message, and
then the mark to the comparison (R35, R36, R37, R41). A step that an earlier edge of the cycle made is not
in the capture (R4, R5; the model's own copy, log 45). -/
def Claims.ConsistentSecondReportsPulse : Prop :=
  ∀ (s : State) (r : RefId) (rising : Bool) (a : Capture) (w : WindowMessage),
    s.watching = true → (s.ref r).arrived = none → (s.ref r).state = .qualified →
    (s.ref r).polarity = some rising → (s.ref r).anchor = some a → (s.ref r).failed = false →
    let tolerance := s.settings.working.spacingTolerance * 1000
    a.runClock + 1000000000 ≤ s.tb.runClock + tolerance →
    s.tb.runClock ≤ a.runClock + 1000000000 + tolerance →
    (s.ref r).window = some w → (s.ref r).two = false → w.fault = none →
    (s.ref r).previous = some (w.info.second - 1) → w.info.clean = true →
    (s.ref r).claim = some w.info.claim → s.sel.selected = some r →
    let edge : Capture := ⟨s.tb.cycleSecond, s.tb.cycleNanos, s.tb.runClock⟩
    let judged := s.setRef r { s.ref r with
      lossFrom := s.tb.runClock
      anchor := some edge
      window := none
      previous := some w.info.second }
    exec (.pulseEdge r rising) s
      = .next ((judged.pulseReport edge w.info.second w.info.claim).comparePulse
          ⟨r, w.info.second, s.tb.runClock⟩)

/-- A second closed by an edge inside the spacing window in QUALIFIED or UNSYNCED: a failed one leads to
CHECK with count 0, a consistent one to QUALIFIED or, with an unclean claim, to UNSYNCED, its claim taken;
each move writes REF_STATE first, and a reference that leaves QUALIFIED is selected no more (R30, R33, R35,
R36, R39, R43). The edge is captured as S and N stood when its cycle began (R5; the model's own copy,
log 45). -/
def Claims.SecondMovesQualifiedOrUnsynced : Prop :=
  ∀ (s : State) (r : RefId) (rising : Bool) (a : Capture),
    s.watching = true → (s.ref r).arrived = none →
    (s.ref r).state = .qualified ∨ (s.ref r).state = .unsynced →
    (s.ref r).polarity = some rising → (s.ref r).anchor = some a → (s.ref r).failed = false →
    let tolerance := s.settings.working.spacingTolerance * 1000
    a.runClock + 1000000000 ≤ s.tb.runClock + tolerance →
    s.tb.runClock ≤ a.runClock + 1000000000 + tolerance →
    let x := s.ref r
    let cause : Option FailCause :=
      match x.window with
      | none => some .noMessage
      | some w =>
        if x.two then some .twoMessages
        else if w.fault.isSome then w.fault
        else if x.previous = some (w.info.second - 1) then none
        else some .discontinuous
    let next : Reference := { x with
      lossFrom := s.tb.runClock
      anchor := some ⟨s.tb.cycleSecond, s.tb.cycleNanos, s.tb.runClock⟩
      window := none
      two := false
      previous :=
        match x.window with
        | some w => if w.fault.isNone && !x.two then some w.info.second else none
        | none => none }
    let clean (m : MessageInfo) : Bool :=
      decide (1 ≤ m.claim) && decide (m.claim ≤ 5) && !m.flags.getLsbD 0
    ∃ t, exec (.pulseEdge r rising) s = .next t
      ∧ t.ref r.other = s.ref r.other
      ∧ (∀ c, cause = some c →
          t.ref r = { next with state := .check, count := 0, lastFailure := some c })
      ∧ (∀ w, x.window = some w → cause = none →
          t.ref r = { next with
            state := if clean w.info then .qualified else .unsynced
            claim := some w.info.claim })
      ∧ ((t.ref r).state ≠ x.state → s.ring.started = true → t.ring.holds s.ring.next
          (s.ownRecord .refState (BitVec.ofNat 16 (r.code * 256 + (t.ref r).state.code))))
      ∧ (x.state = .qualified → (t.ref r).state ≠ .qualified → s.sel.selected = some r →
          t.sel.selected ≠ some r ∧ ∀ each, t.sel.lost.get each = true)
      ∧ (x.state = .unsynced → (t.ref r).state = .unsynced → t = { s with refs := t.refs })
      ∧ t = { s with
          refs := t.refs, tb := t.tb, due := t.due, sel := t.sel, dist := t.dist,
          shift := t.shift, ring := t.ring, ports := s.latched t }

/-- A consistent second of the selected QUALIFIED reference with a changed, still clean claim writes no
REF_STATE, but the selection takes the claim: in AUTO, with the disagreement flag clear, the other
QUALIFIED reference is selected when its claim is now the better one (R35, R39, R40). -/
def Claims.ChangedClaimMovesSelection : Prop :=
  ∀ (s : State) (r : RefId) (rising : Bool) (a : Capture) (w : WindowMessage) (other : Nat),
    s.watching = true → (s.ref r).arrived = none → (s.ref r).state = .qualified →
    (s.ref r).polarity = some rising → (s.ref r).anchor = some a → (s.ref r).failed = false →
    let tolerance := s.settings.working.spacingTolerance * 1000
    a.runClock + 1000000000 ≤ s.tb.runClock + tolerance →
    s.tb.runClock ≤ a.runClock + 1000000000 + tolerance →
    (s.ref r).window = some w → (s.ref r).two = false → w.fault = none →
    (s.ref r).previous = some (w.info.second - 1) → w.info.clean = true →
    (s.ref r).claim ≠ some w.info.claim → s.sel.mode = .auto → s.sel.selected = some r →
    s.sel.disagree = false → (s.ref r.other).state = .qualified →
    (s.ref r.other).claim = some other → s.ring.started = true →
    ∃ t, exec (.pulseEdge r rising) s = .next t
      ∧ (t.ref r).state = .qualified ∧ (t.ref r).claim = some w.info.claim
      ∧ (other < w.info.claim →
          t.sel.selected = some r.other
          ∧ t.ring.holds s.ring.next
              (s.ownRecord .refSelect (BitVec.ofNat 16 r.other.code)))
      ∧ (w.info.claim ≤ other → t.sel.selected = some r)

/-- A consistent second of the selected reference is reported; a failed one or a changed claim moves
the reference and the selection. -/
def Obligations.SelectedPulseIsReported : Prop :=
  Claims.ConsistentSecondReportsPulse
    ∧ Claims.SecondMovesQualifiedOrUnsynced
    ∧ Claims.ChangedClaimMovesSelection

/-- An active edge before the spacing window fails the second once with EARLY_PULSE and takes the
reference to CHECK with the anchor kept; further ones in that second only restart the loss timer
(R27, R32, R35). -/
def Claims.EarlyPulseFailsSecondOnce : Prop :=
  ∀ (s : State) (r : RefId) (rising : Bool) (a : Capture),
    s.watching = true → (s.ref r).arrived = none → (s.ref r).judging = true →
    (s.ref r).polarity = some rising → (s.ref r).anchor = some a →
    s.tb.runClock + s.settings.working.spacingTolerance * 1000 < a.runClock + 1000000000 →
    ∃ t, exec (.pulseEdge r rising) s = .next t
      ∧ t.ref r.other = s.ref r.other
      ∧ ((s.ref r).failed = false →
          t.ref r = { s.ref r with
            state := .check
            failed := true
            lastFailure := some .earlyPulse
            count := 0
            lossFrom := s.tb.runClock }
          ∧ t = { s with
              refs := t.refs, tb := t.tb, sel := t.sel, ring := t.ring, ports := s.latched t })
      ∧ ((s.ref r).failed = true →
          t.ref r = { s.ref r with lossFrom := s.tb.runClock } ∧ t = { s with refs := t.refs })

/-- LATE_PULSE: once the run clock has passed the late end of the window the second fails, the anchor
is cleared, and a reference that was selected is selected no more (R32, R35, R39, R43); before that the
command does nothing (log 5), and a tolerance written meanwhile counts at once (log 40). -/
def Claims.LatePulseFailsSecond : Prop :=
  (∀ (s : State) (r : RefId) (a : Capture),
    (s.ref r).judging = true → (s.ref r).anchor = some a →
    a.runClock + 1000000000 + s.settings.working.spacingTolerance * 1000 < s.tb.runClock →
    ∃ t, exec (.latePulse r) s = .next t
      ∧ (t.ref r).state = .check ∧ (t.ref r).anchor = none ∧ (t.ref r).window = none
      ∧ (t.ref r).count = 0 ∧ (t.ref r).lastFailure = some .latePulse
      ∧ (t.ref r).polarity = (s.ref r).polarity ∧ (t.ref r).claim = (s.ref r).claim
      ∧ t.ref r.other = s.ref r.other
      ∧ ((s.ref r).state = .qualified → s.sel.selected = some r →
          t.sel.selected ≠ some r ∧ ∀ each, t.sel.lost.get each = true)
      ∧ t = { s with
          refs := t.refs, tb := t.tb, sel := t.sel, ring := t.ring, ports := s.latched t })
  ∧ ∀ (s : State) (r : RefId),
    (∀ a, (s.ref r).anchor = some a →
      s.tb.runClock ≤ a.runClock + 1000000000 + s.settings.working.spacingTolerance * 1000) →
    exec (.latePulse r) s = .next s

/-- PULSE_LOSS_TIMEOUT: 3 s after the edge the timer measures from, the reference becomes ABSENT and
loses what R30 names, its last failure kept (R27, R30); before that the command does nothing (log 5). -/
def Claims.PulseLossMakesReferenceAbsent : Prop :=
  (∀ (s : State) (r : RefId),
    (s.ref r).state ≠ .absent → (s.ref r).lossFrom + 3000000000 ≤ s.tb.runClock →
    ∃ t, exec (.pulseLossTimeout r) s = .next t
      ∧ (t.ref r).state = .absent ∧ (t.ref r).polarity = none ∧ (t.ref r).count = 0
      ∧ (t.ref r).anchor = none ∧ (t.ref r).window = none ∧ (t.ref r).previous = none
      ∧ (t.ref r).lastMessage = none ∧ (t.ref r).claim = none
      ∧ (t.ref r).learning = ⟨none, none, none⟩
      ∧ (t.ref r).lastFailure = (s.ref r).lastFailure
      ∧ t.ref r.other = s.ref r.other
      ∧ t = { s with
          refs := t.refs, tb := t.tb, sel := t.sel, ring := t.ring, ports := s.latched t })
  ∧ ∀ (s : State) (r : RefId),
    (s.ref r).state = .absent ∨ s.tb.runClock < (s.ref r).lossFrom + 3000000000 →
    exec (.pulseLossTimeout r) s = .next s

/-- An early or late pulse fails the second; 3 s without an edge make the reference ABSENT. -/
def Obligations.MissingOrStrayPulsesFailReference : Prop :=
  Claims.EarlyPulseFailsSecondOnce
    ∧ Claims.LatePulseFailsSecond
    ∧ Claims.PulseLossMakesReferenceAbsent

/-- TIME_MESSAGE: a complete message belongs to the current second when it completes 100 to 900 ms
after the anchor; a second one marks the second as holding two; its check and its claim class decide
whether it is faulty (R28, R29). The message is one the receiver has completed, or one given at once
that completes now (the model's two forms, log 14). -/
def Obligations.MessageIsPlacedInItsSecond : Prop :=
  ∀ (s : State) (r : RefId) (bytes : List Byte) (done : Nat),
    s.watching = true → (Instr.timeMessage r bytes).wellFormed = true →
    ((s.ref r).arrived = some ⟨bytes, done⟩ ∨ ((s.ref r).arrived = none ∧ done = s.tb.runClock)) →
    let x := s.ref r
    let info : MessageInfo :=
      ⟨BitVec.ofNat 32 (ofBe ((bytes.drop 2).take 4)), (bytes.getD 6 0).toNat, bytes.getD 7 0,
        bytes.getD 8 0⟩
    let sum := ((bytes.take 10).map BitVec.toNat).sum
      + 256 * (bytes.getD 10 0).toNat + (bytes.getD 11 0).toNat
    let fault : Option FailCause :=
      if sum % 65536 ≠ 0 then some .badCheck
      else if info.claim = 0 ∨ 6 < info.claim then some .badMessage else none
    let belongs : Bool := x.judging && match x.anchor with
      | some a => decide (a.runClock + 100000000 ≤ done ∧ done ≤ a.runClock + 900000000)
      | none => false
    ∃ t, exec (.timeMessage r bytes) s = .next t
      ∧ (belongs = false → t.ref r = { x with arrived := none })
      ∧ (belongs = true → t.ref r = { x with
          arrived := none
          window := if x.window.isSome then x.window else some ⟨info, fault⟩
          two := x.two || x.window.isSome
          lastMessage := if fault = none then some info else x.lastMessage })
      ∧ t.ref r.other = s.ref r.other
      ∧ t = { s with refs := t.refs }

/-- MESSAGE_BYTE: the receiver hunts for 0xA7, wants the length 12 after it, drops a partial message at
a low stop bit or after a gap of more than 5 ms, examining the late byte as a sync, and completes a
message at its twelfth byte (R28). The operand `gap` is the time from the byte's start bit to its end
(the model's form of the event, log 15). -/
def Claims.ReceiverAssemblesMessage : Prop :=
  ∀ (s : State) (r : RefId) (b : Byte) (stopHigh : Bool) (gap : Nat),
    s.watching = true → (s.ref r).arrived = none →
    let x := s.ref r
    let kept := if x.lastByteEnd + 5000000 + gap < s.tb.runClock then [] else x.received
    ∃ t, exec (.messageByte r b stopHigh gap) s = .next t
      ∧ (stopHigh = false → t.ref r = { x with received := [], lastByteEnd := s.tb.runClock })
      ∧ (stopHigh = true → kept = [] → t.ref r = { x with
          received := if b = 0xA7 then [b] else [], lastByteEnd := s.tb.runClock })
      ∧ (stopHigh = true → kept.length = 1 → b = 12 → t.ref r = { x with
          received := kept ++ [b], lastByteEnd := s.tb.runClock })
      ∧ (stopHigh = true → kept.length = 1 → b ≠ 12 → t.ref r = { x with
          received := if b = 0xA7 then [b] else [], lastByteEnd := s.tb.runClock })
      ∧ (stopHigh = true → 2 ≤ kept.length → kept.length ≤ 10 → t.ref r = { x with
          received := kept ++ [b], lastByteEnd := s.tb.runClock })
      ∧ (stopHigh = true → kept.length = 11 → t.ref r = { x with
          received := []
          lastByteEnd := s.tb.runClock
          arrived := some ⟨kept ++ [b], s.tb.runClock⟩ })
      ∧ t = { s with refs := t.refs }

/-- MESSAGE_BYTE_TIMEOUT: more than 5 ms after its last byte a partial message is discarded, and not
before (R28; log 5). -/
def Claims.PartialMessageTimesOut : Prop :=
  ∀ (s : State) (r : RefId),
    ((s.ref r).lastByteEnd + 5000000 < s.tb.runClock →
      exec (.messageByteTimeout r) s = .next (s.setRef r { s.ref r with received := [] }))
    ∧ (s.tb.runClock ≤ (s.ref r).lastByteEnd + 5000000 → exec (.messageByteTimeout r) s = .next s)

/-- The message receiver hunts, assembles twelve bytes and drops what is broken off. -/
def Obligations.ReceiverAssemblesOrDropsMessage : Prop :=
  Claims.ReceiverAssemblesMessage
    ∧ Claims.PartialMessageTimesOut

/-- UNPAIRED_MARK_TIMEOUT: a mark without a partner 500 ms later is judged as a disagreeing pair, with
the last pair difference unchanged; the third in a row sets the flag with its record (R41, R42). Before
that the command does nothing (log 5). -/
def Claims.UnpairedMarkCountsAsDisagreement : Prop :=
  (∀ (s : State) (m : Mark), s.sel.unpaired = some m →
    m.runClock + 500000000 < s.tb.runClock →
    ∃ t, exec .unpairedMarkTimeout s = .next t
      ∧ (s.sel.disagree = true →
          t = { s with sel := { s.sel with unpaired := none, agreeCount := 0 } })
      ∧ (s.sel.disagree = false → s.sel.disagreeCount ≠ 2 →
          t = { s with sel := { s.sel with
            unpaired := none, disagreeCount := s.sel.disagreeCount + 1 } })
      ∧ (s.sel.disagree = false → s.sel.disagreeCount = 2 →
          t = { s with
            sel := { s.sel with
              unpaired := none, disagree := true, disagreeCount := 0, agreeCount := 0 }
            ring := t.ring
            ports := s.latched t }
          ∧ t.noticed .ref
          ∧ (s.ring.started = true → t.ring.holds s.ring.next (s.ownRecord .disagree 1))))
  ∧ ∀ s : State,
    (∀ m, s.sel.unpaired = some m → s.tb.runClock ≤ m.runClock + 500000000) →
    exec .unpairedMarkTimeout s = .next s

/-- The judgement of a pair of marks that lie within 500 ms of each other, whichever reference marked
first: with the flag clear disagreements count up to it, with the flag set ten agreements in a row clear
it and the selection is evaluated without it (R39, R41, R42). DISAGREE is written before the REF_SELECT of
that evaluation by the model's choice (log 20); so is that a mark pairs once, with the first that comes within
500 ms of it (log 53). -/
def Claims.PairOfMarksIsJudged : Prop :=
  ∀ (s : State) (o m : Mark),
    (s.ref .ref1).state = .qualified → (s.ref .ref2).state = .qualified →
    s.sel.unpaired = some o → o.ref ≠ m.ref → s.tb.runClock ≤ o.runClock + 500000000 →
    let d : Int :=
      if o.ref = .ref1 then (m.runClock : Int) - o.runClock else (o.runClock : Int) - m.runClock
    let near := d.natAbs ≤ s.settings.working.disagreementLimit * 1000
    let agrees := o.second = m.second ∧ near
    let paired : Selection := { s.sel with unpaired := none, lastDifference := d }
    let t := s.comparePulse m
    (s.sel.disagree = false → agrees →
      t = { s with sel := { paired with disagreeCount := 0 } })
    ∧ (s.sel.disagree = false → o.second = m.second → ¬ near → s.sel.disagreeCount < 2 →
        t = { s with sel := { paired with disagreeCount := s.sel.disagreeCount + 1 } })
    ∧ (s.sel.disagree = false → o.second ≠ m.second ∨ (¬ near ∧ s.sel.disagreeCount = 2) →
        t.sel = { paired with disagree := true, disagreeCount := 0, agreeCount := 0 }
        ∧ t.noticed .ref
        ∧ (s.ring.started = true → t.ring.holds s.ring.next (s.ownRecord .disagree 1))
        ∧ t = { s with sel := t.sel, ring := t.ring, ports := s.latched t })
    ∧ (s.sel.disagree = true → agrees → s.sel.agreeCount ≠ 9 →
        t = { s with sel := { paired with agreeCount := s.sel.agreeCount + 1 } })
    ∧ (s.sel.disagree = true → ¬ agrees →
        t = { s with sel := { paired with agreeCount := 0 } })
    ∧ (s.sel.disagree = true → agrees → s.sel.agreeCount = 9 →
        t.sel.disagree = false ∧ t.sel.disagreeCount = 0 ∧ t.sel.agreeCount = 0
        ∧ t.sel.unpaired = none ∧ t.sel.lastDifference = d
        ∧ t.sel.selected
            = ({ s with sel := { s.sel with disagree := false } } : State).choice
        ∧ t.noticed .ref
        ∧ (s.ring.started = true → t.ring.holds s.ring.next (s.ownRecord .disagree 0))
        ∧ t = { s with tb := t.tb, sel := t.sel, ring := t.ring, ports := s.latched t })

/-- Marked pulses are judged in pairs, and an unpaired mark as a disagreement. -/
def Obligations.MarksAreJudgedInPairsOrAlone : Prop :=
  Claims.PairOfMarksIsJudged
    ∧ Claims.UnpairedMarkCountsAsDisagreement

/-- SELECT REFERENCE (R38, R39, R40): the mode named is set and the selection it gives is made; a mode
value above 3 is refused. -/
def Claims.SelectReferenceSetsModeAndSelection : Prop :=
  ∀ (s : State) (q : Port) (value : Byte),
    (s.port q).waits (.selectReference value) = true →
    let one := decide ((s.ref .ref1).state = .qualified)
    let two := decide ((s.ref .ref2).state = .qualified)
    let claim1 := (s.ref .ref1).claim.getD 6
    let claim2 := (s.ref .ref2).claim.getD 6
    let better : Option RefId :=
      if one && two then
        some (if claim1 < claim2 then .ref1 else if claim2 < claim1 then .ref2
          else s.settings.working.priority)
      else if one then some .ref1 else if two then some .ref2 else none
    let auto : Option RefId :=
      match s.sel.selected with
      | some .ref1 =>
        if one then
          if two && decide (claim2 < claim1) && !s.sel.disagree then some .ref2 else some .ref1
        else better
      | some .ref2 =>
        if two then
          if one && decide (claim1 < claim2) && !s.sel.disagree then some .ref1 else some .ref2
        else better
      | none => better
    ∃ t, exec (.selectReference q value) s = .next t
      ∧ (3 < value.toNat → AnsweredIn q (.selectReference value) .badValue [] s t)
      ∧ (value = 0 → t.sel.mode = .auto ∧ t.sel.selected = auto)
      ∧ (value = 1 → t.sel.mode = .ref1 ∧ t.sel.selected = if one then some .ref1 else none)
      ∧ (value = 2 → t.sel.mode = .ref2 ∧ t.sel.selected = if two then some .ref2 else none)
      ∧ (value = 3 → t.sel.mode = .none ∧ t.sel.selected = none)
      ∧ (value.toNat ≤ 3 →
          AnsweredAndNoticed q (.selectReference value) .ok
            [match t.sel.selected with | none => 0 | some .ref1 => 1 | some .ref2 => 2] s t
          ∧ (t.sel.selected ≠ s.sel.selected → s.ring.started = true →
              t.noticed .ref
              ∧ t.ring.holds s.ring.next (s.ownRecord .refSelect
                  (BitVec.ofNat 16 (value.toNat * 256
                    + match t.sel.selected with | none => 0 | some .ref1 => 1 | some .ref2 => 2))))
          ∧ t = { s with tb := t.tb, sel := t.sel, ring := t.ring, ports := t.ports })

/-- What the Timebase makes of a selection removed or gained by SELECT REFERENCE (R7, R8, R43): LOCKED
becomes HOLDOVER with Q at I and every latch set, FREE becomes ACQUIRE. -/
def Claims.SelectionChangeMovesTimebase : Prop :=
  (∀ (s : State) (q : Port) (r : RefId),
    (s.port q).waits (.selectReference 3) = true → s.sel.selected = some r →
    s.tb.state = .locked →
    ∃ t, exec (.selectReference q 3) s = .next t
      ∧ t.tb = { s.tb with state := .holdover, rate := s.tb.integral, outliers := 0 }
      ∧ ∀ each, t.sel.lost.get each = true)
  ∧ (∀ (s : State) (q : Port) (r : RefId),
    (s.port q).waits (.selectReference 3) = true → s.sel.selected = some r →
    s.tb.state = .acquire →
    ∃ t, exec (.selectReference q 3) s = .next t
      ∧ t.tb = { s.tb with state := .free } ∧ t.sel.lost = s.sel.lost)
  ∧ ∀ (s : State) (q : Port),
    (s.port q).waits (.selectReference 1) = true → s.sel.selected = none →
    (s.ref .ref1).state = .qualified → s.tb.state = .free →
    ∃ t, exec (.selectReference q 1) s = .next t
      ∧ t.sel.selected = some .ref1 ∧ t.tb = { s.tb with state := .acquire }

/-- SELECT REFERENCE sets the mode, the selection follows it, and the Timebase takes the change. -/
def Obligations.SelectReferenceMakesSelection : Prop :=
  Claims.SelectReferenceSetsModeAndSelection
    ∧ Claims.SelectionChangeMovesTimebase

/-! ### Time distribution (03) -/

/-- A second boundary begins a strobe and loads the word of the second just begun, with its four flags
and its check, under the settings in force (R47, R48, R49, R50, R52, R54). Its second, class and
HOLDOVER flag and the minute of its strobe are those of the cycle's one reading, which shows the second just
begun (R4; log 45), with the growth of U at the same boundary by the model's order (log 17). -/
def Obligations.BoundaryBeginsStrobeAndWord : Prop :=
  ∀ s : State, s.due.second = true →
    let x := s.settings.working
    ∃ t, exec .secondBoundary s = .next t ∧ ∃ w : TimeWord,
      t.dist = { s.dist with
          word := some w
          asserted := true
          lead := s.tb.runClock
          width :=
            if s.tb.cycleSecond.toNat % 60 = 0 then 2 * (x.strobeWidth * 1000000)
            else x.strobeWidth * 1000000
          wordState := .delay
          bit := 0
          halfPeriod := (x.bitPeriodP + 1) * 1000
          delay := x.delayD
          changes := 0
          dclk := false
          ddata := false
          latency := s.dist.latency - 1
          stepPending := false
          echoPending := true }
      ∧ w.second = s.tb.cycleSecond ∧ w.cls = s.tb.cycleClass
      ∧ (w.invalid = true ↔ 0 < s.dist.latency) ∧ w.stepped = s.dist.stepPending
      ∧ (w.holdover = true ↔ s.tb.cycleState = .holdover)
      ∧ (w.testAny = true ↔ ∃ u, (s.modes.get u).test.isSome = true)
      ∧ w.check = - (BitVec.ofNat 8 (w.second.toNat / 2 ^ 24) + BitVec.ofNat 8 (w.second.toNat / 2 ^ 16)
          + BitVec.ofNat 8 (w.second.toNat / 2 ^ 8) + BitVec.ofNat 8 w.second.toNat
          + BitVec.ofNat 8 (w.cls * 16 + w.invalid.toNat * 8 + w.stepped.toNat * 4
              + w.holdover.toNat * 2 + w.testAny.toNat))

/-- STROBE_RELEASE: DSTROBE is released once the run clock has reached L + W, not before, and nothing
else changes (R49; log 5). -/
def Claims.StrobeReleasesAtItsWidth : Prop :=
  ∀ s : State,
    (s.dist.asserted = true → s.dist.lead + s.dist.width ≤ s.tb.runClock →
      exec .strobeRelease s = .next { s with dist := { s.dist with asserted := false } })
    ∧ (s.tb.runClock < s.dist.lead + s.dist.width → exec .strobeRelease s = .next s)

/-- DCLK_DDATA_CHANGE and WORD_END: change n of a word is made at L + (2D + n) half-periods, an even one
driving bit n/2 with DCLK low and an odd one raising DCLK; at the 96th the last clock falls and the
word state is IDLE (R51), where neither command does anything (log 5). -/
def Claims.WordIsClockedFromItsLeadingEdge : Prop :=
  (∀ (s : State) (w : TimeWord), s.dist.wordState ≠ .idle → s.dist.word = some w →
    s.dist.changes < 96 →
    s.dist.lead + (2 * s.dist.delay + s.dist.changes) * s.dist.halfPeriod ≤ s.tb.runClock →
    let bit := s.dist.changes / 2
    ∃ t, exec .dclkDdataChange s = .next t
      ∧ t = { s with dist := t.dist }
      ∧ (s.dist.changes % 2 = 0 → t.dist = { s.dist with
          wordState := .sending
          bit := bit
          ddata := (w.bytes.getD (bit / 8) 0).getLsbD (7 - bit % 8)
          dclk := false
          changes := s.dist.changes + 1 })
      ∧ (s.dist.changes % 2 = 1 → t.dist = { s.dist with
          dclk := true, changes := s.dist.changes + 1 }))
  ∧ (∀ s : State, s.dist.wordState ≠ .idle →
    s.dist.lead + (2 * s.dist.delay + 96) * s.dist.halfPeriod ≤ s.tb.runClock →
    exec .wordEnd s
      = .next { s with dist := { s.dist with wordState := .idle, dclk := false, ddata := false } })
  ∧ ∀ s : State, s.dist.wordState = .idle →
    exec .wordEnd s = .next s ∧ exec .dclkDdataChange s = .next s

/-- Strobe and word run on the schedule of their leading edge. -/
def Obligations.StrobeAndWordRunFromLeadingEdge : Prop :=
  Claims.StrobeReleasesAtItsWidth
    ∧ Claims.WordIsClockedFromItsLeadingEdge

/-- ECHO_CHECK midway through the strobe: the fault latch sets at a mismatch and clears at the tenth
correct reading in a row, each time with DIST_FAULT and the DIST notice (R56, R57). The command names
the level the pin shows, which the model keeps for later readings (log 3). -/
def Obligations.EchoCheckDrivesFaultLatch : Prop :=
  ∀ (s : State) (correct : Bool), s.dist.echoPending = true →
    s.dist.lead + s.dist.width / 2 ≤ s.tb.runClock → s.ring.started = true →
    let done : Distribution := { s.dist with readsBack := correct, echoPending := false }
    ∃ t, exec (.echoCheck correct) s = .next t
      ∧ (s.dist.fault = false → correct = true → t = { s with dist := done })
      ∧ (s.dist.fault = true → correct = false →
          t = { s with dist := { done with correct := 0 } })
      ∧ (s.dist.fault = true → correct = true → s.dist.correct ≠ 9 →
          t = { s with dist := { done with correct := s.dist.correct + 1 } })
      ∧ (s.dist.fault = false → correct = false →
          t = { s with
            dist := { done with fault := true, correct := 0 }, ring := t.ring, ports := s.latched t }
          ∧ t.noticed .dist ∧ t.ring.holds s.ring.next (s.ownRecord .distFault 1))
      ∧ (s.dist.fault = true → correct = true → s.dist.correct = 9 →
          t = { s with
            dist := { done with fault := false, correct := 0 }, ring := t.ring, ports := s.latched t }
          ∧ t.noticed .dist ∧ t.ring.holds s.ring.next (s.ownRecord .distFault 0))

/-- A SET TIME that leaves less of the second than the word or the strobe in progress still needs cuts
them; what ends no later than the new boundary runs on (R54, R55). The cut happens with the step itself
(the model's instant, log 18), and the time left decides alone, also for a backward step (log 50). -/
def Claims.StepCutsWhatOutlastsTheBoundary : Prop :=
  ∀ (s : State) (q : Port) (second : Second) (micros : BitVec 24),
    (s.port q).waits (.setTime second micros) = true →
    s.tb.state = .free ∨ s.tb.state = .holdover → micros.toNat ≤ 999999 → s.due.second = false →
    let boundary := s.tb.runClock + (1000000000 - micros.toNat * 1000)
    let wordEnds := s.dist.lead + (2 * s.dist.delay + 96) * s.dist.halfPeriod
    let release := s.dist.lead + s.dist.width
    let cutWord : Bool := decide (s.dist.wordState ≠ .idle ∧ boundary < wordEnds)
    let cutStrobe : Bool := decide (s.dist.asserted = true ∧ boundary < release)
    ∃ t, exec (.setTime q second micros) s = .next t
      ∧ t.dist = { s.dist with
          stepPending := true
          wordState := if cutWord then .idle else s.dist.wordState
          dclk := if cutWord then false else s.dist.dclk
          ddata := if cutWord then false else s.dist.ddata
          cuts := if cutWord then min 65535 (s.dist.cuts + 1) else s.dist.cuts
          asserted := if cutStrobe then false else s.dist.asserted
          echoPending := if cutStrobe then false else s.dist.echoPending }

/-- SET TIME sets the time or is refused, and cuts the word or strobe that would outlast the
boundary. -/
def Obligations.SetTimeSetsRefusesAndCuts : Prop :=
  Claims.SetTimeSetsOrRefuses
    ∧ Claims.StepCutsWhatOutlastsTheBoundary

/-! ### Unit lines (04) -/

/-- A baseline after a restart takes the level of all 48 lines without a record, a trip file or a start,
every unit receives the levels of its RUNNING, BREAKER, PUMP and CONDENSER lines, a unit in test nothing
more, and any other unit the mode they derive, settled now and counted on in tally and summary, its tallies
and saturated flags kept (R75, R77, R91, R92, R132). -/
def Claims.BaselineTakesLevelsWithoutRecord : Prop :=
  ∀ (s : State) (pins : BitVec 48),
    s.due.scan = true → s.lines.awaiting = true → s.phase = .running →
    ∃ t, exec (.baseline pins) s = .next t ∧ s.BaselineTaken pins t
      ∧ t.shift = { s.shift with units := t.shift.units }
      ∧ t = { s with
          due := { s.due with scan := false }, lines := t.lines, modes := t.modes,
          tally := t.tally, shift := t.shift }

/-- The baseline of a power-on takes every line's level, and with it every unit its mode levels and, outside
test, its settled and counted mode, the recovered tallies, saturated flags and counts standing (R75, R76, R91,
R132, R145). It ends the power-on sequence: START with datum 0, or 2 after a power-fail checkpoint, is the first
record, the sequence's end is reached and RESTART is latched (R109, R110, R197); the running summary opens
with PARTIAL set under the shift identity that recovery has left, every count of it and of its units at 0 (R176,
R181). That the summary's start second is the
present S, where R181 speaks of the restored one, is the model's choice (log 35). -/
def Claims.FirstBaselineEndsPowerOnSequence : Prop :=
  ∀ (s : State) (pins : BitVec 48),
    s.due.scan = true → s.lines.awaiting = true → s.phase = .baselining →
    s.ring.records = [] → s.ring.deferred.length ≤ 1000 →
    ∃ t, exec (.baseline pins) s = .next t
      ∧ s.BaselineTaken pins t
      ∧ t.phase = .running
      ∧ t.ring.started = true ∧ t.ring.deferred = []
      ∧ t.ring.records.length = s.ring.deferred.length + 1
      ∧ (∃ near, t.ring.records[0]? = some
          ((s.ownRecord .start (if s.ring.orderly then 2 else 0)).record s.ring.next near))
      ∧ (∀ (i : Nat) (e : Entry), s.ring.deferred[i]? = some e → ∃ near,
          t.ring.records[i + 1]? = some (e.record (s.ring.next + BitVec.ofNat 32 (i + 1)) near))
      ∧ t.noticed .restart
      ∧ (∃ m, t.shift.running = some m ∧ m.isPartial = true ∧ m.firstSeq = s.ring.next
          ∧ m.number = s.shift.identity.number ∧ m.elapsed = 0
          ∧ m.crewOut = s.shift.identity.crew ∧ m.start = s.tb.second ∧ m.worstClass = s.cls
          ∧ m.timeSteps = 0 ∧ m.missed = 0 ∧ m.overdue = 0
          ∧ ∀ u, m.units.get u = ⟨PerMode.all 0, 0, 0, 0, (s.shift.units.get u).inTest⟩)
      ∧ t.shift = { s.shift with units := t.shift.units, running := t.shift.running }
      ∧ t = { s with
          phase := .running, due := { s.due with scan := false }, lines := t.lines, modes := t.modes,
          tally := t.tally, shift := t.shift, ring := t.ring, ports := s.latched t }

/-- A baseline takes every level and settles every unit; after a restart without a record, at
power-on ending the power-on sequence. -/
def Obligations.BaselinesTakeLevelsAndEndSequence : Prop :=
  Claims.BaselineTakesLevelsWithoutRecord
    ∧ Claims.FirstBaselineEndsPowerOnSequence

/-- FAST_LINE_EDGE: an edge away from the filtered level makes a STABLE line PENDING with that edge's
date; on a PENDING line each edge begins a new run and the date stays (R61, R62). -/
def Claims.FastEdgeOpensOrFollowsPendingChange : Prop :=
  ∀ (s : State) (u : UnitId) (f : FastLine) (high : Bool),
    let l := fastLine u f
    s.phase = .running → s.lines.awaiting = false → (s.line l).raw = !high →
    let level := high != (s.line l).inverted
    ((s.line l).pend = none → level ≠ (s.line l).filtered →
      exec (.fastLineEdge u f high) s = .next (s.setLine l { s.line l with
        raw := high, pend := some ⟨s.reading, true, s.tb.runClock, 1⟩ }))
    ∧ (∀ c, (s.line l).pend = some c →
      exec (.fastLineEdge u f high) s = .next (s.setLine l { s.line l with
        raw := high
        pend := some { c with
          atPending := level != (s.line l).filtered, since := s.tb.runClock } }))

/-- FAST_LINE_DEBOUNCE_END: after an unbroken run of the debounce time the change is cancelled without
a trace or accepted with the record of its first edge and its hand-offs (AcceptedChangeIsHandedOn), and not
before; a master trip's release goes to the record alone (R62, R65, R66, R67). Before that the command does nothing (log 5); a debounce written
in the present cycle counts from the next one (R73; log 37). -/
def Claims.FastDebounceAcceptsOrCancels : Prop :=
  ∀ (s : State) (u : UnitId) (f : FastLine) (c : PendingChange),
    let l := fastLine u f
    (s.line l).pend = some c →
    (s.phase = .running → s.lines.awaiting = false →
      c.since + s.settings.atCycle.fastDebounce * 1000 ≤ s.tb.runClock →
      ∃ t, exec (.fastLineDebounceEnd u f) s = .next t
        ∧ (c.atPending = false →
            t = s.setLine l { s.line l with pend := none })
        ∧ (c.atPending = true →
            t = (s.setLine l { s.line l with
                filtered := !(s.line l).filtered, pend := none }).acceptChange l (!(s.line l).filtered)
              c.stamp)
        ∧ (c.atPending = true → (s.line l).chatter = .quiet → s.ring.started = true →
            (s.line l).role = .masterTrip ∨ (s.line l).role = .breaker →
            (t.line l).filtered = !(s.line l).filtered ∧ (t.line l).pend = none
            ∧ (t.line l).lastRecorded = !(s.line l).filtered
            ∧ (∀ k : LineId, k ≠ l → t.line k = s.line k)
            ∧ t.ring.holds s.ring.next
                { kind := if (s.line l).filtered then .lineOff else .lineOn
                  field := BitVec.ofNat 8 l.val
                  stamp := c.stamp
                  datum := 0
                  test := (s.modeOf u).test.isSome })
        ∧ (c.atPending = true → (s.line l).chatter = .quiet → s.ring.started = true →
            (s.line l).role = .masterTrip → (s.line l).filtered = true →
            t = { s with lines := t.lines, ring := t.ring, ports := s.latched t }))
    ∧ (s.tb.runClock < c.since + s.settings.atCycle.fastDebounce * 1000 →
        exec (.fastLineDebounceEnd u f) s = .next s)

/-- A fast line's change is dated at its first edge and accepted or cancelled after an unbroken run.
-/
def Obligations.FastLinesAreDebounced : Prop :=
  Claims.FastEdgeOpensOrFollowsPendingChange
    ∧ Claims.FastDebounceAcceptsOrCancels

/-- SCAN_INSTANT: each of the 36 scanned lines takes its sample; its change is accepted, or cancelled,
by the k + 1st consecutive sample at the pending level, or back at the filtered level, with k the
debounce time in scan periods rounded up; the fast lines are not touched (R63, R64). All pins are sampled
first, then the lines are taken in rising order, each accepted change with all its hand-offs
(AcceptedChangeIsHandedOn) before the next line (R64, R65, R66). -/
def Obligations.ScanInstantDebouncesEachScannedLine : Prop :=
  ∀ (s : State) (pins : BitVec 48),
    s.phase = .running → s.lines.awaiting = false → s.due.scan = true →
    let k := (s.settings.working.scannedDebounce + (s.lines.period - 1)) / s.lines.period
    let sampled : State := { s with
      due := { s.due with scan := false }
      lines := { s.lines with tab := s.lines.tab.mapIdx fun l x =>
        if 2 ≤ l.val % 8 then { x with raw := pins.getLsbD l.val } else x } }
    let accepted (v : State) (l : LineId) (x : Stamp) : State :=
      (v.setLine l { v.line l with filtered := !(v.line l).filtered, pend := none }).acceptChange l
        (!(v.line l).filtered) x
    let debounced (v : State) (l : LineId) : State :=
      let y := v.line l
      let away : Bool := (pins.getLsbD l.val != y.inverted) != y.filtered
      match y.pend with
      | none =>
        if away = false then v
        else if k = 0 then accepted v l s.reading
        else v.setLine l { y with pend := some ⟨s.reading, true, s.tb.runClock, 1⟩ }
      | some c =>
        let run := if c.atPending = away then c.samples + 1 else 1
        if run ≤ k then v.setLine l { y with pend := some { c with atPending := away, samples := run } }
        else if away then accepted v l c.stamp
        else v.setLine l { y with pend := none }
    ∃ t, exec (.scanInstant pins) s = .next t
      ∧ t = ((List.finRange 48).filter fun l => decide (2 ≤ l.val % 8)).foldl debounced sampled
      ∧ (∀ l : LineId, l.val % 8 < 2 → t.line l = s.line l)
      ∧ (∀ l : LineId, 2 ≤ l.val % 8 →
          let x := s.line l
          let away : Bool := (pins.getLsbD l.val != x.inverted) != x.filtered
          (t.line l).raw = pins.getLsbD l.val
          ∧ (x.pend = none → away = false →
              (t.line l).pend = none ∧ (t.line l).filtered = x.filtered)
          ∧ (x.pend = none → away = true → 0 < k →
              (t.line l).pend = some ⟨s.reading, true, s.tb.runClock, 1⟩
              ∧ (t.line l).filtered = x.filtered)
          ∧ (x.pend = none → away = true → k = 0 →
              (t.line l).pend = none ∧ (t.line l).filtered = !x.filtered)
          ∧ (∀ c, x.pend = some c →
              let run := if c.atPending = away then c.samples + 1 else 1
              (run ≤ k →
                (t.line l).pend = some { c with atPending := away, samples := run }
                ∧ (t.line l).filtered = x.filtered)
              ∧ (k < run →
                (t.line l).pend = none
                ∧ (t.line l).filtered = if away then !x.filtered else x.filtered)))
      ∧ t.tb = s.tb ∧ t.refs = s.refs ∧ t.sel = s.sel ∧ t.dist = s.dist ∧ t.flash = s.flash
      ∧ t.settings = s.settings ∧ t.due = { s.due with scan := false }

/-- CHATTER_WINDOW_CLOSE: a window that has passed closes and the line is QUIET; a window still open
stays, its last instant included (R70; log 5). A chatter window written in the present cycle counts from
the next one (R73; log 37). -/
def Claims.ChatterWindowCloses : Prop :=
  ∀ (s : State) (l : LineId) (start count : Nat) (base : Bool),
    (s.line l).chatter = .counting start base count →
    (start + s.settings.atCycle.chatterWindow * 1000000000 < s.tb.runClock →
      exec (.chatterWindowClose l) s
        = .next (s.setLine l { s.line l with chatter := .quiet }))
    ∧ (s.tb.runClock ≤ start + s.settings.atCycle.chatterWindow * 1000000000 →
      exec (.chatterWindowClose l) s = .next s)

/-- An accepted change of a line that is not CHATTERING: its record, then the Trip File Table (MASTER_TRIP,
TRIP_CAUSE and BREAKER lines), then the Mode Detector (BREAKER, RUNNING, PUMP and CONDENSER lines); a SPARE line
hands nothing on. A scanned line then counts the change, below the limit, in its window or a new one (R65, R66,
R67, R70). What the blocks make of it is stated of tripsTake and handLevel. -/
def Claims.AcceptedChangeIsHandedOn : Prop :=
  ∀ (s : State) (l : LineId) (active : Bool) (x : Stamp),
    let u : UnitId := ⟨l.val / 8, by omega⟩
    let change : Change := ⟨l, active, x⟩
    let noted : State := (s.setLine l { s.line l with lastRecorded := active }).append
      { kind := if active then .lineOn else .lineOff
        field := BitVec.ofNat 8 l.val, stamp := x, datum := 0
        test := (s.modeOf u).test.isSome, scanned := decide (2 ≤ l.val % 8) }
    let handed : State := match (s.line l).role with
      | .masterTrip => noted.tripsTake .masterTrip change
      | .tripCause => noted.tripsTake .tripCause change
      | .breaker => (noted.tripsTake .breaker change).handLevel u .breaker active x
      | .running => noted.handLevel u .running active x
      | .pump => noted.handLevel u .pump active x
      | .condenser => noted.handLevel u .condenser active x
      | .event => noted
      | .spare => s
    let window := s.settings.atCycle.chatterWindow * 1000000000
    let opened : Chatter := .counting s.tb.runClock (!active) 1
    let t := s.acceptChange l active x
    let counted (c : Chatter) : Prop := t = handed.setLine l { handed.line l with chatter := c }
    ((s.line l).role = .spare → t = s)
      ∧ (l.val % 8 < 2 → (∀ held since, (s.line l).chatter ≠ .chattering held since) → t = handed)
      ∧ (2 ≤ l.val % 8 → (s.line l).role ≠ .spare →
          ((s.line l).chatter = .quiet → 1 < s.settings.working.chatterLimit → counted opened)
          ∧ ∀ start base count, (s.line l).chatter = .counting start base count →
              (s.tb.runClock ≤ start + window → count + 1 < s.settings.working.chatterLimit →
                counted (.counting start base (count + 1)))
              ∧ (start + window < s.tb.runClock → 1 < s.settings.working.chatterLimit →
                counted opened))

/-- An accepted change of a scanned EVENT line below the limit is recorded, and opens a window with the
level before it as the base, counts into the open window, the window's last instant included, or opens a
new one after an ended window (R65, R70). -/
def Claims.AcceptedChangeIsCounted : Prop :=
  ∀ (s : State) (l : LineId) (active : Bool) (x : Stamp),
    2 ≤ l.val % 8 → (s.line l).role = .event → s.ring.started = true →
    1 < s.settings.working.chatterLimit →
    let window := s.settings.atCycle.chatterWindow * 1000000000
    let opened : Chatter := .counting s.tb.runClock (!active) 1
    let t := s.acceptChange l active x
    let counted (c : Chatter) : Prop :=
      t.line l = { s.line l with chatter := c, lastRecorded := active }
        ∧ t.ring.holds s.ring.next
            { kind := if active then .lineOn else .lineOff
              field := BitVec.ofNat 8 l.val, stamp := x, datum := 0
              test := (s.modeOf ⟨l.val / 8, by omega⟩).test.isSome, scanned := true }
        ∧ (∀ k : LineId, k ≠ l → t.line k = s.line k)
        ∧ t = { s with lines := t.lines, ring := t.ring, ports := s.latched t }
    ((s.line l).chatter = .quiet → counted opened)
    ∧ ∀ start base count, (s.line l).chatter = .counting start base count →
        (s.tb.runClock ≤ start + window → count + 1 < s.settings.working.chatterLimit →
          counted (.counting start base (count + 1)))
        ∧ (start + window < s.tb.runClock → counted opened)

/-- The change that brings a COUNTING line's count to the limit is recorded, then CHATTER_ON with its
date, and the line is held at the window's base level; while CHATTERING an accepted change is only
suppressed (R71, R72). -/
def Claims.ChatterHoldsLineAtBaseLevel : Prop :=
  (∀ (s : State) (l : LineId) (active : Bool) (x : Stamp) (start count : Nat) (base : Bool),
    2 ≤ l.val % 8 → (s.line l).role = .event → s.ring.started = true →
    (s.line l).chatter = .counting start base count →
    s.tb.runClock ≤ start + s.settings.atCycle.chatterWindow * 1000000000 →
    s.settings.working.chatterLimit ≤ count + 1 →
    let t := s.acceptChange l active x
    let test := (s.modeOf ⟨l.val / 8, by omega⟩).test.isSome
    t.line l = { s.line l with
        chatter := .chattering base s.tb.runClock, suppressed := 0, lastRecorded := active }
      ∧ t.ring.holds s.ring.next
          { kind := if active then .lineOn else .lineOff
            field := BitVec.ofNat 8 l.val, stamp := x, datum := 0, test := test, scanned := true }
      ∧ t.ring.holds (s.ring.next + 1)
          { kind := .chatterOn
            field := BitVec.ofNat 8 l.val, stamp := x, datum := 0, test := test, scanned := true }
      ∧ t = { s with lines := t.lines, ring := t.ring, ports := s.latched t })
  ∧ ∀ (s : State) (l : LineId) (active held : Bool) (x : Stamp) (since : Nat),
    (s.line l).role ≠ .spare → (s.line l).chatter = .chattering held since →
    s.acceptChange l active x = s.setLine l { s.line l with
      chatter := .chattering held s.tb.runClock
      suppressed := min 65535 ((s.line l).suppressed + 1) }

/-- CHATTER_ON on the lines of the other roles: the change itself is recorded and handed on first, so a
TRIP_CAUSE operate is offered to its trip file and the CHATTER_ON hands the table nothing; a line with a
mode level leaves the Mode Detector at the held base level (R66, R71; the date handed with a held level is
the model's choice, log 31). -/
def Claims.ChatterOnHandsHeldLevel : Prop :=
  ∀ (s : State) (l : LineId) (active : Bool) (x : Stamp) (start count : Nat) (base : Bool),
    2 ≤ l.val % 8 → s.ring.started = true → (s.line l).filtered = active →
    (s.line l).chatter = .counting start base count →
    s.tb.runClock ≤ start + s.settings.atCycle.chatterWindow * 1000000000 →
    s.settings.working.chatterLimit ≤ count + 1 →
    let u : UnitId := ⟨l.val / 8, by omega⟩
    let t := s.acceptChange l active x
    let held : Prop :=
      t.line l = { s.line l with
          chatter := .chattering base s.tb.runClock, suppressed := 0, lastRecorded := active }
        ∧ t.ring.holds s.ring.next
            { kind := if active then .lineOn else .lineOff
              field := BitVec.ofNat 8 l.val, stamp := x, datum := 0
              test := (s.modeOf u).test.isSome, scanned := true }
        ∧ ∃ seq, t.ring.holds seq
            { kind := .chatterOn
              field := BitVec.ofNat 8 l.val, stamp := x, datum := 0
              test := (s.modeOf u).test.isSome, scanned := true }
    (∀ k : LevelName,
      levelOfRole (s.line l).role = some k → (s.line l).role ≠ .breaker →
      held ∧ (t.modeOf u).levels.get k = base
        ∧ t = { s with
            lines := t.lines, modes := t.modes, tally := t.tally, shift := t.shift,
            journal := t.journal, ring := t.ring, ports := s.latched t })
    ∧ ((s.line l).role = .tripCause →
      held ∧ t.trips = (s.tripsTake .tripCause ⟨l, active, x⟩).trips
        ∧ t = { s with
            lines := t.lines, trips := t.trips, ring := t.ring, ports := s.latched t })

/-- CHATTER_OFF: after one chatter window without an accepted change CHATTER_OFF carries the suppressed
count, a DERIVED record follows when the line rests at another level than the last recorded one, the
line is QUIET, and the Mode Detector receives the filtered level where it differs from the held one; not
before (R72; log 5, and log 37 for a window written in the present cycle). -/
def Claims.ChatterEndsAfterQuietWindow : Prop :=
  ∀ (s : State) (l : LineId) (held : Bool) (since : Nat),
    (s.line l).chatter = .chattering held since →
    (since + s.settings.atCycle.chatterWindow * 1000000000 ≤ s.tb.runClock →
      s.ring.started = true →
      let x := s.line l
      let test := (s.modeOf ⟨l.val / 8, by omega⟩).test.isSome
      ∃ t, exec (.chatterOff l) s = .next t
        ∧ t.line l = { x with chatter := .quiet, lastRecorded := x.filtered }
        ∧ (∀ k : LineId, k ≠ l → t.line k = s.line k)
        ∧ t.ring.holds s.ring.next
            { kind := .chatterOff
              field := BitVec.ofNat 8 l.val
              stamp := s.reading
              datum := BitVec.ofNat 16 x.suppressed
              test := test }
        ∧ (x.filtered ≠ x.lastRecorded → t.ring.holds (s.ring.next + 1)
            { kind := if x.filtered then .lineOn else .lineOff
              field := BitVec.ofNat 8 l.val
              stamp := s.reading
              datum := 0
              test := test
              derived := true })
        ∧ (∀ k, levelOfRole x.role = some k →
            (t.modeOf ⟨l.val / 8, by omega⟩).levels
              = if x.filtered = held then (s.modeOf ⟨l.val / 8, by omega⟩).levels
                else (s.modeOf ⟨l.val / 8, by omega⟩).levels.set k x.filtered)
        ∧ t = { s with
            lines := t.lines, modes := t.modes, tally := t.tally, shift := t.shift,
            journal := t.journal, ring := t.ring, ports := s.latched t })
    ∧ (s.tb.runClock < since + s.settings.atCycle.chatterWindow * 1000000000 →
        exec (.chatterOff l) s = .next s)

/-- Accepted changes are handed on and counted in a window; a chattering line is held at its base
level until one quiet window has passed. -/
def Obligations.ChatterIsHeldAndEnded : Prop :=
  Claims.ChatterWindowCloses
    ∧ Claims.AcceptedChangeIsHandedOn
    ∧ Claims.AcceptedChangeIsCounted
    ∧ Claims.ChatterHoldsLineAtBaseLevel
    ∧ Claims.ChatterOnHandsHeldLevel
    ∧ Claims.ChatterEndsAfterQuietWindow

/-! ### Unit modes and test (05) -/

/-- SETTLING: a candidate that has stood for the settle time becomes the settled mode with the MODE
record of its start and goes to the Tally Unit and the Shift Controller, a start when it leaves STAND: the
unit's start count and the running summary's rise, each to its cap, and a count that rises is told to the
journal; not before (R80, R81, R82, R132, R134, R135, R150, R177, R178; log 5). An end that a write has moved behind the present
cycle is reached at the next (log 37). -/
def Obligations.CandidateSettlesAfterSettleTime : Prop :=
  ∀ (s : State) (u : UnitId) (c : Candidate), (s.modeOf u).candidate = some c →
    (c.start.runClock + s.settings.working.settleTime * 1000000 ≤ s.tb.runClock →
      c.start.runClock + s.settings.atCycle.settleTime * 1000000 ≤ s.tb.runClock →
      s.ring.started = true →
      let start : Bool := decide ((s.modeOf u).settled = some .stand ∧ c.mode ≠ .stand)
      let was := match (s.modeOf u).settled with | some m => m.code | none => 0
      ∃ t, exec (.settling u) s = .next t
        ∧ t.modeOf u = { s.modeOf u with
            settled := some c.mode, since := some c.start, candidate := none }
        ∧ (∀ v, v ≠ u → t.modeOf v = s.modeOf v)
        ∧ t.tallyOf u = { s.tallyOf u with
            counted := some c.mode
            starts :=
              if start then min 9999999 ((s.tallyOf u).starts + 1) else (s.tallyOf u).starts }
        ∧ (∀ v, v ≠ u → t.tallyOf v = s.tallyOf v) ∧ t.tally.locked = s.tally.locked
        ∧ t.journal = s.journalTold (start && decide ((s.tallyOf u).starts < 9999999))
        ∧ t.shift = { s.shift with units := t.shift.units, running := t.shift.running }
        ∧ (∀ v, t.shift.units.get v = if v = u then
            { s.shift.units.get u with counted := some c.mode } else s.shift.units.get v)
        ∧ s.shift.EntryBecomes u
            (fun x => { x with starts := if start then min 65535 (x.starts + 1) else x.starts }) t.shift
        ∧ t.ring.holds s.ring.next
            { kind := .mode
              field := BitVec.ofNat 8 (u.val + 1)
              stamp := c.start
              datum := BitVec.ofNat 16 (was * 256 + c.mode.code) }
        ∧ t = { s with
            modes := t.modes, tally := t.tally, shift := t.shift, journal := t.journal,
            ring := t.ring, ports := s.latched t })
    ∧ (s.tb.runClock < c.start.runClock + s.settings.working.settleTime * 1000000
          ∨ s.tb.runClock < c.start.runClock + s.settings.atCycle.settleTime * 1000000 →
        exec (.settling u) s = .next s)

/-- The mode derived from four levels: the first row of the table that applies (R78). -/
def Claims.ModeIsDerivedByTable : Prop :=
  ∀ x : ModeLevels,
    (x.running = false → x.derived = .stand)
    ∧ (x.running = true → x.breaker = false → x.derived = .spin)
    ∧ (x.running = true → x.breaker = true → x.condenser = true → x.derived = .cond)
    ∧ (x.running = true → x.breaker = true → x.condenser = false → x.pump = true →
        x.derived = .pump)
    ∧ (x.running = true → x.breaker = true → x.condenser = false → x.pump = false →
        x.derived = .gen)

/-- The quality class and the derived mode follow their tables. -/
def Obligations.ClassAndModeAreReadFromTheirTables : Prop :=
  Claims.ClassIsReadFromUncertainty
    ∧ Claims.ModeIsDerivedByTable

/-- A level handed for a unit in test is stored and goes no further; outside test it derives the mode
anew: the settled mode drops a standing candidate, the candidate's own mode keeps it with its start, and
another mode replaces it by a candidate starting at the level's date, which settles at once when its settle
time has already passed, with its MODE record and, out of STAND, its start; an operate of the breaker counts a
closing first. A count that rises is told to the journal (R79, R80, R81, R82, R83, R85, R134, R135, R150, R178). A candidate
due in the very cycle of a hand-off that keeps it is left out (the model's choice, log 54). -/
def Obligations.LevelDerivesModeOutsideTestOnly : Prop :=
  (∀ (s : State) (u : UnitId) (k : LevelName) (active : Bool) (x : Stamp),
    (s.modeOf u).test.isSome = true →
    s.handLevel u k active x
      = s.setMode u { s.modeOf u with levels := (s.modeOf u).levels.set k active })
  ∧ (∀ (s : State) (u : UnitId) (k : LevelName) (active : Bool) (x : Stamp),
    (s.modeOf u).test = none →
    s.tb.runClock < x.runClock + s.settings.working.settleTime * 1000000 →
    (∀ c, (s.modeOf u).candidate = some c →
      s.tb.runClock < c.start.runClock + s.settings.working.settleTime * 1000000) →
    let levels := (s.modeOf u).levels.set k active
    let t := s.handLevel u k active x
    t.modeOf u = { s.modeOf u with
        levels := levels
        candidate :=
          if (s.modeOf u).settled = some levels.derived then none
          else match (s.modeOf u).candidate with
            | some c => if c.mode = levels.derived then some c else some ⟨levels.derived, x⟩
            | none => some ⟨levels.derived, x⟩ }
      ∧ (let closing : Bool := decide (k = .breaker) && active && !(s.modeOf u).levels.breaker
        t.tallyOf u = { s.tallyOf u with
            closings :=
              if closing then min 9999999 ((s.tallyOf u).closings + 1) else (s.tallyOf u).closings }
          ∧ t.journal = s.journalTold (closing && decide ((s.tallyOf u).closings < 9999999)))
      ∧ (∀ v, v ≠ u → t.modeOf v = s.modeOf v ∧ t.tallyOf v = s.tallyOf v)
      ∧ t.tally.locked = s.tally.locked
      ∧ t = { s with modes := t.modes, tally := t.tally, journal := t.journal })
  ∧ ∀ (s : State) (u : UnitId) (k : LevelName) (active : Bool) (x : Stamp),
    (s.modeOf u).test = none →
    let levels := (s.modeOf u).levels.set k active
    (∀ c, (s.modeOf u).candidate = some c → c.mode ≠ levels.derived) →
    (s.modeOf u).settled ≠ some levels.derived →
    x.runClock + s.settings.working.settleTime * 1000000 ≤ s.tb.runClock →
    let closing : Bool := decide (k = .breaker) && active && !(s.modeOf u).levels.breaker
    let start : Bool := decide ((s.modeOf u).settled = some .stand)
    let was := match (s.modeOf u).settled with | some m => m.code | none => 0
    let y := s.tallyOf u
    let t := s.handLevel u k active x
    t.modeOf u = { s.modeOf u with
        levels := levels, settled := some levels.derived, since := some x, candidate := none }
      ∧ t.tallyOf u = { y with
          counted := some levels.derived
          closings := if closing then min 9999999 (y.closings + 1) else y.closings
          starts := if start then min 9999999 (y.starts + 1) else y.starts }
      ∧ t.journal = s.journalTold
          ((closing && decide (y.closings < 9999999)) || (start && decide (y.starts < 9999999)))
      ∧ (∀ v, v ≠ u → t.modeOf v = s.modeOf v ∧ t.tallyOf v = s.tallyOf v)
      ∧ t.tally.locked = s.tally.locked
      ∧ t.shift = { s.shift with units := t.shift.units, running := t.shift.running }
      ∧ (∀ v, t.shift.units.get v = if v = u then
          { s.shift.units.get u with counted := some levels.derived } else s.shift.units.get v)
      ∧ s.shift.EntryBecomes u
          (fun z => { z with starts := if start then min 65535 (z.starts + 1) else z.starts }) t.shift
      ∧ (s.ring.started = true → t.ring.holds s.ring.next
          { kind := .mode
            field := BitVec.ofNat 8 (u.val + 1)
            stamp := x
            datum := BitVec.ofNat 16 (was * 256 + levels.derived.code) })
      ∧ t = { s with
          modes := t.modes, tally := t.tally, shift := t.shift, journal := t.journal,
          ring := t.ring, ports := s.latched t }

/-- SET TEST: a unit outside 1 to 6 and a unit already in test are refused; otherwise the unit is in
test until the test length has passed, its candidate removed, with TEST_ON (R84, R177). -/
def Claims.SetTestPutsUnitInTest : Prop :=
  ∀ (s : State) (q : Port) (unit : Byte), (s.port q).waits (.setTest unit) = true →
    ∃ t, exec (.setTest q unit) s = .next t
      ∧ (unit.toNat = 0 ∨ 6 < unit.toNat → AnsweredIn q (.setTest unit) .badValue [] s t)
      ∧ ∀ u : UnitId, unit.toNat = u.val + 1 →
          ((s.modeOf u).test.isSome = true →
            AnsweredIn q (.setTest unit) .wrongState [] s t)
          ∧ ((s.modeOf u).test = none → s.ring.started = true →
            AnsweredAndNoticed q (.setTest unit) .ok [] s t
            ∧ t.modeOf u = { s.modeOf u with
                candidate := none
                test := some ⟨s.reading, s.tb.runClock
                  + s.settings.working.testLength * 3600 * 1000000000⟩ }
            ∧ (∀ v, v ≠ u → t.modeOf v = s.modeOf v)
            ∧ (t.shift.units.get u).inTest = true
            ∧ t.ring.holds s.ring.next
                { kind := .testOn, field := unit, stamp := s.reading
                  datum := BitVec.ofNat 16 unit.toNat, test := true }
            ∧ t = { s with
                modes := t.modes, shift := t.shift, ring := t.ring, ports := t.ports })

/-- END TEST and TEST_EXPIRY: the test ends with TEST_OFF, 0 or 1 in its high byte, and the present
levels are derived at once with a candidate starting now; before its deadline no test expires (R86, R87;
log 5). -/
def Claims.TestEndsWithFreshDerivation : Prop :=
  let after (s t : State) (u : UnitId) (how : Nat) : Prop :=
    (t.modeOf u).test = none ∧ (t.modeOf u).levels = (s.modeOf u).levels
      ∧ (t.shift.units.get u).inTest = false
      ∧ (∀ v, v ≠ u → t.modeOf v = s.modeOf v)
      ∧ (0 < s.settings.working.settleTime → (s.modeOf u).candidate = none →
          (t.modeOf u).settled = (s.modeOf u).settled
          ∧ (t.modeOf u).candidate
              = if (s.modeOf u).settled = some (s.modeOf u).levels.derived then none
                else some ⟨(s.modeOf u).levels.derived, s.reading⟩)
      ∧ t.ring.holds s.ring.next
          { kind := .testOff, field := BitVec.ofNat 8 (u.val + 1), stamp := s.reading
            datum := BitVec.ofNat 16 (how * 256 + (u.val + 1)) }
      ∧ t = { s with
          modes := t.modes, tally := t.tally, shift := t.shift, journal := t.journal,
          ring := t.ring, ports := t.ports }
  (∀ (s : State) (q : Port) (unit : Byte), (s.port q).waits (.endTest unit) = true →
    ∃ t, exec (.endTest q unit) s = .next t
      ∧ (unit.toNat = 0 ∨ 6 < unit.toNat → AnsweredIn q (.endTest unit) .badValue [] s t)
      ∧ ∀ u : UnitId, unit.toNat = u.val + 1 →
          ((s.modeOf u).test = none → AnsweredIn q (.endTest unit) .wrongState [] s t)
          ∧ ((s.modeOf u).test.isSome = true → s.ring.started = true →
            AnsweredAndNoticed q (.endTest unit) .ok [] s t ∧ after s t u 0))
  ∧ (∀ (s : State) (u : UnitId) (x : TestRun), (s.modeOf u).test = some x →
    (x.deadline ≤ s.tb.runClock → s.ring.started = true →
      ∃ t, exec (.testExpiry u) s = .next t ∧ after s t u 1 ∧ t.noticed .test
        ∧ t.ports = s.latched t)
    ∧ (s.tb.runClock < x.deadline → exec (.testExpiry u) s = .next s))

/-- SET TEST, END TEST and the expiry begin and end a unit's test with their records. -/
def Obligations.TestsBeginAndEnd : Prop :=
  Claims.SetTestPutsUnitInTest
    ∧ Claims.TestEndsWithFreshDerivation

/-! ### The event ring (06) -/

/-- A record handed to the ring after START takes the next sequence and the newest place; a full ring
first discards its oldest record, moves each cursor that pointed at it, counts that port's loss and
raises LOSS there alone; STEP_NEAR follows the last step (R16, R95, R96, R98, R99). -/
def Obligations.RecordTakesNextSequence : Prop :=
  ∀ (s : State) (e : Entry), s.ring.started = true →
    let full : Bool := decide (1024 ≤ s.ring.records.length)
    let oldest := s.ring.next - BitVec.ofNat 32 s.ring.records.length
    let lost (q : Port) : Bool := full && decide (s.ring.cursors.get q = oldest)
    let near : Bool := match s.tb.lastStep with
      | some x => decide (e.stamp.runClock < x.runClock + 1000000000 ∧ x.runClock ≤ s.tb.runClock)
      | none => false
    let t := s.append e
    t.ring.records
        = (if full then s.ring.records.drop 1 else s.ring.records) ++ [e.record s.ring.next near]
      ∧ t.ring.next = s.ring.next + 1
      ∧ t.ring.writePos = (s.ring.writePos + 1) % 1024
      ∧ (∀ q, t.ring.cursors.get q
          = if lost q then s.ring.cursors.get q + 1 else s.ring.cursors.get q)
      ∧ (∀ q, t.ring.losses.get q
          = if lost q then min 65535 (s.ring.losses.get q + 1) else s.ring.losses.get q)
      ∧ (∀ q, t.port q = if lost q then
          { s.port q with latches := (s.port q).latches ||| (1#13 <<< 8) } else s.port q)
      ∧ t = { s with ring := t.ring, ports := s.latched t }

/-- READ EVENTS returns the held records from the port's cursor on, at most the count served, moves the
cursor past them and clears that port's loss count; the other ports' cursors stay (R98, R100, R101,
R102). How the header is laid out in bytes is R206's. -/
def Obligations.ReadEventsReturnsRecordsFromCursor : Prop :=
  ∀ (s : State) (q : Port) (count : Byte), (s.port q).waits (.readEvents count) = true →
    let served := if count.toNat = 0 ∨ 8 < count.toNat then 8 else count.toNat
    let oldest := s.ring.next - BitVec.ofNat 32 s.ring.records.length
    let records := (s.ring.records.drop (s.ring.cursors.get q - oldest).toNat).take served
    let cursor := s.ring.cursors.get q + BitVec.ofNat 32 records.length
    ∃ t, exec (.readEvents q count) s = .next t
      ∧ AnsweredIn q (.readEvents count) .ok
          (be 2 (s.ring.losses.get q) ++ be 1 records.length ++ be 2 (s.ring.next - cursor).toNat
            ++ records.flatMap Record.bytes)
          { s with ring := { s.ring with
            cursors := s.ring.cursors.set q cursor, losses := s.ring.losses.set q 0 } } t

/-- SEEK EVENTS sets the cursor to the oldest sequence, to one past the newest, or by the position of a
named sequence: held or one past the newest it is taken, discarded it answers NOT_HELD at the oldest,
and otherwise BAD_VALUE leaves the cursor; a selector that names none of these is refused without a
body. A selector other than 2 is taken whatever sequence comes with it, by the model's choice (log 23). No
outcome touches a loss count (R97, R104, R105, R106). -/
def Obligations.SeekEventsJudgesByPosition : Prop :=
  ∀ (s : State) (q : Port) (selector : Byte) (seq : EventSeq),
    (s.port q).waits (.seekEvents selector seq) = true →
    let oldest := s.ring.next - BitVec.ofNat 32 s.ring.records.length
    let moved (cursor : EventSeq) (result : Result) (t : State) : Prop :=
      AnsweredIn q (.seekEvents selector seq) result
        (be 4 cursor.toNat ++ be 4 oldest.toNat ++ be 4 s.ring.next.toNat
          ++ be 4 (s.ring.next - cursor).toNat)
        { s with ring := { s.ring with cursors := s.ring.cursors.set q cursor } } t
    ∃ t, exec (.seekEvents q selector seq) s = .next t
      ∧ (selector = 0 → moved oldest .ok t)
      ∧ (selector = 1 → moved s.ring.next .ok t)
      ∧ (selector = 2 → (seq - oldest).toNat ≤ s.ring.records.length → moved seq .ok t)
      ∧ (selector = 2 → s.ring.records.length < (seq - oldest).toNat →
          (oldest - seq).toNat ≤ 2147483648 → moved oldest .notHeld t)
      ∧ (selector = 2 → s.ring.records.length < (seq - oldest).toNat →
          2147483648 < (oldest - seq).toNat → moved (s.ring.cursors.get q) .badValue t)
      ∧ (2 < selector.toNat → AnsweredIn q (.seekEvents selector seq) .badValue [] s t)

/-- The ring's form is kept by every step (R97): at most 1024 records with consecutive sequences up to
the newest, every cursor between the oldest and one past the newest. -/
def Obligations.RingStaysSound : Prop :=
  ∀ s t : State, s.ring.sound → step s = .next t → t.ring.sound

/-! ### Trip files (07) -/

/-- A master trip of a unit without an OPEN file: the lowest FREE slot, or else the ACKNOWLEDGED file
whose trip came first, with FILE, takes a file with what stands at that moment; TRIP is recorded and raised; out
of test the trip is counted for the unit and in the running summary, each to its cap, and a count that rises is
told to the journal; in test neither moves; a file requests a checkpoint (R113, R114, R115, R116, R117, R134,
R136, R149, R150, R178). -/
def Obligations.TripOpensFile : Prop :=
  ∀ (s : State) (u : UnitId) (x : Stamp) (l : LineId),
    l.val = 8 * u.val → s.openSlot u = none → s.ring.started = true →
    let t := s.tripsTake .masterTrip ⟨l, true, x⟩
    let test := (s.modeOf u).test.isSome
    let told := s.journalTold (!test && decide ((s.tallyOf u).trips < 9999999))
    let opened : TripFile := {
      state := .opened, unit := u
      second := x.second, micros := x.micros, runClock := x.runClock, cls := x.cls
      test := test, cut := false
      breakerClosed := (s.line ⟨8 * u.val + 1, by omega⟩).filtered
      modeBefore := (s.modeOf u).settled
      genTally := (s.tallyOf u).tallies.gen, pumpTally := (s.tallyOf u).tallies.pump
      windowEnd := x.runClock + s.settings.working.tripWindow * 1000000
      lookback := s.settings.working.lookback
      operates := [], overflow := 0, firstOut := none, ambiguous := false
      breakerOpen := none
      precededBy := s.trips.order.head?.bind fun j => (s.file j).map TripFile.unit }
    let record (datum : BitVec 16) : Entry :=
      { kind := .trip, field := BitVec.ofNat 8 (u.val + 1), stamp := x, datum := datum, test := test }
    let opensIn (i : SlotId) : Prop :=
      t.file i = some opened ∧ (∀ j, j ≠ i → t.file j = s.file j)
        ∧ t.trips.order = s.trips.order ++ [i]
        ∧ t.ring.holds s.ring.next (record (BitVec.ofNat 16 i.val))
        ∧ t.journal = { told with
            pending := if s.journal.state = .failed then told.pending else told.pending ||| 16#6 }
    (∀ i : SlotId, s.file i = none → (∀ j : SlotId, j < i → s.file j ≠ none) → opensIn i)
    ∧ (∀ i f, (∀ j, s.file j ≠ none) → s.file i = some f → f.state = .acknowledged →
        (∀ j g, s.file j = some g → g.state = .acknowledged → j ≠ i →
          f.runClock < g.runClock ∨ (f.runClock = g.runClock ∧ i < j)) →
        opensIn i ∧ t.noticed .file)
    ∧ ((∀ j, ∃ f, s.file j = some f ∧ f.state ≠ .acknowledged) →
        t.trips = s.trips ∧ t.ring.holds s.ring.next (record 0x00FF) ∧ t.journal = told)
    ∧ t.noticed .trip
    ∧ (test = false →
        t.tallyOf u = { s.tallyOf u with
          trips := min 9999999 ((s.tallyOf u).trips + 1)
          lastTrip := some ⟨x.second, x.cls, none⟩ }
        ∧ (∀ v, v ≠ u → t.tallyOf v = s.tallyOf v) ∧ t.tally.locked = s.tally.locked
        ∧ t.shift = { s.shift with running := t.shift.running }
        ∧ s.shift.EntryBecomes u (fun m => { m with trips := min 65535 (m.trips + 1) }) t.shift)
    ∧ (test = true → t.tally = s.tally ∧ t.shift = s.shift)
    ∧ t = { s with
        trips := t.trips, tally := t.tally, shift := t.shift, journal := t.journal,
        ring := t.ring, ports := s.latched t }

/-- An operate of a TRIP_CAUSE line begun no earlier than the lookback before the trip takes its place
in the list by run clock and line; the list keeps the 16 earliest and the first-out is the lowest
TRIP_CAUSE line at its earliest place (R118, R119, R120). Stated for a list with room whose entries all
began earlier than the new one, and for one that began before them all. -/
def Claims.OperateTakesItsPlace : Prop :=
  ∀ (f : TripFile) (c : Change), LineId.scanned c.line = true →
    let e : Operate :=
      ⟨c.line, ((c.stamp.runClock : Int) - f.runClock).tdiv 1000, true, c.stamp.runClock⟩
    (c.stamp.runClock + f.lookback * 1000000 < f.runClock → f.offer c = f)
    ∧ (f.runClock ≤ c.stamp.runClock + f.lookback * 1000000 → f.operates.length < 16 →
        (∀ x ∈ f.operates, x.runClock < c.stamp.runClock) →
        (f.offer c).operates = f.operates ++ [e] ∧ (f.offer c).overflow = f.overflow)
    ∧ (f.runClock ≤ c.stamp.runClock + f.lookback * 1000000 →
        (∀ x ∈ f.operates, c.stamp.runClock < x.runClock) →
        (f.offer c).operates = (e :: f.operates).take 16
        ∧ (f.offer c).overflow
            = (if f.operates.length < 16 then f.overflow else min 65535 (f.overflow + 1))
        ∧ (f.offer c).firstOut = some c.line ∧ (f.offer c).ambiguous = false)
    ∧ (f.runClock ≤ c.stamp.runClock + f.lookback * 1000000 → f.operates.length = 16 →
        (∀ x ∈ f.operates, x.runClock < c.stamp.runClock) →
        (f.offer c).operates = f.operates
        ∧ (f.offer c).overflow = min 65535 (f.overflow + 1))

/-- An operate offered to a list that stands in order comes after the entries that began earlier or are as
early with no higher line number, repeats of its own line included, and before the others; the list keeps
the first 16 (R118, R119). A repeat MASTER_TRIP is listed without SCANNED. -/
def Claims.TiedOperatesKeepLineOrder : Prop :=
  ∀ (f : TripFile) (c : Change),
    f.runClock ≤ c.stamp.runClock + f.lookback * 1000000 → f.operates.length ≤ 16 →
    let upTo (a b : Operate) : Prop :=
      a.runClock < b.runClock ∨ (a.runClock = b.runClock ∧ a.line ≤ b.line)
    f.operates.Pairwise upTo →
    let e : Operate :=
      ⟨c.line, ((c.stamp.runClock : Int) - f.runClock).tdiv 1000, decide (2 ≤ c.line.val % 8),
        c.stamp.runClock⟩
    ∃ before after, f.operates = before ++ after
      ∧ (∀ x ∈ before, upTo x e) ∧ (∀ x ∈ after, ¬ upTo x e)
      ∧ (f.offer c).operates = (before ++ e :: after).take 16
      ∧ (f.offer c).overflow
          = if f.operates.length < 16 then f.overflow else min 65535 (f.overflow + 1)

/-- The first-out after an offered operate is the lowest line among the TRIP_CAUSE entries that share the
lowest run clock of the list, absent when there is none there, and the ambiguous flag says that there is
more than one such line (R120). -/
def Claims.FirstOutIsLowestCauseAtEarliestPlace : Prop :=
  ∀ (f : TripFile) (c : Change),
    f.runClock ≤ c.stamp.runClock + f.lookback * 1000000 → f.operates.length ≤ 16 →
    f.operates.Pairwise (fun a b =>
      a.runClock < b.runClock ∨ (a.runClock = b.runClock ∧ a.line ≤ b.line)) →
    let g := f.offer c
    let earliest (x : Operate) : Prop :=
      x ∈ g.operates ∧ x.scanned = true ∧ ∀ y ∈ g.operates, x.runClock ≤ y.runClock
    (∀ l, g.firstOut = some l ↔
        (∃ x, earliest x ∧ x.line = l) ∧ ∀ x, earliest x → l ≤ x.line)
      ∧ (g.ambiguous = true ↔ ∃ x y, earliest x ∧ earliest y ∧ x.line ≠ y.line)

/-- While a unit's file is OPEN its TRIP_CAUSE operates and its repeat MASTER_TRIP operates are offered to
it and nothing else changes; its first BREAKER release from the lookback on sets the breaker-open offset,
later and earlier ones leave it. Without an OPEN file, for BREAKER operates, for releases of the other lines
and for lines of the other roles nothing happens (R67, R113, R118, R121). -/
def Claims.OpenFileTakesOperatesAndFirstRelease : Prop :=
  ∀ (s : State) (l : LineId) (x : Stamp),
    let u : UnitId := ⟨l.val / 8, by omega⟩
    let release := s.tripsTake .breaker ⟨l, false, x⟩
    (∀ i f, s.openSlot u = some i → s.file i = some f →
      s.tripsTake .tripCause ⟨l, true, x⟩ = s.setSlot i (some (f.offer ⟨l, true, x⟩))
      ∧ s.tripsTake .masterTrip ⟨l, true, x⟩ = s.setSlot i (some (f.offer ⟨l, true, x⟩))
      ∧ (f.breakerOpen = none → f.runClock ≤ x.runClock + f.lookback * 1000000 →
          release = s.setSlot i (some { f with
            breakerOpen := some (((x.runClock : Int) - f.runClock).tdiv 1000) }))
      ∧ (f.breakerOpen ≠ none ∨ x.runClock + f.lookback * 1000000 < f.runClock → release = s))
    ∧ (s.openSlot u = none →
        s.tripsTake .tripCause ⟨l, true, x⟩ = s ∧ release = s)
    ∧ s.tripsTake .breaker ⟨l, true, x⟩ = s
    ∧ s.tripsTake .masterTrip ⟨l, false, x⟩ = s ∧ s.tripsTake .tripCause ⟨l, false, x⟩ = s
    ∧ ∀ (r : Role) (active : Bool), r ∈ [Role.running, .pump, .condenser, .event, .spare] →
        s.tripsTake r ⟨l, active, x⟩ = s

/-- Operates take their place in the trip file's list of the 16 earliest; first-out, repeats and the
breaker's release follow. -/
def Obligations.OperateIsListedInOrder : Prop :=
  Claims.OperateTakesItsPlace
    ∧ Claims.TiedOperatesKeepLineOrder
    ∧ Claims.FirstOutIsLowestCauseAtEarliestPlace
    ∧ Claims.OpenFileTakesOperatesAndFirstRelease

/-- WINDOW_END: an OPEN file whose window end is reached closes, or is acknowledged at once with TEST,
with FILE_CLOSED and FILE; a breaker closed at the trip that never released gives BREAKER_FAIL
(R122, R123); before the window end nothing happens (log 5). -/
def Obligations.WindowEndClosesFile : Prop :=
  ∀ (s : State) (i : SlotId) (f : TripFile), s.file i = some f → f.state = .opened →
    (f.windowEnd ≤ s.tb.runClock → s.ring.started = true →
      ∃ t, exec (.windowEnd i) s = .next t
        ∧ t.file i = some { f with
            state := if f.test then .acknowledged else .closed, cut := false }
        ∧ (∀ j, j ≠ i → t.file j = s.file j)
        ∧ t.trips.order = s.trips.order.filter (· ≠ i)
        ∧ t.ring.holds s.ring.next
            { kind := .fileClosed, field := BitVec.ofNat 8 (f.unit.val + 1), stamp := s.reading
              datum := BitVec.ofNat 16 i.val, test := f.test }
        ∧ t.noticed .file
        ∧ (f.test = false → (t.tallyOf f.unit).lastTrip
            = (s.tallyOf f.unit).lastTrip.map fun x => { x with firstOut := f.firstOut })
        ∧ (f.test = true → t.tally = s.tally)
        ∧ (f.test = false ∧ f.breakerClosed = true ∧ f.breakerOpen = none →
            t.noticed .trip
            ∧ t.ring.holds (s.ring.next + 1)
                { kind := .breakerFail, field := BitVec.ofNat 8 (f.unit.val + 1)
                  stamp := s.reading, datum := BitVec.ofNat 16 i.val })
        ∧ (f.test = true ∨ f.breakerClosed = false ∨ f.breakerOpen ≠ none →
            t.ring.next = s.ring.next + 1)
        ∧ t = { s with
            trips := t.trips, tally := t.tally, ring := t.ring, ports := s.latched t })
    ∧ (s.tb.runClock < f.windowEnd → exec (.windowEnd i) s = .next s)

/-- ACKNOWLEDGE TRIP FILE and CLEAR TRIP FILE act on the file of the state and the trip second they
name, and are refused otherwise; neither writes a record (R124, R125). -/
def Obligations.TripFileIsAcknowledgedThenCleared : Prop :=
  (∀ (s : State) (q : Port) (slot : Byte) (second : Second),
    (s.port q).waits (.acknowledgeTripFile slot second) = true →
    ∃ t, exec (.acknowledgeTripFile q slot second) s = .next t
      ∧ (15 < slot.toNat →
          AnsweredIn q (.acknowledgeTripFile slot second) .badValue [] s t)
      ∧ ∀ i : SlotId, slot.toNat = i.val →
          (∀ f, s.file i = some f → f.state = .closed → f.second = second →
            AnsweredAndNoticed q (.acknowledgeTripFile slot second) .ok [] s t
            ∧ t.file i = some { f with state := .acknowledged }
            ∧ (∀ j, j ≠ i → t.file j = s.file j)
            ∧ t.noticed .file
            ∧ t = { s with trips := { s.trips with slots := t.trips.slots }, ports := t.ports })
          ∧ ((∀ f, s.file i = some f → f.state ≠ .closed ∨ f.second ≠ second) →
            AnsweredIn q (.acknowledgeTripFile slot second) .wrongState [] s t))
  ∧ ∀ (s : State) (q : Port) (slot : Byte) (second : Second),
    (s.port q).waits (.clearTripFile slot second) = true →
    ∃ t, exec (.clearTripFile q slot second) s = .next t
      ∧ (15 < slot.toNat → AnsweredIn q (.clearTripFile slot second) .badValue [] s t)
      ∧ ∀ i : SlotId, slot.toNat = i.val →
          (∀ f, s.file i = some f → f.state = .acknowledged → f.second = second →
            AnsweredAndNoticed q (.clearTripFile slot second) .ok [] s t
            ∧ t.file i = none ∧ (∀ j, j ≠ i → t.file j = s.file j)
            ∧ t.noticed .file
            ∧ t = { s with trips := { s.trips with slots := t.trips.slots }, ports := t.ports })
          ∧ ((∀ f, s.file i = some f → f.state ≠ .acknowledged ∨ f.second ≠ second) →
            AnsweredIn q (.clearTripFile slot second) .wrongState [] s t)

/-! ### Run-hour tallies (08) -/

/-- RUN_CLOCK_MILLISECOND_BOUNDARY: each unit's counted mode gains one millisecond up to the cap, where
the saturated flag sets, and the running summary counts it too (R131, R177); without a boundary due
nothing happens (log 5). -/
def Obligations.MillisecondCountsEveryUnit : Prop :=
  (∀ s : State, s.due.millisecond = false → exec .millisecondBoundary s = .next s)
  ∧ ∀ s : State, s.due.millisecond = true →
    ∃ t, exec .millisecondBoundary s = .next t
      ∧ (∀ u, (s.tallyOf u).counted = none → t.tallyOf u = s.tallyOf u)
      ∧ (∀ u k, (s.tallyOf u).counted = some k →
          let v := min 3599999999999 ((s.tallyOf u).tallies.get k + 1)
          t.tallyOf u = { s.tallyOf u with
            tallies := (s.tallyOf u).tallies.set k v
            saturated := (s.tallyOf u).saturated.set k
              ((s.tallyOf u).saturated.get k || decide (v = 3599999999999)) })
      ∧ (∀ m, s.shift.running = some m → ∃ n, t.shift.running = some n
          ∧ n.elapsed = m.elapsed + 1
          ∧ (∀ u k, (s.shift.units.get u).counted = some k →
              (n.units.get u).buckets
                = (m.units.get u).buckets.set k ((m.units.get u).buckets.get k + 1))
          ∧ (∀ u, (n.units.get u).testTime
              = (m.units.get u).testTime + if (m.units.get u).inTest then 1 else 0))
      ∧ t = { s with
          due := { s.due with millisecond := false }
          tally := { s.tally with units := t.tally.units }
          shift := { s.shift with running := t.shift.running } }

/-- PERMIT PRESET grants a unit a permit dated now and answers with its life in seconds; a unit outside
1 to 6 and a locked part refuse it, the unit first by the model's choice (log 46). PERMIT_LAPSE removes it
ten minutes later and not before (R138, R139; log 5). -/
def Claims.PermitIsGrantedAndLapses : Prop :=
  (∀ (s : State) (q : Port) (unit : Byte), (s.port q).waits (.permitPreset unit) = true →
    ∃ t, exec (.permitPreset q unit) s = .next t
      ∧ (unit.toNat = 0 ∨ 6 < unit.toNat → AnsweredIn q (.permitPreset unit) .badValue [] s t)
      ∧ ∀ u : UnitId, unit.toNat = u.val + 1 →
          (s.tally.locked = true → AnsweredIn q (.permitPreset unit) .locked [] s t)
          ∧ (s.tally.locked = false → AnsweredIn q (.permitPreset unit) .ok [0, 0, 2, 88]
              (s.setTally u { s.tallyOf u with permit := some s.tb.runClock }) t))
  ∧ ∀ (s : State) (u : UnitId) (grant : Nat), (s.tallyOf u).permit = some grant →
    (grant + 600000000000 ≤ s.tb.runClock →
      exec (.permitLapse u) s = .next (s.setTally u { s.tallyOf u with permit := none }))
    ∧ (s.tb.runClock < grant + 600000000000 → exec (.permitLapse u) s = .next s)

/-- PRESET TALLY is judged on its unit, its ranges, the lock, the journal, the permit and the mode in
that order, and an accepted one gives the unit the values it names, removes the permit, writes PRESET
and requests a checkpoint; a permit that lapses in the present cycle stands until its PERMIT_LAPSE is
taken (R133, R139, R140, R141). -/
def Obligations.PresetTallyIsJudgedInOrder : Prop :=
  ∀ (s : State) (q : Port) (b : PresetBody), (s.port q).waits (.presetTally b) = true →
    let value (x : TallyBody) : Nat := x.hours.toNat * 3600000 + x.millis.toNat
    let inRange (x : TallyBody) : Bool :=
      decide (x.hours.toNat ≤ 999999) && decide (x.millis.toNat ≤ 3599999)
    let ranges : Bool := inRange b.spin && inRange b.gen && inRange b.pump && inRange b.cond
      && decide (b.starts.toNat ≤ 9999999) && decide (b.trips.toNat ≤ 9999999)
      && decide (b.closings.toNat ≤ 9999999)
    ∃ t, exec (.presetTally q b) s = .next t
      ∧ (b.unit.toNat = 0 ∨ 6 < b.unit.toNat ∨ ranges = false →
          AnsweredIn q (.presetTally b) .badValue [] s t)
      ∧ ∀ u : UnitId, b.unit.toNat = u.val + 1 → ranges = true →
          let permitted : Prop := ∃ grant, (s.tallyOf u).permit = some grant
          (s.tally.locked = true → AnsweredIn q (.presetTally b) .locked [] s t)
          ∧ (s.tally.locked = false → s.journal.state = .failed →
              AnsweredIn q (.presetTally b) .journalFailed [] s t)
          ∧ (s.tally.locked = false → s.journal.state ≠ .failed → ¬ permitted →
              AnsweredIn q (.presetTally b) .notPermitted [] s t)
          ∧ (s.tally.locked = false → s.journal.state ≠ .failed → permitted →
              (s.modeOf u).settled ≠ some .stand →
              AnsweredIn q (.presetTally b) .wrongState [] s t)
          ∧ (s.tally.locked = false → s.journal.state ≠ .failed → permitted →
              (s.modeOf u).settled = some .stand → s.ring.started = true →
              AnsweredAndNoticed q (.presetTally b) .ok [] s t
              ∧ t.tallyOf u = { s.tallyOf u with
                  tallies := ⟨(s.tallyOf u).tallies.stand, value b.spin, value b.gen,
                    value b.pump, value b.cond⟩
                  saturated := ⟨(s.tallyOf u).saturated.stand,
                    decide (value b.spin = 3599999999999), decide (value b.gen = 3599999999999),
                    decide (value b.pump = 3599999999999), decide (value b.cond = 3599999999999)⟩
                  starts := b.starts.toNat
                  trips := b.trips.toNat
                  closings := b.closings.toNat
                  permit := none }
              ∧ (∀ v, v ≠ u → t.tallyOf v = s.tallyOf v)
              ∧ t.journal = { s.journal with pending := s.journal.pending ||| 4#6 }
              ∧ t.ring.holds s.ring.next
                  { kind := .preset, field := b.unit, stamp := s.reading
                    datum := BitVec.ofNat 16 b.unit.toNat }
              ∧ t = { s with
                  tally := t.tally, journal := t.journal, ring := t.ring, ports := t.ports })

/-- LOCK PRESETS sets the lock, removes every permit and writes PRESET once; while the lock is set it is
answered OK and changes nothing (R143). -/
def Claims.LockPresetsRemovesPermits : Prop :=
  ∀ (s : State) (q : Port), (s.port q).waits .lockPresets = true →
    ∃ t, exec (.lockPresets q) s = .next t
      ∧ (s.tally.locked = true → AnsweredIn q .lockPresets .ok [] s t)
      ∧ (s.tally.locked = false → s.ring.started = true →
          AnsweredAndNoticed q .lockPresets .ok [] s t
          ∧ t.tally.locked = true
          ∧ (∀ u, t.tallyOf u = { s.tallyOf u with permit := none })
          ∧ t.ring.holds s.ring.next (s.ownRecord .preset 0)
          ∧ t = { s with tally := t.tally, ring := t.ring, ports := t.ports })

/-- Permits are granted for ten minutes; LOCK PRESETS removes and bars them. -/
def Obligations.PermitsAreGrantedLapseAndLock : Prop :=
  Claims.PermitIsGrantedAndLapses
    ∧ Claims.LockPresetsRemovesPermits

/-! ### The tally journal (09) -/

/-- CHECKPOINT_INTERVAL and COUNT_PACE: at the interval, and with the count-changed mark ten seconds,
after the last capture (or the end of recovery) a request adds its cause to the pending set; an interval
shortened below the time already passed does so at the next cycle (log 37); not before (log 5), and not
while the journal is FAILED (R149, R150). -/
def Claims.IntervalAndPaceRequestCheckpoints : Prop :=
  ∀ s : State, s.phase = .running →
    let since := match s.journal.lastCapture with
      | some x => x
      | none => s.journal.recoveredAt
    let passed (w : Settings) : Prop :=
      since + w.checkpointInterval * 60 * 1000000000 ≤ s.tb.runClock
    (passed s.settings.working → passed s.settings.atCycle → s.journal.state ≠ .failed →
      exec .checkpointInterval s
        = .next { s with journal := { s.journal with pending := s.journal.pending ||| 1#6 } })
    ∧ (¬ passed s.settings.working ∨ ¬ passed s.settings.atCycle ∨ s.journal.state = .failed →
      exec .checkpointInterval s = .next s)
    ∧ (since + 10000000000 ≤ s.tb.runClock → s.journal.countChanged = true →
      s.journal.state ≠ .failed →
      exec .countPace s
        = .next { s with journal := { s.journal with pending := s.journal.pending ||| 2#6 } })
    ∧ (s.tb.runClock < since + 10000000000 ∨ s.journal.countChanged = false
        ∨ s.journal.state = .failed → exec .countPace s = .next s)

/-- CHECKPOINT_BEGIN: a pending checkpoint that nothing holds back is captured as the values stand and
programmed into the current slot; otherwise nothing happens (R151, R156; log 5). -/
def Claims.CheckpointCapturesPresentValues : Prop :=
  (∀ s : State, s.phase = .running → s.journal.pending ≠ 0 → s.journal.state ≠ .failed →
    s.flash.op = .none → s.journal.taken = false → s.journal.reErase = none →
    s.journal.owedErase = none → s.journal.retry = none →
    ∃ r : JournalRecord, r.Captures s s.journal.pending
      ∧ exec .checkpointBegin s = .next { s with
        journal := s.journal.captured s.tb.runClock
        flash := { s.flash with op := .program s.journal.sector s.journal.slot r } })
  ∧ ∀ s : State,
    s.journal.pending = 0 ∨ s.journal.state = .failed ∨ s.flash.op ≠ .none
      ∨ s.journal.taken = true ∨ s.journal.reErase ≠ none ∨ s.journal.owedErase ≠ none
      ∨ s.journal.retry ≠ none →
    exec .checkpointBegin s = .next s

/-- Checkpoints arise by interval and pace and are captured as the values stand. -/
def Obligations.CheckpointsAreRequestedAndCaptured : Prop :=
  Claims.IntervalAndPaceRequestCheckpoints
    ∧ Claims.CheckpointCapturesPresentValues

/-- PROGRAM_END: a program whose read-back matches makes its record the newest and moves the current
slot on; one whose read-back differs counts a failure, marks the sector and programs the same record again
in the next slot, whatever the failed slot is left holding: damaged bytes, or a valid copy of the record. The
last slot of a sector leads into the next one and erases the one after it (R147, R152, R153). That bytes named
by the command mean a read-back that differed is the model's choice (log 52). Stated for a NORMAL journal with
no other work waiting. -/
def Claims.ProgramIsVerifiedOrRetried : Prop :=
  ∀ (s : State) (left : Option (List Byte)) (r : JournalRecord),
    s.flash.op = .program s.journal.sector s.journal.slot r →
    s.journal.state = .normal → s.journal.retired = 0 → s.journal.taken = false →
    s.journal.stage ≠ .waiting → s.journal.reErase = none → s.journal.owedErase = none →
    s.journal.retry = none → s.settings.save = none → s.journal.retireOnLeave = false →
    let address := s.journal.sector.val * 4096 + s.journal.slot.val * 512
    let mem := match left with
      | none => s.flash.mem.program address r.bytes
      | some bytes => s.flash.mem.replace address 512 bytes
    let verified := left = none ∧ mem.slice address 512 = r.bytes
    ∃ t, exec (.programEnd left) s = .next t ∧ t.flash.mem = mem
      ∧ (verified → s.journal.slot ≠ 7 →
          t = { s with
            flash := { s.flash with mem := mem, op := .none }
            journal := { s.journal with
              slot := s.journal.slot + 1
              newest := some ⟨r, s.journal.sector, s.journal.slot⟩ } })
      ∧ (verified → s.journal.slot = 7 →
          t = { s with
            flash := { s.flash with mem := mem, op := .erase (s.journal.sector + 2) }
            journal := { s.journal with
              sector := s.journal.sector + 1
              slot := 0
              newest := some ⟨r, s.journal.sector, 7⟩ } })
      ∧ (¬ verified → s.journal.slot ≠ 7 →
          t = { s with
            flash := { s.flash with
              mem := mem, op := .program s.journal.sector (s.journal.slot + 1) r }
            journal := { s.journal with
              slot := s.journal.slot + 1
              programFailures := min 65535 (s.journal.programFailures + 1)
              retireOnLeave := true } })
      ∧ (¬ verified → s.journal.slot = 7 →
          t.journal = { s.journal with
            sector := s.journal.sector + 1
            slot := 0
            retired := 1#32 <<< s.journal.sector.val
            programFailures := min 65535 (s.journal.programFailures + 1)
            retry := some r }
          ∧ t.flash.op = .erase (s.journal.sector + 2)
          ∧ t.noticed .journal
          ∧ (s.ring.started = true → t.ring.holds s.ring.next (s.ownRecord .journal
              (BitVec.ofNat 16 (256 + s.journal.sector.val))))
          ∧ t = { s with
              journal := t.journal, flash := t.flash, ring := t.ring, ports := s.latched t })

/-- The first checkpoint verified after a power-on that found no record ends EMPTY: the journal becomes
NORMAL or DEGRADED by its retired sectors, with JOURNAL and its notice (R152, R155). -/
def Claims.FirstVerifiedCheckpointEndsEmpty : Prop :=
  ∀ (s : State) (r : JournalRecord),
    s.flash.op = .program s.journal.sector s.journal.slot r → s.journal.slot ≠ 7 →
    s.journal.state = .empty → s.journal.taken = false → s.journal.stage ≠ .waiting →
    s.journal.reErase = none → s.journal.owedErase = none → s.journal.retry = none →
    s.settings.save = none →
    let retired := (List.range 32).countP fun i => s.journal.retired.getLsbD i
    retired ≤ 28 →
    let address := s.journal.sector.val * 4096 + s.journal.slot.val * 512
    let mem := s.flash.mem.program address r.bytes
    mem.slice address 512 = r.bytes →
    ∃ t, exec (.programEnd none) s = .next t
      ∧ t.journal = { s.journal with
          state := if retired ≤ 7 then .normal else .degraded
          slot := s.journal.slot + 1
          newest := some ⟨r, s.journal.sector, s.journal.slot⟩ }
      ∧ t.noticed .journal
      ∧ (s.ring.started = true → t.ring.holds s.ring.next
          (s.ownRecord .journal (if retired ≤ 7 then 0 else 1)))
      ∧ t = { s with
          journal := t.journal
          flash := { s.flash with mem := mem, op := .none }
          ring := t.ring
          ports := s.latched t }

/-- A program that ends while the power-fail state is TAKEN is verified as usual, but an erase it would
begin is owed. Was it in flight at the warning, it is not retried and the power-fail checkpoint begins at
once with POWER_FAIL among its causes; the power-fail program itself is tried once more, in the next slot,
unless that slot's sector is marked or owed, and not a third time (R152, R153, R157). A sector that is
retired loses its re-erase mark with it (R147); an older owed erase is lost by the model's choice (log 42).
A command that names bytes is a read-back that differed by the model's choice (log 52).
Stated for a NORMAL journal with no sector retired. -/
def Claims.ProgramEndsUnderWarning : Prop :=
  ∀ (s : State) (left : Option (List Byte)) (r : JournalRecord),
    s.flash.op = .program s.journal.sector s.journal.slot r →
    s.journal.state = .normal → s.journal.retired = 0 → s.journal.taken = true →
    s.journal.retireOnLeave = false →
    let full : Bool := decide (s.journal.slot = 7)
    let address := s.journal.sector.val * 4096 + s.journal.slot.val * 512
    let mem := match left with
      | none => s.flash.mem.program address r.bytes
      | some bytes => s.flash.mem.replace address 512 bytes
    let good : Bool := decide (left = none ∧ mem.slice address 512 = r.bytes)
    let moved : Journal := { s.journal with
      sector := if full then s.journal.sector + 1 else s.journal.sector
      slot := if full then 0 else s.journal.slot + 1
      owedErase := if full then some (s.journal.sector + 2) else s.journal.owedErase }
    let j : Journal :=
      if good then { moved with newest := some ⟨r, s.journal.sector, s.journal.slot⟩ }
      else { moved with
        programFailures := min 65535 (s.journal.programFailures + 1)
        retired := if full then 1#32 <<< s.journal.sector.val else 0
        reErase :=
          if full = true ∧ s.journal.reErase = some s.journal.sector then none else s.journal.reErase
        retireOnLeave := !full }
    let again : Prop := good = false ∧ j.reErase ≠ some j.sector ∧ j.owedErase ≠ some j.sector
    ∃ t, exec (.programEnd left) s = .next t ∧ t.flash.mem = mem
      ∧ (s.journal.stage = .waiting → ∃ p : JournalRecord,
          t.flash.op = .program j.sector j.slot p
          ∧ p.Captures { s with journal := j } (s.journal.pending ||| 32#6)
          ∧ t.journal = { j.captured s.tb.runClock with stage := .firstTry })
      ∧ (s.journal.stage = .firstTry → again →
          t.flash.op = .program j.sector j.slot r ∧ t.journal = { j with stage := .secondTry })
      ∧ (s.journal.stage = .firstTry → ¬ again →
          t.flash.op = .none ∧ t.journal = { j with stage := .done })
      ∧ (s.journal.stage = .secondTry →
          t.flash.op = .none ∧ t.journal = { j with stage := .done })
      ∧ ((full && !good) = false → t.ring = s.ring ∧ t.ports = s.ports)
      ∧ ((full && !good) = true → t.noticed .journal
          ∧ (s.ring.started = true → t.ring.holds s.ring.next (s.ownRecord .journal
              (BitVec.ofNat 16 (256 + s.journal.sector.val)))))
      ∧ t = { s with
          journal := t.journal
          flash := { mem := mem, op := t.flash.op, spoiled := s.flash.spoiled }
          ring := t.ring
          ports := s.latched t }

/-- A warning released before the program it found in flight has ended: that program is not retried, and
at its end the power-fail checkpoint begins, or waits for the erase of the sector ahead (R157; the
model's choice, log 25). -/
def Claims.ProgramOutlivesWarning : Prop :=
  ∀ (s : State) (left : Option (List Byte)) (r : JournalRecord),
    s.flash.op = .program s.journal.sector s.journal.slot r →
    s.journal.state = .normal → s.journal.retired = 0 → s.journal.taken = false →
    s.journal.stage = .waiting → s.journal.reErase = none → s.journal.owedErase = none →
    s.journal.retry = none →
    ∃ t, exec (.programEnd left) s = .next t ∧ t.journal.stage = .none ∧ t.journal.retry = none
      ∧ (s.journal.slot ≠ 7 → ∃ p : JournalRecord,
          t.flash.op = .program s.journal.sector (s.journal.slot + 1) p
          ∧ p.Captures s (s.journal.pending ||| 32#6)
          ∧ t.journal.pending = 0 ∧ t.journal.nextSeq = s.journal.nextSeq + 1)
      ∧ (s.journal.slot = 7 → t.flash.op = .erase (s.journal.sector + 2)
          ∧ t.journal.pending = s.journal.pending ||| 32#6
          ∧ t.journal.nextSeq = s.journal.nextSeq)

/-- A journal program is verified and the rotation moves on, or the record is programmed again;
under the warning the power-fail checkpoint follows it. -/
def Obligations.ProgramEndVerifiesOrRetries : Prop :=
  Claims.ProgramIsVerifiedOrRetried
    ∧ Claims.FirstVerifiedCheckpointEndsEmpty
    ∧ Claims.ProgramEndsUnderWarning
    ∧ Claims.ProgramOutlivesWarning

/-- ERASE_END outside recovery: a sector that reads blank frees the flash; one that does not is counted,
retired with JOURNAL, the rotation leaves it when it was the current one, and the sector after the
current one is erased (R147, R154, R155). Stated for a NORMAL journal that stays NORMAL, with no other
work waiting. -/
def Claims.ErasedSectorIsVerifiedOrRetired : Prop :=
  ∀ (s : State) (left : List Byte) (sector : Fin 32),
    s.flash.op = .erase sector → s.phase = .running → s.journal.state = .normal →
    s.journal.retired = 0 → s.journal.taken = false → s.journal.reErase = none →
    s.journal.owedErase = none → s.journal.retry = none → s.settings.save = none →
    let mem := s.flash.mem.replace (sector.val * 4096) 4096 left
    let current := if s.journal.sector = sector then sector + 1 else s.journal.sector
    ∃ t, exec (.eraseEnd left) s = .next t ∧ t.flash.mem = mem
      ∧ (mem.blank (sector.val * 4096) 4096 = true →
          t = { s with flash := { s.flash with mem := mem, op := .none } })
      ∧ (mem.blank (sector.val * 4096) 4096 = false →
          t.journal = { s.journal with
            eraseFailures := min 65535 (s.journal.eraseFailures + 1)
            retired := 1#32 <<< sector.val
            sector := current
            slot := if s.journal.sector = sector then 0 else s.journal.slot
            retireOnLeave := if s.journal.sector = sector then false else s.journal.retireOnLeave }
          ∧ t.flash.op = .erase (if current + 1 = sector then current + 2 else current + 1)
          ∧ t.noticed .journal
          ∧ (s.ring.started = true → t.ring.holds s.ring.next
              (s.ownRecord .journal (BitVec.ofNat 16 (256 + sector.val))))
          ∧ t = { s with
              journal := t.journal, flash := t.flash, ring := t.ring, ports := s.latched t })

/-- The retirement that leaves three usable sectors makes the journal FAILED, by a failed erase or by a
failed program in the last slot of a sector: the pending checkpoint is cleared, the one in progress is
abandoned with the newest record kept, no erase begins, and JOURNAL follows the retirement's own record
(R153, R154, R155; how PROGRAM_END names a failed program is the model's choice, log 52). -/
def Claims.LastRetirementFailsJournal : Prop :=
  let entered (s t : State) (sector : Fin 32) : Prop :=
    t.journal.state = .failed ∧ t.journal.pending = 0 ∧ t.journal.retry = none
      ∧ t.journal.newest = s.journal.newest ∧ t.journal.nextSeq = s.journal.nextSeq
      ∧ t.journal.retired = s.journal.retired ||| 1#32 <<< sector.val
      ∧ t.flash.op = .none ∧ t.noticed .journal
      ∧ (s.ring.started = true →
          t.ring.holds s.ring.next (s.ownRecord .journal (BitVec.ofNat 16 (256 + sector.val)))
          ∧ t.ring.holds (s.ring.next + 1) (s.ownRecord .journal 2))
      ∧ t = { s with
          journal := t.journal, flash := t.flash, ring := t.ring, ports := s.latched t }
  ∀ (s : State) (sector : Fin 32), s.phase = .running → s.journal.state ≠ .failed →
    ((List.range 32).countP fun i => s.journal.retired.getLsbD i) = 28 →
    s.journal.retired.getLsbD sector.val = false → s.journal.taken = false →
    s.settings.save = none →
    (∀ left : List Byte, s.flash.op = .erase sector →
      (s.flash.mem.replace (sector.val * 4096) 4096 left).blank (sector.val * 4096) 4096 = false →
      ∃ t, exec (.eraseEnd left) s = .next t ∧ entered s t sector
        ∧ t.journal.eraseFailures = min 65535 (s.journal.eraseFailures + 1))
    ∧ ∀ (left : Option (List Byte)) (r : JournalRecord), s.flash.op = .program sector 7 r →
      s.journal.sector = sector → s.journal.slot = 7 → s.journal.stage ≠ .waiting →
      let address := sector.val * 4096 + 3584
      let mem := match left with
        | none => s.flash.mem.program address r.bytes
        | some bytes => s.flash.mem.replace address 512 bytes
      ¬ (left = none ∧ mem.slice address 512 = r.bytes) →
      ∃ t, exec (.programEnd left) s = .next t ∧ entered s t sector
        ∧ t.journal.programFailures = min 65535 (s.journal.programFailures + 1)

/-- A retired sector is not erased (R147): neither a failed program in the last slot of a sector nor a
failed erase leaves a mark that calls for the erase of the sector it retires, or begins that erase (R154),
whatever marks were held, while another sector is usable (how PROGRAM_END names a failed program, log 52). -/
def Claims.RetiredSectorIsNotErased : Prop :=
  let spared (t : State) (sector : Fin 32) : Prop :=
    t.journal.retired.getLsbD sector.val = true ∧ t.journal.reErase ≠ some sector
      ∧ t.journal.owedErase ≠ some sector ∧ t.flash.op ≠ .erase sector
  ∀ (s : State) (sector usable : Fin 32), usable ≠ sector →
    s.journal.retired.getLsbD usable.val = false →
    (∀ left : List Byte, s.flash.op = .erase sector →
      (s.flash.mem.replace (sector.val * 4096) 4096 left).blank (sector.val * 4096) 4096 = false →
      ∃ t, exec (.eraseEnd left) s = .next t ∧ spared t sector)
    ∧ ∀ (left : Option (List Byte)) (r : JournalRecord), s.flash.op = .program sector 7 r →
      s.journal.sector = sector → s.journal.slot = 7 →
      let address := sector.val * 4096 + 3584
      let mem := match left with
        | none => s.flash.mem.program address r.bytes
        | some bytes => s.flash.mem.replace address 512 bytes
      ¬ (left = none ∧ mem.slice address 512 = r.bytes) →
      ∃ t, exec (.programEnd left) s = .next t ∧ spared t sector

/-- ERASE_END in recovery: a blank sector lets recovery go on, a sector that is not blank is retired
with a JOURNAL record that waits for START, and the rotation moves on from it (R110, R154, R160). -/
def Claims.RecoveryEraseGoesOnOrRetires : Prop :=
  ∀ (s : State) (left : List Byte) (sector : Fin 32),
    s.flash.op = .erase sector → s.phase = .recovering → s.journal.retired = 0 →
    s.journal.sector = sector → s.journal.slot = 0 → s.journal.reErase = none →
    s.journal.taken = false → s.ring.started = false →
    let mem := s.flash.mem.replace (sector.val * 4096) 4096 left
    ∃ t, exec (.eraseEnd left) s = .next t ∧ t.flash.mem = mem ∧ t.phase = .recovering
      ∧ (mem.blank (sector.val * 4096) 4096 = true →
          t.flash.op
            = (if mem.blank ((sector + 1).val * 4096) 4096 then .none else .erase (sector + 1))
          ∧ t.journal.sector = sector ∧ t.journal.retired = 0)
      ∧ (mem.blank (sector.val * 4096) 4096 = false →
          t.journal.sector = sector + 1 ∧ t.journal.slot = 0
          ∧ t.journal.retired = 1#32 <<< sector.val
          ∧ t.ring.deferred
              = s.ring.deferred ++ [s.ownRecord .journal (BitVec.ofNat 16 (256 + sector.val))]
          ∧ t.noticed .journal)

/-- A journal erase is verified, or its sector is retired, never to be erased again, and the next
one erased; the last retirement fails the journal. -/
def Obligations.EraseEndVerifiesOrRetires : Prop :=
  Claims.ErasedSectorIsVerifiedOrRetired
    ∧ Claims.LastRetirementFailsJournal
    ∧ Claims.RetiredSectorIsNotErased
    ∧ Claims.RecoveryEraseGoesOnOrRetires

/-- POWER_FAIL_WARNING: with the flash free the power-fail checkpoint begins at once in the current slot
with POWER_FAIL among its causes; an erase in flight is abandoned and marked first, and only its 4096
bytes change, to free values (log 8); its mark takes the place of an older one by the model's choice
(log 42). A program in flight is waited for. A record that waits for its retry is dropped (the model's
choice, log 25). In FAILED, and once TAKEN, nothing but the pin moves (R157,
R158). -/
def Claims.WarningBeginsPowerFailCheckpoint : Prop :=
  (∀ s : State, s.phase = .running → s.journal.taken = false → s.journal.state ≠ .failed →
    (∀ v, s.settings.save ≠ some ⟨.waitProgram, v⟩) →
    let j : Journal := { s.journal with warning := true, taken := true, retry := none }
    (∀ a b r, s.flash.op = .program a b r →
      exec .powerFailWarning s = .next { s with journal := { j with stage := .waiting } })
    ∧ (s.flash.op = .none →
      ∃ r : JournalRecord, r.Captures s (s.journal.pending ||| 32#6)
        ∧ exec .powerFailWarning s = .next { s with
            journal := { j.captured s.tb.runClock with stage := .firstTry }
            flash := { s.flash with op := .program s.journal.sector s.journal.slot r } })
    ∧ ∀ sector, s.flash.op = .erase sector →
      ∃ (t : State) (r : JournalRecord), exec .powerFailWarning s = .next t
        ∧ r.Captures s (s.journal.pending ||| 32#6)
        ∧ t = { s with
            journal := { j.captured s.tb.runClock with stage := .firstTry, reErase := some sector }
            flash := { s.flash with
              mem := t.flash.mem, op := .program s.journal.sector s.journal.slot r }
            freeCount := s.freeCount + 1 }
        ∧ (s.flash.sound → s.flash.mem.SameOutside sector.val t.flash.mem))
  ∧ ∀ s : State, s.phase = .running → s.journal.state = .failed ∨ s.journal.taken = true →
    exec .powerFailWarning s = .next { s with journal := { s.journal with warning := true } }

/-- The warning abandons a save whose erase or program it stops, or which waits between the two: the
outcome is ABANDONED and answered so, the stored copy is BAD with SETTINGS, and outside sector 32 the
array stays as it was (R157, R201; that the copy is not judged by its bytes, log 29). -/
def Claims.WarningAbandonsSave : Prop :=
  ∀ (s : State) (save : Save), s.phase = .running → s.journal.taken = false →
    s.journal.state ≠ .failed → s.settings.save = some save →
    s.flash.op = .settingsErase ∨ s.flash.op = .settingsProgram
      ∨ (s.flash.op = .none ∧ save.stage = .waitProgram) →
    ∃ (t : State) (r : JournalRecord), exec .powerFailWarning s = .next t
      ∧ t.settings = { s.settings with save := none, outcome := some .abandoned, valid := false }
      ∧ t.noticed .settings
      ∧ SaveAnswered 3 s t
      ∧ t.flash = ⟨t.flash.mem, .program s.journal.sector s.journal.slot r, true⟩
      ∧ r.Captures s (s.journal.pending ||| 32#6)
      ∧ (s.flash.sound → s.flash.mem.SameOutside 32 t.flash.mem)
      ∧ t.journal = { s.journal.captured s.tb.runClock with
          warning := true, taken := true, retry := none, stage := .firstTry }
      ∧ t = { s with
          settings := t.settings, ports := t.ports, flash := t.flash, journal := t.journal
          freeCount := t.freeCount }

/-- POWER_FAIL_RELEASE: the power-fail state becomes CLEAR; an owed erase begins before a re-erase mark
is served, and the pending checkpoint waits for both (R156, R158). A program in flight goes on, with the
power-fail checkpoint still to follow when that was waiting for it (the model's choice, log 25). -/
def Claims.ReleaseServesOwedEraseFirst : Prop :=
  ∀ s : State, s.phase = .running → s.journal.state ≠ .failed →
    let j : Journal := { s.journal with warning := false, taken := false }
    (s.journal.taken = false → exec .powerFailRelease s = .next { s with journal := { s.journal with
      warning := false } })
    ∧ (s.journal.taken = true → s.journal.retry = none → s.flash.op = .none →
      (∀ x, s.journal.owedErase = some x →
        exec .powerFailRelease s = .next { s with
          journal := { j with
            stage := .none, owedErase := none
            reErase := if s.journal.reErase = some x then none else s.journal.reErase }
          flash := { s.flash with op := .erase x } })
      ∧ (∀ x, s.journal.owedErase = none → s.journal.reErase = some x →
        exec .powerFailRelease s = .next { s with
          journal := { j with stage := .none, reErase := none }
          flash := { s.flash with op := .erase x } })
      ∧ (s.journal.owedErase = none → s.journal.reErase = none → s.settings.save = none →
        exec .powerFailRelease s = .next { s with journal := { j with stage := .none } }))
    ∧ (∀ a b r, s.journal.taken = true → s.flash.op = .program a b r →
      exec .powerFailRelease s = .next { s with
        journal := { j with stage := if s.journal.stage = .waiting then .waiting else .none } })

/-- The power-fail warning stops erases and saves and begins a checkpoint; its release serves what
is owed. -/
def Obligations.PowerFailTakesCheckpointAndClears : Prop :=
  Claims.WarningBeginsPowerFailCheckpoint
    ∧ Claims.WarningAbandonsSave
    ∧ Claims.ReleaseServesOwedEraseFirst

/-- A journal record is read back from its bytes as it was written, whatever values in the ranges of its
fields it holds, and its bytes pass the check (R148, R209). -/
def Obligations.JournalRecordReadsBackAsWritten : Prop :=
  ∀ r : JournalRecord,
    r.cls < 256 → -2147483648 ≤ r.integral → r.integral < 2147483648 →
    (∀ u, let x := r.units.get u
      (∀ m, x.tallies.get m < 2 ^ 48) ∧ x.starts < 2 ^ 24 ∧ x.trips < 2 ^ 24
        ∧ x.closings < 2 ^ 24 ∧ ∀ y, x.lastTrip = some y → y.cls < 256) →
    r.bytes.length = 512 ∧ recordSound Config.journalMarker r.bytes = true
      ∧ journalRecordOf r.bytes = r

/-- The flash array keeps its canonical form through every step, so that equal arrays are equal data
(09, 9.1; the form is the model's). -/
def Obligations.FlashStaysCanonical : Prop :=
  ∀ s t : State, s.flash.sound → step s = .next t → t.flash.sound

/-- What the Timebase holds stays in its ranges through every step (R2, R3, R12, R19, R20). -/
def Obligations.TimebaseStaysInRange : Prop :=
  ∀ s t : State, s.tb.sound → step s = .next t → t.tb.sound

/-- The forms that every step keeps hold at reset. -/
def Claims.FormsHoldAtReset : Prop :=
  State.reset.ring.sound ∧ State.reset.flash.sound ∧ State.reset.tb.sound
    ∧ State.reset.portsSound ∧ State.reset.summariesSound

/-- State.reset holds the power-on values the manual gives, and the forms every step keeps. -/
def Obligations.ResetHoldsPowerOnValues : Prop :=
  Claims.PowerOnValuesHoldAtReset
    ∧ Claims.FormsHoldAtReset

/-! ### Shift handover (10) -/

/-- The first configured instant strictly after a second, for rising instants of the day and a second
that is not within two days of the wrap (R165): it is an instant, it lies after the second, and no
instant lies between. -/
def Obligations.NextInstantIsTheFirstAfter : Prop :=
  ∀ (instants : List Nat) (x : Second),
    instants ≠ [] → instants.Pairwise (· < ·) → (∀ m ∈ instants, m < 1440) →
    x.toNat + 172800 < 2 ^ 32 →
    let next := (firstInstantAfter instants x).toNat
    x.toNat < next ∧ (∃ m ∈ instants, next % 86400 = 60 * m)
      ∧ ∀ y, x.toNat < y → y < next → ¬ ∃ m ∈ instants, y % 86400 = 60 * m

/-- A second boundary evaluates the schedule, after U has grown in HOLDOVER: with the class at 7 nothing
falls due; in ON_SHIFT and in OFFERED without a due start the handover falls due when S has reached next
due, once, with HANDOVER and the DUE notice; after that a configured instant that passes counts as missed
(R20, R166, R167, R169, R178), with HANDOVER dated by the cycle's reading (R4). That U grows first, so that
HANDOVER stands newest in the ring, and that the reading's class counts that growth are the model's choice
(logs 17, 45). -/
def Claims.BoundaryMakesHandoverDue : Prop :=
  ∀ s : State, s.due.second = true →
    ∃ t, exec .secondBoundary s = .next t
      ∧ (s.shift.seeing s.cls t.cls false).Evaluated s.ring.started s.reading t

/-- GRACE_END and OFFER_LAPSE: the overdue flag sets at the end of the grace, and an offer lapses after
600 s back to DUE or ON_SHIFT, each with its HANDOVER record; neither happens before (R168, R172; log 5).
A written grace counts from the next cycle on (log 37). -/
def Claims.GraceEndsAndOffersLapse : Prop :=
  (∀ (s : State) (due : Nat), s.shift.dueStart = some due → s.shift.overdueSince = none →
    let grace := s.settings.atCycle.grace * 60 * 1000000000
    (due + grace ≤ s.tb.runClock → s.ring.started = true →
      ∃ t, exec .graceEnd s = .next t
        ∧ t = { s with
            shift := { s.shift with overdueSince := some s.tb.runClock }
            ring := t.ring
            ports := s.latched t }
        ∧ t.noticed .overdue
        ∧ t.ring.holds s.ring.next (s.ownRecord .handover
            (BitVec.ofNat 16 (5 * 256 + s.shift.identity.crew.toNat))))
    ∧ (s.tb.runClock < due + grace → exec .graceEnd s = .next s))
  ∧ ∀ (s : State) (o : Offer), s.shift.offer = some o →
    (o.start + 600000000000 ≤ s.tb.runClock → s.ring.started = true →
      ∃ t, exec .offerLapse s = .next t
        ∧ t = { s with
            shift := { s.shift with
              offer := none
              state := if s.shift.dueStart.isSome then .due else .onShift }
            ring := t.ring
            ports := s.latched t }
        ∧ t.ring.holds s.ring.next (s.ownRecord .handover
            (BitVec.ofNat 16 (4 * 256 + o.crewOut.toNat))))
    ∧ (s.tb.runClock < o.start + 600000000000 → exec .offerLapse s = .next s)

/-- A handover falls due, instants are missed, the grace ends and offers lapse. -/
def Obligations.HandoverFallsDueOverdueAndLapses : Prop :=
  Claims.BoundaryMakesHandoverDue
    ∧ Claims.GraceEndsAndOffersLapse

/-- HAND OVER and WITHDRAW: an offer is made from DUE, or within the early margin while the class is
not 7, by the crew on duty; taken ahead of the second boundary of its cycle it is judged ahead of it. It
can be withdrawn while it stands; every other case is refused (R171, R173). -/
def Claims.HandOverOffersAndWithdrawRemoves : Prop :=
  (∀ (s : State) (q : Port) (crew : Byte), (s.port q).waits (.handOver crew) = true →
    let second := if s.due.second then s.tb.second - 1 else s.tb.second
    let ahead := (s.shift.identity.nextDue - second).toNat
    let allowed : Prop := s.shift.state = .due ∨ (s.shift.state = .onShift ∧ s.cls ≠ 7
      ∧ 1 ≤ ahead ∧ ahead ≤ 60 * s.settings.working.earlyMargin)
    ∃ t, exec (.handOver q crew) s = .next t
      ∧ (crew = 0 → AnsweredIn q (.handOver crew) .badValue [] s t)
      ∧ (crew ≠ 0 → ¬ allowed → AnsweredIn q (.handOver crew) .wrongState [] s t)
      ∧ (crew ≠ 0 → allowed → crew ≠ s.shift.identity.crew →
          AnsweredIn q (.handOver crew) .wrongCrew [] s t)
      ∧ (crew ≠ 0 → allowed → crew = s.shift.identity.crew → s.ring.started = true →
          AnsweredAndNoticed q (.handOver crew) .ok [] s t
          ∧ t = { s with
              shift := { s.shift with offer := some ⟨crew, s.tb.runClock⟩, state := .offered }
              ring := t.ring
              ports := t.ports }
          ∧ t.ring.holds s.ring.next
              (s.ownRecord .handover (BitVec.ofNat 16 (2 * 256 + crew.toNat)))))
  ∧ ∀ (s : State) (q : Port), (s.port q).waits .withdraw = true →
    ∃ t, exec (.withdraw q) s = .next t
      ∧ (s.shift.state ≠ .offered → AnsweredIn q .withdraw .wrongState [] s t)
      ∧ (∀ o, s.shift.state = .offered → s.shift.offer = some o → s.ring.started = true →
          AnsweredAndNoticed q .withdraw .ok [] s t
          ∧ t = { s with
              shift := { s.shift with
                offer := none
                state := if s.shift.dueStart.isSome then .due else .onShift }
              ring := t.ring
              ports := t.ports }
          ∧ t.ring.holds s.ring.next
              (s.ownRecord .handover (BitVec.ofNat 16 (3 * 256 + o.crewOut.toNat))))

/-- TAKE SHIFT (R170): accepted while no crew is on duty, the summary staying open under the crew
named; refused otherwise. The present S is S as it stands, ahead of the second boundary its cycle still owes
too, by the model's choice (log 48). Of a next due and an S exactly 2^31 s apart, S counts as the later one
by the model's choice (log 56). -/
def Claims.TakeShiftNamesTheCrew : Prop :=
  ∀ (s : State) (q : Port) (crew : Byte), (s.port q).waits (.takeShift crew) = true →
    let due := s.shift.identity.nextDue
    let later := if (due - s.tb.second).toNat ≤ 2147483647 then due else s.tb.second
    ∃ t, exec (.takeShift q crew) s = .next t
      ∧ (crew = 0 → AnsweredIn q (.takeShift crew) .badValue [] s t)
      ∧ (crew ≠ 0 → s.shift.identity.crew ≠ 0 → AnsweredIn q (.takeShift crew) .wrongState [] s t)
      ∧ (crew ≠ 0 → s.shift.identity.crew = 0 → s.shift.state ≠ .offered →
          s.ring.started = true →
          AnsweredAndNoticed q (.takeShift crew) .ok [] s t
          ∧ t.shift = { s.shift with
              state := .onShift
              dueStart := none
              overdueSince := none
              missedWatch := none
              identity := { s.shift.identity with
                crew := crew
                start := s.tb.second
                nextDue := firstInstantAfter s.settings.working.instants later }
              running := s.shift.running.map fun m => { m with
                crewOut := crew
                overdue := m.overdue + match s.shift.overdueSince with
                  | some x => s.tb.runClock - x
                  | none => 0 } }
          ∧ t.ring.holds s.ring.next
              (s.ownRecord .handover (BitVec.ofNat 16 (7 * 256 + crew.toNat)))
          ∧ t = { s with shift := t.shift, ring := t.ring, ports := t.ports })

/-- TAKE SHIFT, HAND OVER and WITHDRAW are accepted or refused by state and crew. -/
def Obligations.CrewsTakeOfferAndWithdraw : Prop :=
  Claims.TakeShiftNamesTheCrew
    ∧ Claims.HandOverOffersAndWithdrawRemoves

/-- ACCEPT cuts the shift: the summary is closed into the log with the overdue time so far, the identity
moves on, a new summary opens with every count at 0, and HANDOVER CUT and a checkpoint request follow;
every other case is refused (R168, R174, R175, R176, R179). The present S is S as it stands, ahead of the
second boundary its cycle still owes too, by the model's choice (log 48). Of a next due and an S exactly
2^31 s apart, S counts as the later one by the model's choice (log 56). -/
def Obligations.AcceptCutsTheShift : Prop :=
  ∀ (s : State) (q : Port) (crew : Byte), (s.port q).waits (.accept crew) = true →
    let due := s.shift.identity.nextDue
    let later := if (due - s.tb.second).toNat ≤ 2147483647 then due else s.tb.second
    ∃ t, exec (.accept q crew) s = .next t
      ∧ (crew = 0 → AnsweredIn q (.accept crew) .badValue [] s t)
      ∧ (crew ≠ 0 → s.shift.state ≠ .offered → AnsweredIn q (.accept crew) .wrongState [] s t)
      ∧ ∀ o, crew ≠ 0 → s.shift.state = .offered → s.shift.offer = some o →
          (crew = o.crewOut → AnsweredIn q (.accept crew) .wrongCrew [] s t)
          ∧ ∀ m, crew ≠ o.crewOut → s.shift.running = some m → s.ring.started = true →
              AnsweredAndNoticed q (.accept crew) .ok [] s t
              ∧ (∃ (slots : List SlotId) (closed opened : Summary),
                  closed = { m with
                    crewIn := crew, dueSecond := some due, cutSecond := some s.tb.second
                    lastSeq := some (s.ring.next - 1)
                    overdue := m.overdue + match s.shift.overdueSince with
                      | some x => s.tb.runClock - x
                      | none => 0
                    closedFiles := some slots, journalAtCut := some s.journal.state }
                  ∧ slots.Pairwise (· < ·)
                  ∧ (∀ i, i ∈ slots ↔ ∃ f, s.file i = some f ∧ f.state = .closed)
                  ∧ opened = {
                    number := s.shift.identity.number + 1, crewOut := crew, crewIn := 0
                    start := s.tb.second, dueSecond := none, cutSecond := none, elapsed := 0
                    units := opened.units, firstSeq := s.ring.next, lastSeq := none
                    worstClass := s.cls, timeSteps := 0, missed := 0, overdue := 0
                    closedFiles := none, journalAtCut := none, isPartial := false }
                  ∧ (∀ u, opened.units.get u
                      = ⟨⟨0, 0, 0, 0, 0⟩, 0, 0, 0, (s.shift.units.get u).inTest⟩)
                  ∧ t.shift = { s.shift with
                    identity := ⟨s.shift.identity.number + 1, crew, s.tb.second,
                      firstInstantAfter s.settings.working.instants later⟩
                    state := .onShift, offer := none
                    dueStart := none, overdueSince := none, missedWatch := none
                    log := (if s.shift.log.length < 12 then s.shift.log else s.shift.log.drop 1)
                      ++ [closed]
                    running := some opened })
              ∧ t.ring.holds s.ring.next
                  (s.ownRecord .handover (BitVec.ofNat 16 (6 * 256 + crew.toNat)))
              ∧ (s.journal.state ≠ .failed →
                  t.journal = { s.journal with pending := s.journal.pending ||| 8#6 })
              ∧ t = { s with
                  shift := t.shift, journal := t.journal, ring := t.ring, ports := t.ports }

/-! ### Service ports (11) -/

/-- Every request of its port's role, sent as a whole frame with its values, is handed on with exactly
those values: FRAME_END of the frame puts it into an EMPTY slot, BUILDING, and a RESTART is then taken at
the same instant, with what the command RESTART makes of it there (R183, R184, R187, R190, R195, R204).
Slot B is taken when slot A has just been sent and B is EMPTY (the model's choice, log 44); a
WRITE SETTINGS of an unknown item is handed on at any length (log 23). -/
def Obligations.WholeFrameHandsItsRequestOn : Prop :=
  ∀ (s : State) (q : Port) (r : Request),
    s.phase = .running → wellSized r = true → inRole q r.code = true → r ≠ .clearPort →
    (s.port q).inFrame = true → (s.port q).busy = false → (s.port q).waits .nop = false →
    let x := s.port q
    let a := x.slotA.dropSending
    let b := x.slotB.dropSending
    let handed : State := s.setPort q
      (if a = .empty ∧ ¬ (x.slotA.isSending = true ∧ b = .empty) then
        { x with inFrame := false, slotA := .building ⟨r, false, none⟩, slotB := b }
      else { x with inFrame := false, slotA := a, slotB := .building ⟨r, false, none⟩ })
    (r ≠ .restart → exec (.frameEnd q r.frame) s = .next handed)
      ∧ (r = .restart → exec (.frameEnd q r.frame) s = exec (.restart q) handed)

/-- FRAME_END with a request that the Port Controller does not hand on: the first case of the table that
applies refuses or drops it, the refusal stands FINISHED with the frame's code, and the refusal count
rises; no block hears of it (R183, R184, R187, R190, R204). The slot is the model's choice (log 44); a WRITE
SETTINGS of an unknown item has no wrong length (log 23). -/
def Claims.FrameWithBytesIsRefused : Prop :=
  ∀ (s : State) (q : Port) (code : Byte) (rest : List Byte),
    s.phase ≠ .off → (s.port q).inFrame = true → (s.port q).waits .nop = false →
    let bytes := code :: rest
    let x := s.port q
    let a := x.slotA.dropSending
    let b := x.slotB.dropSending
    let len := (rest.getD 0 0).toNat
    let whole := len + 3 ≤ bytes.length
    let sum := ((bytes.take (len + 3)).map BitVec.toNat).sum % 256
    let count := min 65535 (x.refusals + 1)
    let refused (result : Result) : State := s.setPort q
      (if a = .empty ∧ ¬ (x.slotA.isSending = true ∧ b = .empty) then
        { x with
          inFrame := false, refusals := count, finishCount := x.finishCount + 1
          slotA := .finished ⟨code, result, []⟩ x.finishCount, slotB := b }
      else
        { x with
          inFrame := false, refusals := count, finishCount := x.finishCount + 1
          slotA := a, slotB := .finished ⟨code, result, []⟩ x.finishCount })
    let clear : Prop := code = 0x03 ∧ len = 0 ∧ whole ∧ sum = 0
    (s.phase ≠ .running → exec (.frameEnd q bytes) s = .next (refused .starting))
    ∧ (s.phase = .running → ¬ clear → x.busy = true →
        exec (.frameEnd q bytes) s = .next (s.setPort q
          { x with
            inFrame := false, refusals := count, dropped := true, slotA := a, slotB := b }))
    ∧ (s.phase = .running → ¬ clear → x.busy = false →
        (60 < len ∨ ¬ whole → exec (.frameEnd q bytes) s = .next (refused .badLength))
        ∧ (len ≤ 60 → whole → sum ≠ 0 → exec (.frameEnd q bytes) s = .next (refused .badCheck))
        ∧ (len ≤ 60 → whole → sum = 0 → (∀ r : Request, r.code ≠ code) →
            exec (.frameEnd q bytes) s = .next (refused .unknown))
        ∧ (len ≤ 60 → whole → sum = 0 → (∃ r : Request, r.code = code) → inRole q code = false →
            exec (.frameEnd q bytes) s = .next (refused .notPermitted))
        ∧ (len ≤ 60 → whole → sum = 0 → (∃ r : Request, r.code = code) → inRole q code = true →
            (∀ r : Request, r.code = code → wellSized r = true →
              r.body ≠ (rest.drop 1).take len) →
            exec (.frameEnd q bytes) s = .next (refused .badLength)))

/-- FRAME_END without a byte: with a frame begun it is a complete frame of 0 bytes, whose SENDING slot is
emptied and which is refused with STARTING, dropped, or refused with BAD_LENGTH; the code echoed is a free value
(log 47), since the frame holds none. With no frame begun FRAME was released without an SCLK edge and nothing
changes (R183, R186, R187). The slot is the model's choice (log 44). -/
def Claims.FrameWithoutBytesIsJudged : Prop :=
  (∀ (s : State) (q : Port), (s.port q).inFrame = false → exec (.frameEnd q []) s = .next s)
  ∧ ∀ (s : State) (q : Port),
    s.phase ≠ .off → (s.port q).inFrame = true → (s.port q).waits .nop = false →
    let x := s.port q
    let a := x.slotA.dropSending
    let b := x.slotB.dropSending
    let code := Config.absentCode s.freeCount
    let count := min 65535 (x.refusals + 1)
    let ended (y : PortState) : State := { s.setPort q y with freeCount := s.freeCount + 1 }
    let refused (result : Result) : State := ended
      (if a = .empty ∧ ¬ (x.slotA.isSending = true ∧ b = .empty) then
        { x with
          inFrame := false, refusals := count, finishCount := x.finishCount + 1
          slotA := .finished ⟨code, result, []⟩ x.finishCount, slotB := b }
      else
        { x with
          inFrame := false, refusals := count, finishCount := x.finishCount + 1
          slotA := a, slotB := .finished ⟨code, result, []⟩ x.finishCount })
    (s.phase ≠ .running → exec (.frameEnd q []) s = .next (refused .starting))
      ∧ (s.phase = .running → x.busy = true → exec (.frameEnd q []) s
          = .next (ended { x with
              inFrame := false, refusals := count, dropped := true, slotA := a, slotB := b }))
      ∧ (s.phase = .running → x.busy = false →
          exec (.frameEnd q []) s = .next (refused .badLength))

/-- A frame is refused or dropped by the first case that applies, and no block hears of it. -/
def Obligations.FrameIsRefusedByFirstCase : Prop :=
  Claims.FrameWithBytesIsRefused
    ∧ Claims.FrameWithoutBytesIsJudged

/-- FRAME_BEGIN fixes the status byte, binds the slot that finished first and clears the marks it shows;
FRAME_ABORT loses the bound response, sets the aborted mark and counts a refusal; RESPONSE_FINISHED
makes the answered slot FINISHED, be it slot A or slot B, or discards the first answered orphan (R185,
R186, R188, R189), and changes nothing where nothing is answered (log 5). -/
def Claims.FramesBeginAbortAndCollect : Prop :=
  (∀ (s : State) (q : Port), s.phase ≠ .off → (s.port q).inFrame = false →
    (s.port q).waits .nop = false →
    let x := s.port q
    ∃ t, exec (.frameBegin q) s = .next t
      ∧ ((t.port q).status.getLsbD 7 = x.busy)
      ∧ ((t.port q).status.getLsbD 6 = (x.slotA.isFinished || x.slotB.isFinished))
      ∧ ((t.port q).status.getLsbD 5 = x.dropped)
      ∧ ((t.port q).status.getLsbD 4 = true ↔ x.latches ≠ 0)
      ∧ ((t.port q).status.getLsbD 3 = true ↔ s.phase ≠ .running)
      ∧ ((t.port q).status.getLsbD 2 = x.restarted)
      ∧ ((t.port q).status.getLsbD 1 = x.aborted)
      ∧ t.port q = { x with
          status := (t.port q).status, inFrame := true
          dropped := false, aborted := false, restarted := false
          slotA := (t.port q).slotA, slotB := (t.port q).slotB }
      ∧ (∀ r n r' n', x.slotA = .finished r n → x.slotB = .finished r' n' → n < n' →
          (t.port q).slotA = .sending r ∧ (t.port q).slotB = x.slotB)
      ∧ (∀ r n r' n', x.slotA = .finished r n → x.slotB = .finished r' n' → n' < n →
          (t.port q).slotA = x.slotA ∧ (t.port q).slotB = .sending r')
      ∧ (∀ r n, x.slotA = .finished r n → x.slotB.isFinished = false →
          (t.port q).slotA = .sending r ∧ (t.port q).slotB = x.slotB)
      ∧ (∀ r n, x.slotA.isFinished = false → x.slotB = .finished r n →
          (t.port q).slotA = x.slotA ∧ (t.port q).slotB = .sending r)
      ∧ (x.slotA.isFinished = false → x.slotB.isFinished = false →
          (t.port q).slotA = x.slotA ∧ (t.port q).slotB = x.slotB)
      ∧ t = s.setPort q (t.port q))
  ∧ (∀ (s : State) (q : Port), s.phase ≠ .off → (s.port q).inFrame = true →
    (s.port q).waits .nop = false →
    exec (.frameAbort q) s = .next (s.setPort q { s.port q with
      inFrame := false
      slotA := (s.port q).slotA.dropSending
      slotB := (s.port q).slotB.dropSending
      aborted := true
      refusals := min 65535 ((s.port q).refusals + 1) }))
  ∧ (∀ (s : State) (q : Port) (r : Request) (x : Response),
    (s.port q).slotA = .building ⟨r, true, some x⟩ → (s.port q).slotB.isBuilding = false →
    exec (.responseFinished q false) s = .next (s.setPort q { s.port q with
      slotA := .finished x (s.port q).finishCount
      finishCount := (s.port q).finishCount + 1 }))
  ∧ (∀ (s : State) (q : Port) (r : Request) (x : Response),
    (s.port q).slotB = .building ⟨r, true, some x⟩ → (s.port q).slotA.isBuilding = false →
    exec (.responseFinished q false) s = .next (s.setPort q { s.port q with
      slotB := .finished x (s.port q).finishCount
      finishCount := (s.port q).finishCount + 1 }))
  ∧ (∀ (s : State) (q : Port),
    (∀ b ∈ (s.port q).slotA.builds ++ (s.port q).slotB.builds, b.answer = none) →
    exec (.responseFinished q false) s = .next s)
  ∧ (∀ (s : State) (q : Port) (before : List Build) (b : Build) (rest : List Build),
    (s.port q).orphans = before ++ b :: rest → (∀ a ∈ before, a.answer = none) →
    b.answer.isSome = true →
    exec (.responseFinished q true) s
      = .next (s.setPort q { s.port q with orphans := before ++ rest }))
  ∧ (∀ (s : State) (q : Port), (∀ b ∈ (s.port q).orphans, b.answer = none) →
    exec (.responseFinished q true) s = .next s)

/-- The bits of a frame: most significant bit first, DO carries the status byte, then the response bound to
the frame with its check byte, and then zeros for as long as the master clocks; DI bits in the same order spell the
request's bytes (R183, R184, R185). Edges of SCLK are no commands: a bit is named by its place in the frame
(log 33). -/
def Claims.FrameCarriesBitsInOrder : Prop :=
  (∀ p : PortState,
    let carries (place : Nat) (b : Byte) : Prop :=
      ∀ k, k < 8 → p.dataOut (8 * place + k) = b.getLsbD (7 - k)
    carries 0 p.status
    ∧ (∀ r : Response, p.slotA = .sending r ∨ (p.slotA.isSending = false ∧ p.slotB = .sending r) →
        let head := r.code :: r.result.code :: BitVec.ofNat 8 r.body.length :: r.body
        (∀ j b, head[j]? = some b → carries (1 + j) b)
        ∧ carries (1 + head.length) (BitVec.ofNat 8 (256 - (head.map BitVec.toNat).sum % 256))
        ∧ ∀ i, 8 * (head.length + 2) ≤ i → p.dataOut i = false)
    ∧ (p.slotA.isSending = false → p.slotB.isSending = false → ∀ i, 8 ≤ i → p.dataOut i = false))
  ∧ ∀ (bytes : List Byte) (bits : List Bool), bits.length = 8 * bytes.length →
    (∀ j b, bytes[j]? = some b → ∀ k, k < 8 → bits[8 * j + k]? = some (b.getLsbD (7 - k))) →
    bytesOfBits bits = bytes

/-- CLEAR PORT empties both slots, makes an orphan of a build, clears the dropped and aborted marks and
answers OK at once, even while a slot is BUILDING; its response stands in slot A by the model's choice
(log 44). NOP is answered OK and changes no state (R187, R189, R194). -/
def Claims.ClearPortAndNopAnswerOk : Prop :=
  (∀ (s : State) (q : Port), s.phase = .running → (s.port q).inFrame = true →
    (∀ b ∈ (s.port q).builds, b.request ≠ .nop ∧ b.request ≠ .clearPort) →
    let x := s.port q
    exec (.clearPort q) s = .next (s.setPort q { x with
      inFrame := false
      slotA := .finished ⟨0x03, .ok, []⟩ x.finishCount
      slotB := .empty
      finishCount := x.finishCount + 1
      orphans := x.builds
      dropped := false
      aborted := false }))
  ∧ ∀ (s : State) (q : Port), (s.port q).slotA = .building ⟨.nop, false, none⟩ →
    (s.port q).slotB.isBuilding = false → (s.port q).orphans.any (Build.waits .nop) = false →
    exec (.nop q) s = .next (s.setPort q { s.port q with
      slotA := .finished ⟨0x00, .ok, []⟩ (s.port q).finishCount
      finishCount := (s.port q).finishCount + 1 })

/-- Frames begin, carry status, response and zeros bit by bit, and abort; responses finish; CLEAR
PORT and NOP are answered. -/
def Obligations.FramesAndSlotsMoveByTheirEvents : Prop :=
  Claims.FramesBeginAbortAndCollect
    ∧ Claims.FrameCarriesBitsInOrder
    ∧ Claims.ClearPortAndNopAnswerOk

/-- The field types of the formats: most significant byte first, signed values in two's complement, a tally
with its saturated flag above the hours, an optional value behind its presence byte, a flag as 1 or 0
(R203). -/
def Claims.FieldTypesHaveTheirLayouts : Prop :=
  (∀ n v : Nat, (be n v).length = n
      ∧ ∀ i, i < n → (be n v)[i]? = some (BitVec.ofNat 8 (v / 256 ^ (n - 1 - i))))
    ∧ (∀ (n : Nat) (v : Int), -(256 ^ n : Nat) ≤ v → v < (256 ^ n : Nat) →
        beInt n v = be n (if v < 0 then v + (256 ^ n : Nat) else v).toNat)
    ∧ (∀ (x : Second) (us : Nat),
        secondBytes x = be 4 x.toNat ∧ dateBytes x us = be 4 x.toNat ++ be 3 us)
    ∧ (∀ v, byteOf v = be 1 v ∧ smallBytes v = be 2 v ∧ countBytes v = be 3 v
        ∧ leftBytes v = be 4 v ∧ clockBytes v = be 8 v)
    ∧ (∀ v, numberBytes v = beInt 4 v) ∧ flagByte true = [1] ∧ flagByte false = [0]
    ∧ (∀ ms, ms < 3600000000000 →
        tallyBytes ms false = be 3 (ms / 3600000) ++ be 3 (ms % 3600000)
        ∧ tallyBytes ms true = be 3 (8388608 + ms / 3600000) ++ be 3 (ms % 3600000))
    ∧ ∀ (n : Nat) (v : List Byte),
        optionBytes n (some v) = 1 :: v ∧ optionBytes n none = 0 :: List.replicate n 0

/-- The codes of the enumerations that answers carry (R94, R203, R208). -/
def Claims.EnumerationsHaveTheirCodes : Prop :=
  [Mode.stand, .spin, .gen, .pump, .cond].map Mode.code = [0, 1, 2, 3, 4]
    ∧ [TbState.free, .acquire, .locked, .holdover].map TbState.code = [0, 1, 2, 3]
    ∧ [RefState.absent, .listen, .check, .qualified, .unsynced].map RefState.code = [0, 1, 2, 3, 4]
    ∧ [SelectionMode.auto, .ref1, .ref2, .none].map SelectionMode.code = [0, 1, 2, 3]
    ∧ [FailCause.noMessage, .twoMessages, .badCheck, .badMessage, .discontinuous, .earlyPulse,
        .latePulse].map FailCause.code = [1, 2, 3, 4, 5, 6, 7]
    ∧ [Role.running, .pump, .condenser, .tripCause, .event, .spare, .masterTrip,
        .breaker].map Role.code = [0, 1, 2, 3, 4, 5, 6, 7]
    ∧ [FileState.opened, .closed, .acknowledged].map FileState.code = [1, 2, 3]
    ∧ [ShiftState.onShift, .due, .offered].map ShiftState.code = [0, 1, 2]
    ∧ [JournalState.normal, .degraded, .failed, .empty].map JournalState.code = [0, 1, 2, 3]
    ∧ [SaveOutcome.saved, .eraseFailed, .programFailed, .abandoned].map SaveOutcome.code
        = [0, 1, 2, 3]

/-- READ TIME gives one reading of the Timebase, IDENTIFY the identity copy and the port's letter; each
name as the 16 bytes read and the letter as one byte, by the model's choice (log 22). Neither changes any
state (R24, R194, R203). -/
def Claims.TimeAndIdentityAreRead : Prop :=
  ∀ (s : State) (q : Port),
    ((s.port q).waits .readTime = true → ∃ t, exec (.readTime q) s = .next t
      ∧ AnsweredIn q .readTime .ok
          (secondBytes s.tb.second ++ numberBytes s.tb.nanos ++ byteOf s.cls
            ++ numberBytes s.tb.uncertainty ++ byteOf s.tb.state.code ++ flagByte s.tb.unset
            ++ numberBytes s.tb.rate ++ numberBytes s.tb.integral ++ numberBytes s.tb.outliers
            ++ clockBytes s.tb.runClock ++ flagByte s.tb.alarm
            ++ optionBytes 16 (s.tb.lastStep.map fun x => clockBytes x.runClock ++ beInt 8 x.e))
          s t)
    ∧ ((s.port q).waits .identify = true → ∃ t, exec (.identify q) s = .next t
      ∧ AnsweredIn q .identify .ok
          (s.identity.vendor ++ s.identity.part ++ numberBytes s.identity.revision.toNat
            ++ be 4 s.identity.serial.toNat ++ secondBytes s.identity.date
            ++ byteOf (match q with | .g => 0x47 | .p => 0x50 | .s => 0x53)
            ++ flagByte s.identity.ok) s t)

/-- READ REFERENCES gives both references, the selection and the port's reference-lost latch, and clears
that latch alone (R43, R44, R203; the presence of a message and of a capture as one byte each, log 22). -/
def Claims.ReferencesAreRead : Prop :=
  let reference (x : Reference) : List Byte :=
    byteOf x.state.code
      ++ byteOf (match x.polarity with | none => 0 | some true => 1 | some false => 2)
      ++ numberBytes x.count
      ++ byteOf (match x.lastFailure with | none => 0 | some f => f.code)
      ++ optionBytes 1 (x.claim.map byteOf)
      ++ optionBytes 10 (x.lastMessage.map fun m =>
          secondBytes m.second ++ byteOf m.claim ++ [m.flags] ++ numberBytes m.sequence.toNat)
      ++ optionBytes 8 (x.anchor.map fun a => secondBytes a.second ++ numberBytes a.nanos)
  let code : RefId → Nat | .ref1 => 1 | .ref2 => 2
  ∀ (s : State) (q : Port), (s.port q).waits .readReferences = true →
    ∃ t, exec (.readReferences q) s = .next t
      ∧ AnsweredIn q .readReferences .ok
          (reference (s.ref .ref1) ++ reference (s.ref .ref2) ++ byteOf s.sel.mode.code
            ++ byteOf (match s.sel.selected with | none => 0 | some r => code r)
            ++ byteOf (code s.settings.working.priority) ++ flagByte s.sel.disagree
            ++ numberBytes s.sel.disagreeCount ++ numberBytes s.sel.agreeCount
            ++ numberBytes s.sel.lastDifference ++ flagByte (s.sel.lost.get q))
          { s with sel := { s.sel with lost := s.sel.lost.set q false } } t

/-- READ LINES gives the lines of a unit, or sets of 48 flags for unit 0, with the scanned lines' pin
levels at its own cycle; a unit above 6 is refused. Nothing but those levels moves (R69, R74, R203; the
presence bytes of the optional values, log 22). -/
def Claims.LinesAreRead : Prop :=
  ∀ (s : State) (q : Port) (look : LinesLook), (s.port q).waits (.readLines look.unit) = true →
    ∃ e t, exec (.readLines q look) s = .next t
      ∧ e = { s with lines := { s.lines with tab := e.lines.tab } }
      ∧ (∀ l, e.line l =
          if 2 ≤ l.val % 8 then { s.line l with raw := look.pins.getLsbD l.val } else s.line l)
      ∧ let held (x : Line) : Option Bool :=
          match x.chatter with | .chattering level _ => some level | _ => none
        let count (x : Line) : Option Nat :=
          match x.chatter with | .counting _ _ n => some n | _ => none
        let kind (x : Line) : Nat :=
          match x.chatter with | .quiet => 0 | .counting _ _ _ => 1 | .chattering _ _ => 2
        let waiting (u : UnitId) : Bool := !decide
          ((∀ k : Fin 6, (s.settings.working.plans.get u).get k
              = (e.line (lineOf u ⟨k.val + 2, by omega⟩)).role)
            ∧ ∀ k : Fin 8, (s.settings.working.polarities.get u).getLsbD k.val
              = (e.line (lineOf u k)).inverted)
        let one (l : LineId) : List Byte :=
          let x := e.line l
          numberBytes l.val ++ byteOf x.role.code ++ flagByte x.inverted ++ flagByte x.raw
            ++ flagByte x.filtered ++ flagByte x.pend.isSome
            ++ optionBytes 7 (x.pend.map fun c => dateBytes c.stamp.second c.stamp.micros)
            ++ byteOf (kind x) ++ optionBytes 4 ((count x).map fun n => numberBytes n)
            ++ optionBytes 1 ((held x).map flagByte) ++ smallBytes x.suppressed
        let set (f : Line → Bool) : List Byte :=
          be 6 ((List.finRange 48).map fun l => (f (e.line l)).toNat * 2 ^ l.val).sum
        (6 < look.unit.toNat → AnsweredIn q (.readLines look.unit) .badValue [] e t)
        ∧ (look.unit = 0 → AnsweredIn q (.readLines look.unit) .ok
            (set (fun x => x.raw) ++ set (fun x => x.filtered) ++ set (fun x => x.pend.isSome)
              ++ set (fun x => (held x).isSome) ++ set (fun x => (held x).isSome)
              ++ (List.finRange 6).flatMap (fun u => flagByte (waiting u))
              ++ numberBytes s.lines.period ++ numberBytes s.settings.working.scanPeriod) e t)
        ∧ ∀ u : UnitId, look.unit.toNat = u.val + 1 →
            AnsweredIn q (.readLines look.unit) .ok
              ((List.finRange 8).flatMap (fun k => one (lineOf u k)) ++ flagByte (waiting u)) e t

/-- READ UNIT gives a unit's levels with their marks, its modes and test, and its tallies, counts, last
trip and permit, all of one instant and changing nothing; a unit outside 1 to 6 is refused (R89, R133,
R144, R203; the order of the marks and the presence bytes, log 22). The Mode Detector's part comes first by
the model's choice (log 55). -/
def Claims.UnitIsRead : Prop :=
  ∀ (s : State) (q : Port) (unit : Byte), (s.port q).waits (.readUnit unit) = true →
    ∃ t, exec (.readUnit q unit) s = .next t
      ∧ (unit.toNat = 0 ∨ 6 < unit.toNat → AnsweredIn q (.readUnit unit) .badValue [] s t)
      ∧ ∀ u : UnitId, unit.toNat = u.val + 1 →
          let x := s.modeOf u
          let y := s.tallyOf u
          let held (r : Role) : Bool := decide (∃ k : Fin 8, (s.line (lineOf u k)).role = r
            ∧ (match (s.line (lineOf u k)).chatter with | .chattering _ _ => true | _ => false) = true)
          let absent (r : Role) : Bool := decide (∀ k : Fin 8, (s.line (lineOf u k)).role ≠ r)
          let seconds (deadline : Nat) : Nat := (deadline - s.tb.runClock + 999999999) / 1000000000
          let levels := x.levels
          AnsweredIn q (.readUnit unit) .ok
            (flagByte levels.running ++ flagByte levels.breaker ++ flagByte levels.pump
              ++ flagByte levels.condenser
              ++ flagByte (held .running) ++ flagByte (held .breaker) ++ flagByte (held .pump)
              ++ flagByte (held .condenser) ++ flagByte (absent .pump) ++ flagByte (absent .condenser)
              ++ byteOf (match x.settled with | none => 0 | some m => m.code)
              ++ optionBytes 8 (x.since.map fun d => dateBytes d.second d.micros ++ byteOf d.cls)
              ++ optionBytes 8 (x.candidate.map fun c =>
                  byteOf c.mode.code ++ dateBytes c.start.second c.start.micros)
              ++ flagByte x.test.isSome
              ++ optionBytes 11 (x.test.map fun d =>
                  dateBytes d.start.second d.start.micros ++ leftBytes (seconds d.deadline))
              ++ [Mode.stand, .spin, .gen, .pump, .cond].flatMap (fun m =>
                  tallyBytes (y.tallies.get m) (y.saturated.get m))
              ++ countBytes y.starts ++ countBytes y.trips ++ countBytes y.closings
              ++ optionBytes 7 (y.lastTrip.map fun d => secondBytes d.second ++ byteOf d.cls
                  ++ optionBytes 1 (d.firstOut.map fun l => byteOf l.val))
              ++ optionBytes 4 (y.permit.map fun grant =>
                  leftBytes (seconds (grant + 600000000000)))
              ++ flagByte s.tally.locked) s t

/-- STATUS gives the port's latches, its enable set and notice line after the clearing, the refusal count,
and the reports of the Distribution Driver and the Event Ring; it clears that port's latches and nothing
else (R48, R58, R98, R108, R193, R203, R207). The last word as its six bytes is the model's choice (log 51). -/
def Claims.StatusIsRead : Prop :=
  ∀ (s : State) (q : Port), (s.port q).waits .status = true →
    let d := s.dist
    let held := BitVec.ofNat 32 s.ring.records.length
    let oldest := s.ring.next - held
    let cursor := s.ring.cursors.get q
    ∃ t, exec (.status q) s = .next t
      ∧ AnsweredIn q .status .ok
          (be 2 (s.port q).latches.toNat ++ be 2 (s.settings.working.enables.get q).toNat
            ++ flagByte false ++ numberBytes (s.port q).refusals
            ++ flagByte d.fault ++ numberBytes d.correct ++ numberBytes d.latency
            ++ flagByte d.stepPending ++ numberBytes d.cuts
            ++ optionBytes 6 (d.word.map fun w => secondBytes w.second
                ++ byteOf (w.cls * 16 + 8 * w.invalid.toNat + 4 * w.stepped.toNat
                    + 2 * w.holdover.toNat + w.testAny.toNat) ++ [w.check])
            ++ be 4 oldest.toNat ++ be 4 s.ring.next.toNat ++ numberBytes s.ring.records.length
            ++ be 4 cursor.toNat ++ numberBytes (s.ring.next - cursor).toNat
            ++ smallBytes (s.ring.losses.get q))
          (s.setPort q { s.port q with latches := 0 }) t

/-- READ TIME, IDENTIFY, READ REFERENCES, READ LINES, READ UNIT and STATUS give their values;
latches clear on their own port alone. -/
def Obligations.ReadsAnswerAndChangeNothingElse : Prop :=
  Claims.FieldTypesHaveTheirLayouts
    ∧ Claims.EnumerationsHaveTheirCodes
    ∧ Claims.TimeAndIdentityAreRead
    ∧ Claims.ReferencesAreRead
    ∧ Claims.LinesAreRead
    ∧ Claims.UnitIsRead
    ∧ Claims.StatusIsRead

/-! ### Start-up and stored settings (12) -/

/-- WRITE SETTINGS: a body that names nothing or a value out of its range is refused and every working
setting stays; an accepted one sets the item alone, and the blocks take it: a changed P, D or width sets
the start latency to 2, the alarm flag follows the alarm class with QUALITY, a changed priority the
selection (R22, R39, R52, R200). -/
def Claims.WriteSettingsSetsOneItem : Prop :=
  ∀ (s : State) (q : Port) (item qual : Byte) (v : List Byte),
    (s.port q).waits (.writeSettings item qual v) = true →
    let old := s.settings.working
    ∃ t, exec (.writeSettings q item qual v) s = .next t
      ∧ (Settings.put old item qual v = none →
          AnsweredIn q (.writeSettings item qual v) .badValue [] s t)
      ∧ ∀ new, Settings.put old item qual v = some new →
          AnsweredAndNoticed q (.writeSettings item qual v) .ok [] s t
          ∧ t.settings = { s.settings with working := new }
          ∧ t.dist = { s.dist with
              latency :=
                if new.bitPeriodP = old.bitPeriodP ∧ new.delayD = old.delayD
                  ∧ new.strobeWidth = old.strobeWidth then s.dist.latency else 2 }
          ∧ t.tb.alarm = decide (new.alarmClass < s.cls)
          ∧ t.sel = { s.sel with
              selected :=
                if new.priority = old.priority then s.sel.selected
                else ({ s with settings := t.settings } : State).choice
              lost := t.sel.lost }
          ∧ (new.priority = old.priority →
              t.sel = s.sel ∧ t.tb = { s.tb with alarm := t.tb.alarm }
              ∧ (t.tb.alarm = s.tb.alarm → t.ring = s.ring ∧ s.latched t = s.ports)
              ∧ (t.tb.alarm ≠ s.tb.alarm → s.ring.started = true →
                t.noticed .quality ∧ t.ring.holds s.ring.next
                  (s.ownRecord .quality (BitVec.ofNat 16 (s.cls * 256 + s.cls)))))
          ∧ t = { s with
              settings := t.settings, tb := t.tb, dist := t.dist, sel := t.sel,
              ring := t.ring, ports := t.ports }

/-- The ranges and steps of the items that hold one number, as their tables give them; the qualifier of an
item kept once is ignored by the model's choice (log 23) (R23, R45, R53, R73, R88, R128, R150, R164,
R205). -/
def Claims.SettingsHaveTheirRanges : Prop :=
  ∀ (w : Settings) (qual : Byte) (n : Nat) (v : List Byte), ofBe v = n →
    let only (p : Prop) (x : Option Settings) (y : Settings) : Prop :=
      (p → x = some y) ∧ (¬ p → x = none)
    only (10 ≤ n ∧ n ≤ 100000) (Settings.put w 0x01 qual v) { w with stepThreshold := n }
    ∧ only (1 ≤ n ∧ n ≤ 10000) (Settings.put w 0x02 qual v) { w with holdoverDrift := n }
    ∧ only (1 ≤ n ∧ n ≤ 6) (Settings.put w 0x03 qual v) { w with alarmClass := n }
    ∧ only (200 ≤ n ∧ n ≤ 20000) (Settings.put w 0x04 qual v) { w with spacingTolerance := n }
    ∧ only (10 ≤ n ∧ n ≤ 10000) (Settings.put w 0x05 qual v) { w with disagreementLimit := n }
    ∧ only (n = 1 ∨ n = 2) (Settings.put w 0x06 qual v)
        { w with priority := if n = 1 then .ref1 else .ref2 }
    ∧ only (n ≤ 255) (Settings.put w 0x07 qual v) { w with bitPeriodP := n }
    ∧ only (1 ≤ n ∧ n ≤ 2) (Settings.put w 0x08 qual v) { w with delayD := n }
    ∧ only (1 ≤ n ∧ n ≤ 200) (Settings.put w 0x09 qual v) { w with strobeWidth := n }
    ∧ only (n = 250 ∨ n = 500 ∨ n = 1000) (Settings.put w 0x0C qual v) { w with scanPeriod := n }
    ∧ only (n ≤ 5000 ∧ n % 50 = 0) (Settings.put w 0x0D qual v) { w with fastDebounce := n }
    ∧ only (n ≤ 50000 ∧ n % 50 = 0) (Settings.put w 0x0E qual v) { w with scannedDebounce := n }
    ∧ only (4 ≤ n ∧ n ≤ 30) (Settings.put w 0x0F qual v) { w with chatterLimit := n }
    ∧ only (1 ≤ n ∧ n ≤ 60) (Settings.put w 0x10 qual v) { w with chatterWindow := n }
    ∧ only (n ≤ 30000) (Settings.put w 0x11 qual v) { w with settleTime := n }
    ∧ only (1 ≤ n ∧ n ≤ 24) (Settings.put w 0x12 qual v) { w with testLength := n }
    ∧ only (100 ≤ n ∧ n ≤ 5000) (Settings.put w 0x13 qual v) { w with tripWindow := n }
    ∧ only (n ≤ 100) (Settings.put w 0x14 qual v) { w with lookback := n }
    ∧ only (1 ≤ n ∧ n ≤ 60) (Settings.put w 0x15 qual v) { w with checkpointInterval := n }
    ∧ only (n ≤ 60) (Settings.put w 0x17 qual v) { w with earlyMargin := n }
    ∧ only (5 ≤ n ∧ n ≤ 180) (Settings.put w 0x18 qual v) { w with grace := n }

/-- The items that hold more than one value or are kept per unit or port: a line plan has one RUNNING and at
most one PUMP and one CONDENSER, handover instants are two to four, each 60 minutes after the one before it
and across midnight too, polarities and enable sets are flags; a unit, port or item that is none is refused
(R68, R69, R164, R192, R200, R205; an instant list's qualifier is ignored, log 23). -/
def Claims.SettingsOfManyValuesAreJudged : Prop :=
  ∀ (w : Settings) (qual : Byte),
    let only (p : Prop) (x : Option Settings) (y : Settings) : Prop :=
      (p → x = some y) ∧ (¬ p → x = none)
    (∀ (u : UnitId) (plan : LinePlan), qual.toNat = u.val + 1 →
      (∀ r ∈ plan.list, r ≠ .masterTrip ∧ r ≠ .breaker) →
      only (plan.list.count .running = 1 ∧ plan.list.count .pump ≤ 1
          ∧ plan.list.count .condenser ≤ 1)
        (Settings.put w 0x0A qual (plan.list.flatMap fun r => byteOf r.code))
        { w with plans := w.plans.set u plan })
    ∧ (∀ v : List Byte, (∃ b ∈ v, 5 < b.toNat) ∨ v.length ≠ 6 → Settings.put w 0x0A qual v = none)
    ∧ (∀ (u : UnitId) (b : Byte), qual.toNat = u.val + 1 →
        Settings.put w 0x0B qual [b] = some { w with polarities := w.polarities.set u b })
    ∧ (∀ v : List Byte, qual.toNat = 0 ∨ 6 < qual.toNat →
        Settings.put w 0x0A qual v = none ∧ Settings.put w 0x0B qual v = none)
    ∧ (∀ (count : Byte) (a b c d : Nat), a < 65536 → b < 65536 → c < 65536 → d < 65536 →
        let xs := [a, b, c, d].take count.toNat
        only (2 ≤ count.toNat ∧ count.toNat ≤ 4 ∧ (∀ m ∈ xs, m ≤ 1439)
            ∧ (∀ (i m n : Nat), xs[i]? = some m → xs[i + 1]? = some n → m + 60 ≤ n)
            ∧ ∀ m n, xs.head? = some m → xs.getLast? = some n → n + 60 ≤ m + 1440)
          (Settings.put w 0x16 qual ([count] ++ be 2 a ++ be 2 b ++ be 2 c ++ be 2 d))
          { w with instants := xs })
    ∧ (∀ n : Nat, n < 65536 →
        let flags := BitVec.ofNat 13 n
        (qual = 1 → Settings.put w 0x19 qual (be 2 n)
          = some { w with enables := { w.enables with g := flags } })
        ∧ (qual = 2 → Settings.put w 0x19 qual (be 2 n)
          = some { w with enables := { w.enables with p := flags } })
        ∧ (qual = 3 → Settings.put w 0x19 qual (be 2 n)
          = some { w with enables := { w.enables with s := flags } })
        ∧ (qual.toNat = 0 ∨ 3 < qual.toNat → Settings.put w 0x19 qual (be 2 n) = none))
    ∧ ∀ (item : Byte) (v : List Byte), item = 0 ∨ 0x19 < item.toNat →
        Settings.put w item qual v = none

/-- WRITE SETTINGS sets one item within its range and refuses the rest. -/
def Obligations.WriteSettingsSetsOneItemInRange : Prop :=
  Claims.WriteSettingsSetsOneItem
    ∧ Claims.SettingsHaveTheirRanges
    ∧ Claims.SettingsOfManyValuesAreJudged

/-- SAVE SETTINGS captures the working settings and begins the erase of sector 32, waits while the flash is
held, or is refused while a save goes on; SETTINGS_ERASE_END begins the program or ends the save;
SETTINGS_PROGRAM_END ends it SAVED when the sector reads back as the record, and otherwise, as when it names
bytes (log 52), as failed with SETTINGS and the copy BAD, whatever its bytes (log 29); the request is answered with the outcome (R156,
R201). Stated with no journal work waiting. -/
def Obligations.SaveErasesThenPrograms : Prop :=
  let idle (s : State) : Prop := s.journal.taken = false ∧ s.journal.reErase = none
    ∧ s.journal.owedErase = none ∧ s.journal.retry = none ∧ s.journal.pending = 0
  (∀ (s : State) (q : Port), (s.port q).waits .saveSettings = true →
    let taken (e t : State) : Prop :=
      (e.port q).Settles (Build.waits .saveSettings) ⟨.saveSettings, true, none⟩ (t.port q)
        ∧ t = e.setPort q (t.port q)
    ∃ t, exec (.saveSettings q) s = .next t
      ∧ (s.settings.save.isSome = true → AnsweredIn q .saveSettings .wrongState [] s t)
      ∧ (s.settings.save = none → (∀ b ∈ (s.port q).builds, b.taken = false → b.answer = none) →
          (idle s → s.flash.op = .none → taken { s with
            settings := { s.settings with save := some ⟨.erasing, s.settings.working⟩ }
            flash := { s.flash with op := .settingsErase } } t)
          ∧ (s.flash.op ≠ .none ∨ s.journal.taken = true → taken { s with
            settings := { s.settings with save := some ⟨.waitErase, s.settings.working⟩ } } t)))
  ∧ (∀ (s : State) (left : List Byte) (values : Settings),
    s.flash.op = .settingsErase → s.settings.save = some ⟨.erasing, values⟩ → idle s →
    let mem := s.flash.mem.replace (32 * 4096) 4096 left
    ∃ t, exec (.settingsEraseEnd left) s = .next t
      ∧ (mem.blank (32 * 4096) 4096 = true →
          t = { s with
            flash := { mem := mem, op := .settingsProgram, spoiled := false }
            settings := { s.settings with save := some ⟨.programming, values⟩ } })
      ∧ (mem.blank (32 * 4096) 4096 = false →
          t = { s with
            flash := { mem := mem, op := .none, spoiled := true }
            settings := { s.settings with
              save := none, outcome := some .eraseFailed, valid := false }
            ports := t.ports }
          ∧ SaveAnswered 1 s t ∧ t.noticed .settings))
  ∧ ∀ (s : State) (left : Option (List Byte)) (values : Settings),
    s.flash.op = .settingsProgram → s.settings.save = some ⟨.programming, values⟩ → idle s →
    let mem := match left with
      | none => s.flash.mem.program (32 * 4096) (Settings.record values)
      | some bytes => s.flash.mem.replace (32 * 4096) 512 bytes
    let verified := left = none ∧ mem.slice (32 * 4096) 512 = Settings.record values
    ∃ t, exec (.settingsProgramEnd left) s = .next t
      ∧ (verified →
          t = { s with
            flash := { mem := mem, op := .none, spoiled := false }
            settings := { s.settings with
              save := none, outcome := some .saved, stored := values, valid := true }
            ports := t.ports }
          ∧ SaveAnswered 0 s t ∧ s.latched t = s.ports)
      ∧ (¬ verified →
          t = { s with
            flash := { mem := mem, op := .none, spoiled := true }
            settings := { s.settings with
              save := none, outcome := some .programFailed, valid := false }
            ports := t.ports }
          ∧ SaveAnswered 2 s t ∧ t.noticed .settings)

/-- POWER_ON gives every block its power-on values and begins recovery: the settings are the stored copy's
or the defaults with SETTINGS, the identity is the copy that sector 33 holds, with its check flag, the valid
record with the highest sequence is the newest, the flash array is kept (R159, R194, R196, R198). The pins
keep their levels by the model's choice (log 3), and a part that was running has lost its supply first
(log 1). Stated for a flash with no operation in flight and the warning
released. -/
def Claims.PowerOnBeginsRecovery : Prop :=
  ∀ s : State, s.flash.op = .none → s.journal.warning = false →
    ∃ t, exec .powerOn s = .next t
      ∧ t.phase = .recovering ∧ t.flash.mem = s.flash.mem
      ∧ t.tb = Timebase.powerOn ∧ t.sel = Selection.powerOn ∧ t.ring = Ring.powerOn
      ∧ (∀ r, t.ref r = Reference.powerOn) ∧ t.trips = State.reset.trips
      ∧ (∀ u, t.modeOf u = UnitMode.powerOn)
      ∧ t.tally = State.reset.tally ∧ t.shift = Shift.powerOn
      ∧ t.dist = { Distribution.powerOn with readsBack := s.dist.readsBack }
      ∧ (∀ l, (t.line l).raw = (s.line l).raw)
      ∧ (∀ w, s.flash.storedSettings = some w →
          t.settings = ⟨w, w, w, true, false, none, none⟩
          ∧ ∀ q, t.port q = PortState.powerOn)
      ∧ (s.flash.storedSettings = none →
          t.settings = ⟨Config.defaults, Config.defaults, Config.defaults, false, true, none, none⟩
          ∧ ∀ q, t.port q = { PortState.powerOn with latches := Notice.settings.bit })
      ∧ (let b := s.flash.mem.slice (33 * 4096) 512
        t.identity.vendor = (b.drop 4).take 16 ∧ t.identity.part = (b.drop 20).take 16
          ∧ t.identity.revision = b.getD 36 0
          ∧ t.identity.serial.toNat = ofBe ((b.drop 37).take 4)
          ∧ t.identity.date.toNat = ofBe ((b.drop 41).take 4)
          ∧ (t.identity.ok = true ↔ b.take 4 = [0x5C, 0x4A, 0x1D, 0xE7]
              ∧ b.drop 508 = be 4 (crc (b.take 508)).toNat))
      ∧ (∀ a b r, s.flash.mem.slotKind a b = .valid r →
          ∃ x, t.journal.newest = some x ∧ r.seq.toNat ≤ x.record.seq.toNat)
      ∧ (∀ x, t.journal.newest = some x →
          s.flash.mem.slotKind x.sector x.slot = .valid x.record
          ∧ t.journal.nextSeq = x.record.seq + 1 ∧ t.journal.retired = x.record.retired)
      ∧ (t.journal.newest = none → t.journal.nextSeq = 0 ∧ t.journal.retired = 0
          ∧ t.journal.sector = 0 ∧ t.journal.slot = 0)
      ∧ t.journal.programFailures = 0 ∧ t.journal.eraseFailures = 0 ∧ t.journal.pending = 0
      ∧ t.journal.countChanged = false ∧ t.journal.lastCapture = none
      ∧ t.journal.taken = false ∧ t.journal.owedErase = none

/-- Of copies with one sequence POWER_ON takes the last in rotation, whatever sectors lie between them and
whether or not the record counts them as retired (R147, R153, R159). The model reads their order from
how far they lie after the record with the next lower sequence, and from their addresses when no record is
older (log 57). -/
def Claims.LastCopyIsTaken : Prop :=
  ∀ s : State, s.flash.op = .none → s.journal.warning = false →
    let holds (a : Fin 32) (b : Fin 8) (r : JournalRecord) : Prop :=
      s.flash.mem.slotKind a b = .valid r
    let place (a : Fin 32) (b : Fin 8) : Nat := 8 * a.val + b.val
    let after (c : Fin 32) (d : Fin 8) (a : Fin 32) (b : Fin 8) : Nat :=
      (256 + place a b - place c d) % 256
    ∃ t, exec .powerOn s = .next t
      ∧ ∀ x, t.journal.newest = some x →
          let older (r : JournalRecord) : Prop := r.seq.toNat < x.record.seq.toNat
          (∀ c d o, holds c d o → older o →
            (∀ e f p, holds e f p → older p → p.seq.toNat < o.seq.toNat ∨ (e = c ∧ f = d)) →
            ∀ a b r, holds a b r → r.seq = x.record.seq → after c d a b ≤ after c d x.sector x.slot)
          ∧ ((∀ c d o, holds c d o → ¬ older o) →
            ∀ a b r, holds a b r → r.seq = x.record.seq → place a b ≤ place x.sector x.slot)

/-- Which stored settings copy is valid: sector 32 holds the marker, a correct check over its first 508 bytes,
and for every item in its place, unit 1 or port G first, a value that the item's range admits; a sector that a
save without the outcome SAVED has left counts as invalid by the model's choice (log 29). The record of
settings in their ranges is laid out so, and reads back as them (R68, R148, R164, R198, R205, R209). -/
def Claims.StoredSettingsCopyIsJudged : Prop :=
  let items : List Byte := (List.range 25).map fun i => BitVec.ofNat 8 (i + 1)
  let keys : List (Byte × Byte) := items.flatMap fun item =>
    (if item = 0x0A ∨ item = 0x0B then [1, 2, 3, 4, 5, 6] else if item = 0x19 then [1, 2, 3] else [0]).map
      fun qual => (item, qual)
  let width (k : Byte × Byte) : Nat :=
    [0, 4, 2, 1, 4, 4, 1, 1, 1, 1, 6, 1, 2, 2, 2, 1, 1, 2, 1, 2, 1, 1, 9, 1, 1, 2].getD k.1.toNat 0
  let marker : List Byte := [0x5C, 0x4A, 0x53, 0xE7]
  (∀ f : Flash,
    let bytes := f.mem.slice (32 * 4096) 512
    f.storedSettings.isSome = true ↔
      f.spoiled = false ∧ bytes.take 4 = marker ∧ bytes.drop 508 = be 4 (crc (bytes.take 508)).toNat
        ∧ ∀ (i : Nat) (k : Byte × Byte), keys[i]? = some k →
            (Settings.put Config.defaults k.1 k.2
              ((bytes.drop (4 + ((keys.take i).map width).sum)).take (width k))).isSome = true)
  ∧ (∀ (f : Flash) (w : Settings), f.spoiled = false → Settings.InRanges w →
      f.mem.slice (32 * 4096) 512 = Settings.record w → f.storedSettings = some w)
  ∧ ∀ w : Settings, Settings.InRanges w →
      let head := marker ++ keys.flatMap fun k => (Settings.valueOf w k.1 k.2).getD []
      let body := head ++ List.replicate (508 - head.length) 0
      Settings.record w = body ++ be 4 (crc body).toNat ∧ (Settings.record w).length = 512

/-- END_OF_RECOVERY hands the newest record's values over, with a saturated flag for each tally at the cap, or
the values each block has without one, the shift identity of no crew among them; station time starts in
FREE at class 7, JOURNAL waits for START, and a baseline is awaited (R25, R76, R145, R160, R161, R181). -/
def Claims.EndOfRecoveryHandsValuesOver : Prop :=
  ∀ s : State, s.phase = .recovering → s.flash.op = .none → s.journal.taken = false →
    s.recoveryErase = none → s.ring.started = false →
    let retired := (List.range 32).countP fun i => s.journal.retired.getLsbD i
    let state : JournalState :=
      if 29 ≤ retired then .failed
      else if s.journal.newest = none then .empty
      else if 8 ≤ retired then .degraded else .normal
    let integral : Int := match s.journal.newest with
      | some x => x.record.integral
      | none => 0
    ∃ t, exec .endOfRecovery s = .next t
      ∧ t.phase = .baselining ∧ t.lines.awaiting = true
      ∧ t.lines.period = s.settings.working.scanPeriod
      ∧ t.tb = { s.tb with
          advancing := true
          second := match s.journal.newest with | some x => x.record.second | none => 0
          nanos := 0, residue := 0, outliers := 0
          integral := integral, rate := integral
          cycleSecond := t.tb.second, cycleNanos := 0, cycleClass := 7, cycleState := .free
          uncertainty := 1000000000, unset := true, alarm := true
          state := .free, lastStep := none }
      ∧ (∀ x, s.journal.newest = some x → t.shift.identity = x.record.shift
          ∧ t.ring.orderly = x.record.causes.getLsbD 5
          ∧ ∀ u, let y := x.record.units.get u
            t.tallyOf u = {
              tallies := y.tallies, saturated := (t.tallyOf u).saturated, counted := none
              starts := y.starts, trips := y.trips, closings := y.closings
              lastTrip := y.lastTrip, permit := none }
            ∧ ∀ m, (t.tallyOf u).saturated.get m = decide (y.tallies.get m = 3599999999999))
      ∧ (s.journal.newest = none → t.tally = s.tally
          ∧ t.shift.identity = ⟨0, 0, 0, firstInstantAfter s.settings.working.instants 0⟩)
      ∧ t.shift = { s.shift with identity := t.shift.identity }
      ∧ t.journal = { s.journal with state := state, recoveredAt := s.tb.runClock }
      ∧ (∃ e, t.ring.deferred = s.ring.deferred ++ [e] ∧ e.kind = .journal
          ∧ e.stamp.second = t.tb.second
          ∧ e.datum = BitVec.ofNat 16
              (match state with | .normal => 0 | .degraded => 1 | .failed => 2 | .empty => 3))
      ∧ (state ≠ .normal → t.noticed .journal)

/-- POWER_ON loads the settings copy that is valid and begins recovery; the end of recovery hands
the recovered values over. -/
def Obligations.PowerOnRecoversThenStartsTime : Prop :=
  Claims.PowerOnBeginsRecovery
    ∧ Claims.LastCopyIsTaken
    ∧ Claims.StoredSettingsCopyIsJudged
    ∧ Claims.EndOfRecoveryHandsValuesOver

/-- A restart, by its line, by RESTART or at the end of a frame of RESTART, reloads the settings, writes START with datum 1 and restarts
every block as its chapter states: references to LISTEN, selection none, pending changes dropped and a
baseline awaited, tests ended, OPEN files cut, taken out of the opening order and their first-outs handed
on, an erase in flight abandoned with only its 4096 bytes changed, to free values (log 8), its mark in the
place of an older one (log 42) and nothing else begun (log 32), the slots emptied with their builds made
orphans; the tallies, the shift and the rest of the journal are kept. After START stand the records that the
blocks write because of the restart, of which each comes where log 19 says: QUALITY, REF_STATE, REF_SELECT,
DISAGREE, TEST_OFF and FILE_CLOSED, with their notices. Before the end of the power-on sequence it is ignored
(R26, R46, R77, R92, R109, R122, R130, R137, R146, R162, R195, R199). A message in progress is kept
(the model's choice, log 34), and so are the mode levels until the baseline (log 41); RESTART leaves no
response (log 13). -/
def Obligations.RestartReloadsAndRestartsBlocks : Prop :=
  let cuts (s : State) (i : SlotId) (f : TripFile) : Prop :=
    i ∈ s.trips.order ∧ s.file i = some f ∧ f.state = .opened
  let wrote (s t : State) (e : Entry) : Prop :=
    ∃ n : Nat, 1 ≤ n ∧ n ≤ 31 ∧ t.ring.holds (s.ring.next + BitVec.ofNat 32 n) e
  let after (s t : State) : Prop :=
    t.settings = { s.settings with
        working := if s.settings.valid then s.settings.stored else Config.defaults }
    ∧ t.tb = { s.tb with
        state := match s.tb.state with
          | .locked => .holdover
          | .acquire => .free
          | other => other
        rate := if s.tb.state = .locked then s.tb.integral else s.tb.rate
        outliers := 0
        alarm := decide (t.settings.working.alarmClass < s.cls) }
    ∧ (∀ r, t.ref r = { s.ref r with
        state := .listen, count := 0, anchor := none, window := none, two := false,
        failed := false, previous := none, learning := ⟨none, none, none⟩
        lossFrom := s.tb.runClock })
    ∧ t.sel = { s.sel with
        selected := none, disagree := false, disagreeCount := 0, agreeCount := 0
        unpaired := none, lost := t.sel.lost }
    ∧ (s.sel.selected ≠ none ∨ s.tb.state = .locked → ∀ each, t.sel.lost.get each = true)
    ∧ t.dist = { s.dist with latency := 2 }
    ∧ t.lines.awaiting = true ∧ t.lines.period = t.settings.working.scanPeriod
    ∧ (∀ l, t.line l = { s.line l with
        pend := none, chatter := .quiet, role := (t.line l).role, inverted := (t.line l).inverted })
    ∧ (∀ (u : UnitId) (k : Fin 8),
        (t.line (lineOf u k)).role = LinePlan.role (t.settings.working.plans.get u) k.val
        ∧ (t.line (lineOf u k)).inverted = (t.settings.working.polarities.get u).getLsbD k.val)
    ∧ (∀ u, t.modeOf u = { s.modeOf u with test := none, candidate := none })
    ∧ (∀ i f, s.file i = some f → t.file i =
        if i ∈ s.trips.order ∧ f.state = .opened then
          some { f with state := if f.test then .acknowledged else .closed, cut := true }
        else some f)
    ∧ (∀ i, s.file i = none → t.file i = none)
    ∧ t.trips.order = s.trips.order.filter (fun i => match s.file i with
        | some f => decide (f.state ≠ .opened)
        | none => true)
    ∧ t.tally.locked = s.tally.locked
    ∧ (∀ u, t.tallyOf u = { s.tallyOf u with lastTrip := (t.tallyOf u).lastTrip })
    ∧ (∀ u, ((t.tallyOf u).lastTrip.map fun x => (x.second, x.cls))
        = (s.tallyOf u).lastTrip.map fun x => (x.second, x.cls))
    ∧ (∀ u, (∀ i f, cuts s i f → f.unit = u → f.test = true) → t.tallyOf u = s.tallyOf u)
    ∧ (∀ i f, cuts s i f → f.test = false →
        (∀ j g, cuts s j g → g.unit = f.unit → g.test = false → j = i) →
        (t.tallyOf f.unit).lastTrip
          = (s.tallyOf f.unit).lastTrip.map fun x => { x with firstOut := f.firstOut })
    ∧ t.shift = { s.shift with units := t.shift.units, running := t.shift.running }
    ∧ (∀ u, t.shift.units.get u = { s.shift.units.get u with
        inTest := if (s.modeOf u).test.isSome then false else (s.shift.units.get u).inTest })
    ∧ (s.shift.running = none → t.shift.running = none)
    ∧ (∀ m, s.shift.running = some m → ∃ n, t.shift.running = some { m with units := n }
        ∧ ∀ u, n.get u = { m.units.get u with
            inTest := if (s.modeOf u).test.isSome then false else (m.units.get u).inTest })
    ∧ (match s.flash.op with
      | .erase sector => t.journal = { s.journal with reErase := some sector }
          ∧ t.flash = { s.flash with mem := t.flash.mem, op := .none }
          ∧ (s.flash.sound → s.flash.mem.SameOutside sector.val t.flash.mem)
      | _ => t.journal = s.journal ∧ t.flash = s.flash ∧ t.freeCount = s.freeCount)
    ∧ t.noticed .restart
    ∧ t.ring.holds s.ring.next (s.ownRecord .start 1)
    ∧ (t.tb.alarm ≠ s.tb.alarm → t.noticed .quality
        ∧ wrote s t (s.ownRecord .quality (BitVec.ofNat 16 (s.cls * 256 + s.cls))))
    ∧ (∀ r, (s.ref r).state ≠ .listen →
        wrote s t (s.ownRecord .refState (BitVec.ofNat 16 (r.code * 256 + 1))))
    ∧ (s.sel.selected ≠ none → t.noticed .ref
        ∧ wrote s t (s.ownRecord .refSelect (BitVec.ofNat 16 (s.sel.mode.code * 256))))
    ∧ (s.sel.disagree = true → t.noticed .ref ∧ wrote s t (s.ownRecord .disagree 0))
    ∧ (∀ u, (s.modeOf u).test.isSome = true →
        wrote s t { kind := .testOff, field := BitVec.ofNat 8 (u.val + 1), stamp := s.reading
                    datum := BitVec.ofNat 16 (2 * 256 + u.val + 1) })
    ∧ (∀ i f, cuts s i f → t.noticed .file
        ∧ wrote s t { kind := .fileClosed, field := BitVec.ofNat 8 (f.unit.val + 1)
                      stamp := s.reading, datum := BitVec.ofNat 16 i.val, test := f.test })
    ∧ t = { s with
        settings := t.settings, tb := t.tb, refs := t.refs, sel := t.sel, dist := t.dist,
        lines := t.lines, modes := t.modes, ring := t.ring, trips := t.trips, tally := t.tally,
        shift := t.shift, journal := t.journal, flash := t.flash, freeCount := t.freeCount,
        ports := t.ports, due := { s.due with scan := false } }
  let emptied (x y : PortState) (orphans : List Build) : Prop :=
    let kept (slot : Slot) : Slot := match slot with | .sending r => .sending r | _ => .empty
    y = { x with
      slotA := kept x.slotA, slotB := kept x.slotB, orphans := orphans
      dropped := false, aborted := false, restarted := true, latches := y.latches }
  (∀ s : State, s.phase = .running → s.ring.deferred = [] → s.ring.records.length ≤ 1024 →
    (∃ t, exec .restartLine s = .next t ∧ after s t
      ∧ ∀ each, emptied (s.port each) (t.port each) (s.port each).builds)
    ∧ ∀ q, (s.port q).waits .restart = true → ∃ t, exec (.restart q) s = .next t ∧ after s t
      ∧ ∀ each, emptied (s.port each) (t.port each)
          (if each = q then (s.port q).builds.eraseP (Build.waits .restart)
            else (s.port each).builds))
  ∧ (∀ (s : State) (c : Instr), s.phase = .running → s.ring.deferred = [] →
    s.ring.records.length ≤ 1024 → (s.port .g).inFrame = true → (s.port .g).busy = false →
    (s.port .g).waits .nop = false → (s.port .g).waits .restart = false →
    c = .frameEnd .g Request.restart.frame ∨ c = .restart .g →
    let x := s.port .g
    let closed : PortState := { x with
      inFrame := false, slotA := x.slotA.dropSending, slotB := x.slotB.dropSending }
    ∃ t, exec c s = .next t ∧ after s t
      ∧ ∀ each, emptied (if each = .g then closed else s.port each) (t.port each)
          (s.port each).builds)
  ∧ ∀ s : State, s.phase ≠ .running → exec .restartLine s = .next s

/-- POWER_LOSS: all but the flash array, the levels of the pins (the model's choice, log 3) and the queue
(log 7) is at its power-on values with the supply absent; a flash with no operation in flight keeps every
byte, and one in flight leaves free values in its own bytes alone (log 8), a program only bits turned to
zero (9.1, R157). A supply that falls within a save leaves sector 32 marked as spoiled by the model's choice
(log 29). -/
def Obligations.PowerLossKeepsFlashAlone : Prop :=
  ∀ s : State, ∃ t, exec .powerLoss s = .next t
    ∧ t = { State.reset with
        phase := .off
        lines := t.lines
        dist := { State.reset.dist with readsBack := s.dist.readsBack }
        journal := { State.reset.journal with warning := s.journal.warning }
        flash := t.flash
        freeCount := t.freeCount
        pending := s.pending }
    ∧ t.lines = { State.reset.lines with tab := t.lines.tab }
    ∧ (∀ l, t.line l = { State.reset.line l with raw := (s.line l).raw })
    ∧ t.flash.op = .none
    ∧ (s.flash.op = .none → t.flash = s.flash ∧ t.freeCount = s.freeCount)
    ∧ (∀ sector, s.flash.op = .erase sector → t.flash.spoiled = s.flash.spoiled
        ∧ (s.flash.sound → s.flash.mem.SameOutside sector.val t.flash.mem))
    ∧ (s.flash.op = .settingsErase ∨ s.flash.op = .settingsProgram → t.flash.spoiled = true
        ∧ (s.flash.sound → s.flash.mem.SameOutside 32 t.flash.mem))
    ∧ ∀ sector slot r, s.flash.op = .program sector slot r → t.flash.spoiled = s.flash.spoiled
        ∧ (s.flash.sound →
          let first := sector.val * 4096 + slot.val * 512
          ∀ a, t.flash.mem.read a &&& s.flash.mem.read a = t.flash.mem.read a
            ∧ (a < first ∨ first + 512 ≤ a → t.flash.mem.read a = s.flash.mem.read a))

/-! ### What the reading requests give, and two more forms (08, 09, 10, 11, 12, 13) -/

/-- LIST TRIP FILES gives state, unit and trip second of each slot; READ TRIP FILE gives one slot's file as
it stands, byte for byte, or FREE alone; a slot above 15 is refused. Neither changes any state (R126,
R127, R133, R208). -/
def Claims.TripFilesAreRead : Prop :=
  ∀ (s : State) (q : Port),
    ((s.port q).waits .listTripFiles = true → ∃ t, exec (.listTripFiles q) s = .next t
      ∧ AnsweredIn q .listTripFiles .ok
          ((List.finRange 16).flatMap fun i => match s.file i with
            | none => [0, 0, 0, 0, 0, 0]
            | some f => byteOf f.state.code ++ byteOf (f.unit.val + 1) ++ secondBytes f.second) s t)
    ∧ ∀ slot, (s.port q).waits (.readTripFile slot) = true →
      let tally (ms : Nat) : List Byte := tallyBytes ms (decide (ms = 3599999999999))
      ∃ t, exec (.readTripFile q slot) s = .next t
        ∧ (15 < slot.toNat → AnsweredIn q (.readTripFile slot) .badValue [] s t)
        ∧ ∀ i : SlotId, slot.toNat = i.val →
            (s.file i = none → AnsweredIn q (.readTripFile slot) .ok [slot, 0] s t)
            ∧ ∀ f, s.file i = some f → AnsweredIn q (.readTripFile slot) .ok
                ([slot] ++ byteOf f.state.code ++ byteOf (f.unit.val + 1)
                  ++ dateBytes f.second f.micros ++ byteOf f.cls
                  ++ byteOf (f.test.toNat + 2 * f.cut.toNat + 4 * f.breakerClosed.toNat
                      + 8 * f.ambiguous.toNat)
                  ++ byteOf (match f.modeBefore with | none => 0 | some m => m.code)
                  ++ tally f.genTally ++ tally f.pumpTally
                  ++ optionBytes 1 (f.precededBy.map fun u => byteOf (u.val + 1))
                  ++ optionBytes 1 (f.firstOut.map fun l => byteOf l.val)
                  ++ optionBytes 4 (f.breakerOpen.map (beInt 4)) ++ smallBytes f.overflow
                  ++ leftBytes (if f.state = .opened then
                      (f.windowEnd - s.tb.runClock + 999999) / 1000000 else 0)
                  ++ byteOf f.operates.length
                  ++ f.operates.flatMap (fun x =>
                      byteOf x.line.val ++ beInt 4 x.offset ++ flagByte x.scanned)) s t

/-- READ SUMMARY gives the header or a unit's entry of the running summary or of a log entry, 1 the newest,
byte for byte, and for index 0 the Shift Controller's own state; an index above 12 or a part above 6 is
refused, an index beyond the log is NOT_HELD. It changes no state (R168, R176, R180, R208). -/
def Claims.SummariesAreRead : Prop :=
  ∀ (s : State) (q : Port) (index part : Byte), (s.port q).waits (.readSummary index part) = true →
    let r : Request := .readSummary index part
    let seconds (deadline : Nat) : Nat := (deadline - s.tb.runClock + 999999999) / 1000000000
    let header (m : Summary) (running : Nat) : List Byte :=
      [index, 0] ++ byteOf s.shift.log.length ++ be 4 m.number.toNat ++ [m.crewOut, m.crewIn]
        ++ secondBytes m.start ++ optionBytes 4 (m.dueSecond.map secondBytes)
        ++ optionBytes 4 (m.cutSecond.map secondBytes) ++ clockBytes m.elapsed
        ++ be 4 m.firstSeq.toNat ++ optionBytes 4 (m.lastSeq.map fun x => be 4 x.toNat)
        ++ byteOf m.worstClass ++ smallBytes m.timeSteps ++ smallBytes m.missed
        ++ be 4 ((m.overdue + running) / 60000000000)
        ++ optionBytes 2 (m.closedFiles.map fun xs =>
            be 2 ((List.finRange 16).map fun i => (decide (i ∈ xs)).toNat * 2 ^ i.val).sum)
        ++ optionBytes 1 (m.journalAtCut.map fun x => byteOf x.code) ++ flagByte m.isPartial
    let own : List Byte :=
      byteOf s.shift.state.code ++ be 4 s.shift.identity.number.toNat ++ [s.shift.identity.crew]
        ++ secondBytes s.shift.identity.start ++ secondBytes s.shift.identity.nextDue
        ++ optionBytes 8 (s.shift.dueStart.map fun d => clockBytes (s.tb.runClock - d))
        ++ flagByte s.shift.overdueSince.isSome
        ++ optionBytes 4 (s.shift.missedWatch.map secondBytes)
        ++ optionBytes 5 (s.shift.offer.map fun o =>
            [o.crewOut] ++ leftBytes (seconds (o.start + 600000000000)))
    let entry (m : Summary) (u : UnitId) : List Byte :=
      let x := m.units.get u
      [index, part] ++ [Mode.stand, .spin, .gen, .pump, .cond].flatMap (fun k =>
          clockBytes (x.buckets.get k))
        ++ clockBytes m.elapsed ++ smallBytes x.starts ++ smallBytes x.trips
        ++ clockBytes x.testTime ++ flagByte x.inTest
    ∃ t, exec (.readSummary q index part) s = .next t
      ∧ (12 < index.toNat ∨ 6 < part.toNat → AnsweredIn q r .badValue [] s t)
      ∧ (1 ≤ index.toNat → index.toNat ≤ 12 → part.toNat ≤ 6 →
          s.shift.log.length < index.toNat → AnsweredIn q r .notHeld [] s t)
      ∧ (∀ m, index = 0 → s.shift.running = some m →
          (part = 0 → AnsweredIn q r .ok
            (header m (match s.shift.overdueSince with | some d => s.tb.runClock - d | none => 0)
              ++ own) s t)
          ∧ ∀ u : UnitId, part.toNat = u.val + 1 → AnsweredIn q r .ok (entry m u) s t)
      ∧ ∀ m, 1 ≤ index.toNat → index.toNat ≤ 12 → index.toNat ≤ s.shift.log.length →
          s.shift.log[s.shift.log.length - index.toNat]? = some m →
          (part = 0 → AnsweredIn q r .ok (header m 0) s t)
          ∧ ∀ u : UnitId, part.toNat = u.val + 1 → AnsweredIn q r .ok (entry m u) s t

/-- READ JOURNAL gives the journal itself under part 0 and what the newest record holds of a unit under
parts 1 to 6, changing nothing; a part above 6 is refused (R148, R163, R203; which
values share a presence byte, log 22). -/
def Claims.JournalIsRead : Prop :=
  ∀ (s : State) (q : Port) (part : Byte), (s.port q).waits (.readJournal part) = true →
    let j := s.journal
    let since := match j.lastCapture with | some x => x | none => j.recoveredAt
    let seconds (deadline : Nat) : Nat := (deadline - s.tb.runClock + 999999999) / 1000000000
    let sector (x : Option (Fin 32)) : List Byte := optionBytes 4 (x.map fun a => numberBytes a.val)
    let tally (ms : Nat) : List Byte := tallyBytes ms (decide (ms = 3599999999999))
    let op : List Byte := match s.flash.op with
      | .program a b r => byteOf 1 ++ sector (some a)
          ++ optionBytes 8 (some (numberBytes b.val ++ be 4 r.seq.toNat))
      | .erase a => byteOf 2 ++ sector (some a) ++ optionBytes 8 none
      | .none | .settingsErase | .settingsProgram => byteOf 0 ++ sector none ++ optionBytes 8 none
    ∃ t, exec (.readJournal q part) s = .next t
      ∧ (6 < part.toNat → AnsweredIn q (.readJournal part) .badValue [] s t)
      ∧ (part = 0 → AnsweredIn q (.readJournal part) .ok
          (byteOf j.state.code
            ++ numberBytes ((List.range 32).countP fun i => j.retired.getLsbD i)
            ++ be 4 j.retired.toNat ++ numberBytes j.sector.val ++ numberBytes j.slot.val
            ++ be 4 j.nextSeq.toNat
            ++ optionBytes 1 (if j.pending = 0 then none else some (byteOf j.pending.toNat))
            ++ leftBytes (seconds (since + s.settings.working.checkpointInterval * 60 * 1000000000))
            ++ optionBytes 4 (if j.countChanged then
                some (leftBytes (seconds (since + 10000000000))) else none)
            ++ op ++ sector j.reErase ++ sector j.owedErase
            ++ flagByte j.retireOnLeave ++ flagByte j.taken
            ++ numberBytes j.programFailures ++ numberBytes j.eraseFailures
            ++ optionBytes 35 (j.newest.map fun x => be 4 x.record.seq.toNat
                ++ numberBytes x.sector.val ++ numberBytes x.slot.val
                ++ secondBytes x.record.second ++ byteOf x.record.cls
                ++ byteOf x.record.causes.toNat ++ numberBytes x.record.integral
                ++ be 4 x.record.shift.number.toNat ++ [x.record.shift.crew]
                ++ secondBytes x.record.shift.start ++ secondBytes x.record.shift.nextDue)) s t)
      ∧ ∀ u : UnitId, part.toNat = u.val + 1 → AnsweredIn q (.readJournal part) .ok
          (optionBytes 47 (j.newest.map fun x =>
            let y := x.record.units.get u
            [Mode.stand, .spin, .gen, .pump, .cond].flatMap (fun m => tally (y.tallies.get m))
              ++ countBytes y.starts ++ countBytes y.trips ++ countBytes y.closings
              ++ optionBytes 7 (y.lastTrip.map fun d => secondBytes d.second ++ byteOf d.cls
                  ++ optionBytes 1 (d.firstOut.map fun l => byteOf l.val)))) s t

/-- READ SETTINGS gives an item's working and stored value, the value in force of a plan, polarity or scan
period, and the marks of the stored copy; a body that names no item, unit or port is refused. It changes
no state (R69, R202, R203; that a plain item ignores its qualifier, log 23, the save's codes, log 43). -/
def Claims.SettingsAreRead : Prop :=
  ∀ (s : State) (q : Port) (item qual : Byte),
    (s.port q).waits (.readSettings item qual) = true →
    let x := s.settings
    let inForce : List Byte :=
      if item = 0x0A then (List.finRange 6).flatMap fun u =>
        if qual.toNat = u.val + 1 then ((List.finRange 8).drop 2).flatMap fun k =>
          byteOf (s.line (lineOf u k)).role.code else []
      else if item = 0x0B then (List.finRange 6).flatMap fun u =>
        if qual.toNat = u.val + 1 then byteOf ((List.finRange 8).map fun k =>
          (s.line (lineOf u k)).inverted.toNat * 2 ^ k.val).sum else []
      else if item = 0x0C then be 2 s.lines.period else []
    ∃ t, exec (.readSettings q item qual) s = .next t
      ∧ (Settings.valueOf x.working item qual = none →
          AnsweredIn q (.readSettings item qual) .badValue [] s t)
      ∧ ∀ w v, Settings.valueOf x.working item qual = some w →
          Settings.valueOf x.stored item qual = some v →
          AnsweredIn q (.readSettings item qual) .ok
            (w ++ v ++ flagByte (decide (w ≠ v) || !x.valid) ++ inForce ++ flagByte (!x.valid)
              ++ flagByte x.fromDefaults
              ++ byteOf (match x.save with
                  | none => 0
                  | some y => match y.stage with
                    | .waitErase | .erasing => 1
                    | .waitProgram | .programming => 2)
              ++ optionBytes 1 (x.outcome.map fun o => byteOf o.code)) s t

/-- The value bytes of the settings items; an item, unit or port that is none has no value (R203, R205;
the qualifier of a plain item is ignored by the model's choice, log 23). -/
def Claims.SettingsItemsHaveTheirBytes : Prop :=
  ∀ (w : Settings) (qual : Byte),
    let value (item : Byte) := Settings.valueOf w item qual
    let unit : Option UnitId := (List.finRange 6).find? fun u => qual.toNat == u.val + 1
    value 0x01 = some (be 4 w.stepThreshold) ∧ value 0x02 = some (be 2 w.holdoverDrift)
    ∧ value 0x03 = some (be 1 w.alarmClass) ∧ value 0x04 = some (be 4 w.spacingTolerance)
    ∧ value 0x05 = some (be 4 w.disagreementLimit)
    ∧ value 0x06 = some (match w.priority with | .ref1 => [1] | .ref2 => [2])
    ∧ value 0x07 = some (be 1 w.bitPeriodP) ∧ value 0x08 = some (be 1 w.delayD)
    ∧ value 0x09 = some (be 1 w.strobeWidth)
    ∧ value 0x0A = unit.map (fun u => (w.plans.get u).list.flatMap fun r => byteOf r.code)
    ∧ value 0x0B = unit.map (fun u => [w.polarities.get u])
    ∧ value 0x0C = some (be 2 w.scanPeriod) ∧ value 0x0D = some (be 2 w.fastDebounce)
    ∧ value 0x0E = some (be 2 w.scannedDebounce) ∧ value 0x0F = some (be 1 w.chatterLimit)
    ∧ value 0x10 = some (be 1 w.chatterWindow) ∧ value 0x11 = some (be 2 w.settleTime)
    ∧ value 0x12 = some (be 1 w.testLength) ∧ value 0x13 = some (be 2 w.tripWindow)
    ∧ value 0x14 = some (be 1 w.lookback) ∧ value 0x15 = some (be 1 w.checkpointInterval)
    ∧ value 0x16 = some (be 1 w.instants.length ++ (List.range 4).flatMap fun i =>
        be 2 (w.instants.getD i 0))
    ∧ value 0x17 = some (be 1 w.earlyMargin) ∧ value 0x18 = some (be 1 w.grace)
    ∧ value 0x19 = (if qual = 1 then some (be 2 w.enables.g.toNat)
        else if qual = 2 then some (be 2 w.enables.p.toNat)
        else if qual = 3 then some (be 2 w.enables.s.toNat) else none)
    ∧ ∀ item : Byte, item = 0 ∨ 0x19 < item.toNat → value item = none

/-- LIST and READ TRIP FILE, READ SUMMARY, READ JOURNAL and READ SETTINGS give their values and
change nothing. -/
def Obligations.FilesSummariesJournalAndSettingsAreRead : Prop :=
  Claims.TripFilesAreRead
    ∧ Claims.SummariesAreRead
    ∧ Claims.JournalIsRead
    ∧ Claims.SettingsAreRead
    ∧ Claims.SettingsItemsHaveTheirBytes

/-- Every step leaves at most one slot of a port BUILDING (R187). -/
def Claims.PortsKeepOneBuild : Prop :=
  ∀ s t : State, s.portsSound → step s = .next t → t.portsSound

/-- Every step leaves at most twelve summaries in the shift log, with numbers that rise by one up to the
running summary's, and none before the power-on sequence has ended, when no request has been handed on
either (R175, R176, R179, R181, R187). -/
def Claims.ShiftLogStaysInOrder : Prop :=
  ∀ s t : State, s.summariesSound → step s = .next t → t.summariesSound

/-- Every step keeps at most one build in a port's slots, and the shift log at twelve summaries
numbered in order. -/
def Obligations.PortsAndShiftLogStayInOrder : Prop :=
  Claims.PortsKeepOneBuild
    ∧ Claims.ShiftLogStaysInOrder
end

