-- ==== Sys2Proof/Laws/Bytes.lean ====
section
/-! SUPPORT. The byte layouts: lengths, and that a number laid out is read back. -/

namespace Sys2Proof.Machine

@[simp] theorem be_length (n v : Nat) : (be n v).length = n := by
  induction n with
  | zero => rfl
  | succ n ih => simp [be, ih]

@[simp] theorem beInt_length (n : Nat) (v : Int) : (beInt n v).length = n := be_length n _

@[simp] theorem secondBytes_length (x : Second) : (secondBytes x).length = 4 := be_length 4 _

theorem ofBe_foldl (acc : Nat) (bytes : List Byte) :
    bytes.foldl (fun a b => a * 256 + b.toNat) acc
      = acc * 256 ^ bytes.length + ofBe bytes := by
  induction bytes generalizing acc with
  | nil => simp [ofBe]
  | cons b rest ih =>
    have e : ofBe (b :: rest) = rest.foldl (fun a b => a * 256 + b.toNat) b.toNat := by
      simp [ofBe]
    rw [e, List.foldl_cons, ih, ih b.toNat, List.length_cons, Nat.pow_succ]
    ring

theorem ofBe_cons (b : Byte) (rest : List Byte) :
    ofBe (b :: rest) = b.toNat * 256 ^ rest.length + ofBe rest := by
  have := ofBe_foldl b.toNat rest
  simpa [ofBe] using this

/-- A number laid out in `n` bytes is read back modulo 256ⁿ. -/
theorem ofBe_be (n v : Nat) : ofBe (be n v) = v % 256 ^ n := by
  induction n with
  | zero => simp [be, ofBe, Nat.mod_one]
  | succ n ih =>
    have h := Nat.mod_mul (x := v) (a := 256 ^ n) (b := 256)
    have e : (256 : Nat) ^ (n + 1) = 256 ^ n * 256 := pow_succ 256 n
    rw [be, ofBe_cons, ih, be_length, BitVec.toNat_ofNat, e, h]
    have k : (2 : Nat) ^ 8 = 256 := by norm_num
    rw [k]
    ring

theorem ofBe_be_of_lt {n v : Nat} (h : v < 256 ^ n) : ofBe (be n v) = v := by
  rw [ofBe_be, Nat.mod_eq_of_lt h]

/-- A second laid out is read back. -/
theorem secondOf_secondBytes (x : Second) : secondOf (secondBytes x) = x := by
  unfold secondOf secondBytes
  rw [ofBe_be_of_lt (by have := x.isLt; omega)]
  simp

theorem ofBe_lt (bytes : List Byte) : ofBe bytes < 256 ^ bytes.length := by
  induction bytes with
  | nil => simp [ofBe]
  | cons b rest ih =>
    rw [ofBe_cons, List.length_cons, Nat.pow_succ]
    have hb := b.isLt
    have : b.toNat * 256 ^ rest.length ≤ 255 * 256 ^ rest.length :=
      Nat.mul_le_mul_right _ (by omega)
    omega

/-- A check byte makes its bytes add to 0 modulo 256 (R184). -/
theorem sum_checkByte (bytes : List Byte) :
    (bytes ++ [checkByte bytes]).foldl (· + ·) 0 = (0 : Byte) := by
  simp [checkByte]

end Sys2Proof.Machine
end

