-- ==== Sys2Proof/Laws/State.lean ====
section
/-! SUPPORT. What each update of the state does to each field: one lemma for each, true by definition. -/

namespace Sys2Proof.Machine

variable (s : State)

/-! ### withTb -/

@[simp] theorem State.withTb_phase (t : Timebase) : (s.withTb t).phase = s.phase := rfl
@[simp] theorem State.withTb_tb (t : Timebase) : (s.withTb t).tb = t := rfl
@[simp] theorem State.withTb_due (t : Timebase) : (s.withTb t).due = s.due := rfl
@[simp] theorem State.withTb_refs (t : Timebase) : (s.withTb t).refs = s.refs := rfl
@[simp] theorem State.withTb_sel (t : Timebase) : (s.withTb t).sel = s.sel := rfl
@[simp] theorem State.withTb_dist (t : Timebase) : (s.withTb t).dist = s.dist := rfl
@[simp] theorem State.withTb_lines (t : Timebase) : (s.withTb t).lines = s.lines := rfl
@[simp] theorem State.withTb_modes (t : Timebase) : (s.withTb t).modes = s.modes := rfl
@[simp] theorem State.withTb_ring (t : Timebase) : (s.withTb t).ring = s.ring := rfl
@[simp] theorem State.withTb_trips (t : Timebase) : (s.withTb t).trips = s.trips := rfl
@[simp] theorem State.withTb_tally (t : Timebase) : (s.withTb t).tally = s.tally := rfl
@[simp] theorem State.withTb_journal (t : Timebase) : (s.withTb t).journal = s.journal := rfl
@[simp] theorem State.withTb_flash (t : Timebase) : (s.withTb t).flash = s.flash := rfl
@[simp] theorem State.withTb_shift (t : Timebase) : (s.withTb t).shift = s.shift := rfl
@[simp] theorem State.withTb_ports (t : Timebase) : (s.withTb t).ports = s.ports := rfl
@[simp] theorem State.withTb_settings (t : Timebase) : (s.withTb t).settings = s.settings := rfl
@[simp] theorem State.withTb_identity (t : Timebase) : (s.withTb t).identity = s.identity := rfl
@[simp] theorem State.withTb_freeCount (t : Timebase) : (s.withTb t).freeCount = s.freeCount := rfl
@[simp] theorem State.withTb_pending (t : Timebase) : (s.withTb t).pending = s.pending := rfl

/-! ### withDue -/

@[simp] theorem State.withDue_phase (d : DueMarks) : (s.withDue d).phase = s.phase := rfl
@[simp] theorem State.withDue_tb (d : DueMarks) : (s.withDue d).tb = s.tb := rfl
@[simp] theorem State.withDue_due (d : DueMarks) : (s.withDue d).due = d := rfl
@[simp] theorem State.withDue_refs (d : DueMarks) : (s.withDue d).refs = s.refs := rfl
@[simp] theorem State.withDue_sel (d : DueMarks) : (s.withDue d).sel = s.sel := rfl
@[simp] theorem State.withDue_dist (d : DueMarks) : (s.withDue d).dist = s.dist := rfl
@[simp] theorem State.withDue_lines (d : DueMarks) : (s.withDue d).lines = s.lines := rfl
@[simp] theorem State.withDue_modes (d : DueMarks) : (s.withDue d).modes = s.modes := rfl
@[simp] theorem State.withDue_ring (d : DueMarks) : (s.withDue d).ring = s.ring := rfl
@[simp] theorem State.withDue_trips (d : DueMarks) : (s.withDue d).trips = s.trips := rfl
@[simp] theorem State.withDue_tally (d : DueMarks) : (s.withDue d).tally = s.tally := rfl
@[simp] theorem State.withDue_journal (d : DueMarks) : (s.withDue d).journal = s.journal := rfl
@[simp] theorem State.withDue_flash (d : DueMarks) : (s.withDue d).flash = s.flash := rfl
@[simp] theorem State.withDue_shift (d : DueMarks) : (s.withDue d).shift = s.shift := rfl
@[simp] theorem State.withDue_ports (d : DueMarks) : (s.withDue d).ports = s.ports := rfl
@[simp] theorem State.withDue_settings (d : DueMarks) : (s.withDue d).settings = s.settings := rfl
@[simp] theorem State.withDue_identity (d : DueMarks) : (s.withDue d).identity = s.identity := rfl
@[simp] theorem State.withDue_freeCount (d : DueMarks) :
    (s.withDue d).freeCount = s.freeCount := rfl
@[simp] theorem State.withDue_pending (d : DueMarks) : (s.withDue d).pending = s.pending := rfl

/-! ### withSel -/

@[simp] theorem State.withSel_phase (x : Selection) : (s.withSel x).phase = s.phase := rfl
@[simp] theorem State.withSel_tb (x : Selection) : (s.withSel x).tb = s.tb := rfl
@[simp] theorem State.withSel_due (x : Selection) : (s.withSel x).due = s.due := rfl
@[simp] theorem State.withSel_refs (x : Selection) : (s.withSel x).refs = s.refs := rfl
@[simp] theorem State.withSel_sel (x : Selection) : (s.withSel x).sel = x := rfl
@[simp] theorem State.withSel_dist (x : Selection) : (s.withSel x).dist = s.dist := rfl
@[simp] theorem State.withSel_lines (x : Selection) : (s.withSel x).lines = s.lines := rfl
@[simp] theorem State.withSel_modes (x : Selection) : (s.withSel x).modes = s.modes := rfl
@[simp] theorem State.withSel_ring (x : Selection) : (s.withSel x).ring = s.ring := rfl
@[simp] theorem State.withSel_trips (x : Selection) : (s.withSel x).trips = s.trips := rfl
@[simp] theorem State.withSel_tally (x : Selection) : (s.withSel x).tally = s.tally := rfl
@[simp] theorem State.withSel_journal (x : Selection) : (s.withSel x).journal = s.journal := rfl
@[simp] theorem State.withSel_flash (x : Selection) : (s.withSel x).flash = s.flash := rfl
@[simp] theorem State.withSel_shift (x : Selection) : (s.withSel x).shift = s.shift := rfl
@[simp] theorem State.withSel_ports (x : Selection) : (s.withSel x).ports = s.ports := rfl
@[simp] theorem State.withSel_settings (x : Selection) : (s.withSel x).settings = s.settings := rfl
@[simp] theorem State.withSel_identity (x : Selection) : (s.withSel x).identity = s.identity := rfl
@[simp] theorem State.withSel_freeCount (x : Selection) :
    (s.withSel x).freeCount = s.freeCount := rfl
@[simp] theorem State.withSel_pending (x : Selection) : (s.withSel x).pending = s.pending := rfl

/-! ### withDist -/

@[simp] theorem State.withDist_phase (d : Distribution) : (s.withDist d).phase = s.phase := rfl
@[simp] theorem State.withDist_tb (d : Distribution) : (s.withDist d).tb = s.tb := rfl
@[simp] theorem State.withDist_due (d : Distribution) : (s.withDist d).due = s.due := rfl
@[simp] theorem State.withDist_refs (d : Distribution) : (s.withDist d).refs = s.refs := rfl
@[simp] theorem State.withDist_sel (d : Distribution) : (s.withDist d).sel = s.sel := rfl
@[simp] theorem State.withDist_dist (d : Distribution) : (s.withDist d).dist = d := rfl
@[simp] theorem State.withDist_lines (d : Distribution) : (s.withDist d).lines = s.lines := rfl
@[simp] theorem State.withDist_modes (d : Distribution) : (s.withDist d).modes = s.modes := rfl
@[simp] theorem State.withDist_ring (d : Distribution) : (s.withDist d).ring = s.ring := rfl
@[simp] theorem State.withDist_trips (d : Distribution) : (s.withDist d).trips = s.trips := rfl
@[simp] theorem State.withDist_tally (d : Distribution) : (s.withDist d).tally = s.tally := rfl
@[simp] theorem State.withDist_journal (d : Distribution) :
    (s.withDist d).journal = s.journal := rfl
@[simp] theorem State.withDist_flash (d : Distribution) : (s.withDist d).flash = s.flash := rfl
@[simp] theorem State.withDist_shift (d : Distribution) : (s.withDist d).shift = s.shift := rfl
@[simp] theorem State.withDist_ports (d : Distribution) : (s.withDist d).ports = s.ports := rfl
@[simp] theorem State.withDist_settings (d : Distribution) :
    (s.withDist d).settings = s.settings := rfl
@[simp] theorem State.withDist_identity (d : Distribution) :
    (s.withDist d).identity = s.identity := rfl
@[simp] theorem State.withDist_freeCount (d : Distribution) :
    (s.withDist d).freeCount = s.freeCount := rfl
@[simp] theorem State.withDist_pending (d : Distribution) :
    (s.withDist d).pending = s.pending := rfl

/-! ### withRing -/

@[simp] theorem State.withRing_phase (r : Ring) : (s.withRing r).phase = s.phase := rfl
@[simp] theorem State.withRing_tb (r : Ring) : (s.withRing r).tb = s.tb := rfl
@[simp] theorem State.withRing_due (r : Ring) : (s.withRing r).due = s.due := rfl
@[simp] theorem State.withRing_refs (r : Ring) : (s.withRing r).refs = s.refs := rfl
@[simp] theorem State.withRing_sel (r : Ring) : (s.withRing r).sel = s.sel := rfl
@[simp] theorem State.withRing_dist (r : Ring) : (s.withRing r).dist = s.dist := rfl
@[simp] theorem State.withRing_lines (r : Ring) : (s.withRing r).lines = s.lines := rfl
@[simp] theorem State.withRing_modes (r : Ring) : (s.withRing r).modes = s.modes := rfl
@[simp] theorem State.withRing_ring (r : Ring) : (s.withRing r).ring = r := rfl
@[simp] theorem State.withRing_trips (r : Ring) : (s.withRing r).trips = s.trips := rfl
@[simp] theorem State.withRing_tally (r : Ring) : (s.withRing r).tally = s.tally := rfl
@[simp] theorem State.withRing_journal (r : Ring) : (s.withRing r).journal = s.journal := rfl
@[simp] theorem State.withRing_flash (r : Ring) : (s.withRing r).flash = s.flash := rfl
@[simp] theorem State.withRing_shift (r : Ring) : (s.withRing r).shift = s.shift := rfl
@[simp] theorem State.withRing_ports (r : Ring) : (s.withRing r).ports = s.ports := rfl
@[simp] theorem State.withRing_settings (r : Ring) : (s.withRing r).settings = s.settings := rfl
@[simp] theorem State.withRing_identity (r : Ring) : (s.withRing r).identity = s.identity := rfl
@[simp] theorem State.withRing_freeCount (r : Ring) : (s.withRing r).freeCount = s.freeCount := rfl
@[simp] theorem State.withRing_pending (r : Ring) : (s.withRing r).pending = s.pending := rfl

/-! ### withTrips -/

@[simp] theorem State.withTrips_phase (t : Trips) : (s.withTrips t).phase = s.phase := rfl
@[simp] theorem State.withTrips_tb (t : Trips) : (s.withTrips t).tb = s.tb := rfl
@[simp] theorem State.withTrips_due (t : Trips) : (s.withTrips t).due = s.due := rfl
@[simp] theorem State.withTrips_refs (t : Trips) : (s.withTrips t).refs = s.refs := rfl
@[simp] theorem State.withTrips_sel (t : Trips) : (s.withTrips t).sel = s.sel := rfl
@[simp] theorem State.withTrips_dist (t : Trips) : (s.withTrips t).dist = s.dist := rfl
@[simp] theorem State.withTrips_lines (t : Trips) : (s.withTrips t).lines = s.lines := rfl
@[simp] theorem State.withTrips_modes (t : Trips) : (s.withTrips t).modes = s.modes := rfl
@[simp] theorem State.withTrips_ring (t : Trips) : (s.withTrips t).ring = s.ring := rfl
@[simp] theorem State.withTrips_trips (t : Trips) : (s.withTrips t).trips = t := rfl
@[simp] theorem State.withTrips_tally (t : Trips) : (s.withTrips t).tally = s.tally := rfl
@[simp] theorem State.withTrips_journal (t : Trips) : (s.withTrips t).journal = s.journal := rfl
@[simp] theorem State.withTrips_flash (t : Trips) : (s.withTrips t).flash = s.flash := rfl
@[simp] theorem State.withTrips_shift (t : Trips) : (s.withTrips t).shift = s.shift := rfl
@[simp] theorem State.withTrips_ports (t : Trips) : (s.withTrips t).ports = s.ports := rfl
@[simp] theorem State.withTrips_settings (t : Trips) : (s.withTrips t).settings = s.settings := rfl
@[simp] theorem State.withTrips_identity (t : Trips) : (s.withTrips t).identity = s.identity := rfl
@[simp] theorem State.withTrips_freeCount (t : Trips) :
    (s.withTrips t).freeCount = s.freeCount := rfl
@[simp] theorem State.withTrips_pending (t : Trips) : (s.withTrips t).pending = s.pending := rfl

/-! ### withJournal -/

@[simp] theorem State.withJournal_phase (j : Journal) : (s.withJournal j).phase = s.phase := rfl
@[simp] theorem State.withJournal_tb (j : Journal) : (s.withJournal j).tb = s.tb := rfl
@[simp] theorem State.withJournal_due (j : Journal) : (s.withJournal j).due = s.due := rfl
@[simp] theorem State.withJournal_refs (j : Journal) : (s.withJournal j).refs = s.refs := rfl
@[simp] theorem State.withJournal_sel (j : Journal) : (s.withJournal j).sel = s.sel := rfl
@[simp] theorem State.withJournal_dist (j : Journal) : (s.withJournal j).dist = s.dist := rfl
@[simp] theorem State.withJournal_lines (j : Journal) : (s.withJournal j).lines = s.lines := rfl
@[simp] theorem State.withJournal_modes (j : Journal) : (s.withJournal j).modes = s.modes := rfl
@[simp] theorem State.withJournal_ring (j : Journal) : (s.withJournal j).ring = s.ring := rfl
@[simp] theorem State.withJournal_trips (j : Journal) : (s.withJournal j).trips = s.trips := rfl
@[simp] theorem State.withJournal_tally (j : Journal) : (s.withJournal j).tally = s.tally := rfl
@[simp] theorem State.withJournal_journal (j : Journal) : (s.withJournal j).journal = j := rfl
@[simp] theorem State.withJournal_flash (j : Journal) : (s.withJournal j).flash = s.flash := rfl
@[simp] theorem State.withJournal_shift (j : Journal) : (s.withJournal j).shift = s.shift := rfl
@[simp] theorem State.withJournal_ports (j : Journal) : (s.withJournal j).ports = s.ports := rfl
@[simp] theorem State.withJournal_settings (j : Journal) :
    (s.withJournal j).settings = s.settings := rfl
@[simp] theorem State.withJournal_identity (j : Journal) :
    (s.withJournal j).identity = s.identity := rfl
@[simp] theorem State.withJournal_freeCount (j : Journal) :
    (s.withJournal j).freeCount = s.freeCount := rfl
@[simp] theorem State.withJournal_pending (j : Journal) :
    (s.withJournal j).pending = s.pending := rfl

/-! ### withFlash -/

@[simp] theorem State.withFlash_phase (f : Flash) : (s.withFlash f).phase = s.phase := rfl
@[simp] theorem State.withFlash_tb (f : Flash) : (s.withFlash f).tb = s.tb := rfl
@[simp] theorem State.withFlash_due (f : Flash) : (s.withFlash f).due = s.due := rfl
@[simp] theorem State.withFlash_refs (f : Flash) : (s.withFlash f).refs = s.refs := rfl
@[simp] theorem State.withFlash_sel (f : Flash) : (s.withFlash f).sel = s.sel := rfl
@[simp] theorem State.withFlash_dist (f : Flash) : (s.withFlash f).dist = s.dist := rfl
@[simp] theorem State.withFlash_lines (f : Flash) : (s.withFlash f).lines = s.lines := rfl
@[simp] theorem State.withFlash_modes (f : Flash) : (s.withFlash f).modes = s.modes := rfl
@[simp] theorem State.withFlash_ring (f : Flash) : (s.withFlash f).ring = s.ring := rfl
@[simp] theorem State.withFlash_trips (f : Flash) : (s.withFlash f).trips = s.trips := rfl
@[simp] theorem State.withFlash_tally (f : Flash) : (s.withFlash f).tally = s.tally := rfl
@[simp] theorem State.withFlash_journal (f : Flash) : (s.withFlash f).journal = s.journal := rfl
@[simp] theorem State.withFlash_flash (f : Flash) : (s.withFlash f).flash = f := rfl
@[simp] theorem State.withFlash_shift (f : Flash) : (s.withFlash f).shift = s.shift := rfl
@[simp] theorem State.withFlash_ports (f : Flash) : (s.withFlash f).ports = s.ports := rfl
@[simp] theorem State.withFlash_settings (f : Flash) : (s.withFlash f).settings = s.settings := rfl
@[simp] theorem State.withFlash_identity (f : Flash) : (s.withFlash f).identity = s.identity := rfl
@[simp] theorem State.withFlash_freeCount (f : Flash) :
    (s.withFlash f).freeCount = s.freeCount := rfl
@[simp] theorem State.withFlash_pending (f : Flash) : (s.withFlash f).pending = s.pending := rfl

/-! ### withShift -/

@[simp] theorem State.withShift_phase (x : Shift) : (s.withShift x).phase = s.phase := rfl
@[simp] theorem State.withShift_tb (x : Shift) : (s.withShift x).tb = s.tb := rfl
@[simp] theorem State.withShift_due (x : Shift) : (s.withShift x).due = s.due := rfl
@[simp] theorem State.withShift_refs (x : Shift) : (s.withShift x).refs = s.refs := rfl
@[simp] theorem State.withShift_sel (x : Shift) : (s.withShift x).sel = s.sel := rfl
@[simp] theorem State.withShift_dist (x : Shift) : (s.withShift x).dist = s.dist := rfl
@[simp] theorem State.withShift_lines (x : Shift) : (s.withShift x).lines = s.lines := rfl
@[simp] theorem State.withShift_modes (x : Shift) : (s.withShift x).modes = s.modes := rfl
@[simp] theorem State.withShift_ring (x : Shift) : (s.withShift x).ring = s.ring := rfl
@[simp] theorem State.withShift_trips (x : Shift) : (s.withShift x).trips = s.trips := rfl
@[simp] theorem State.withShift_tally (x : Shift) : (s.withShift x).tally = s.tally := rfl
@[simp] theorem State.withShift_journal (x : Shift) : (s.withShift x).journal = s.journal := rfl
@[simp] theorem State.withShift_flash (x : Shift) : (s.withShift x).flash = s.flash := rfl
@[simp] theorem State.withShift_shift (x : Shift) : (s.withShift x).shift = x := rfl
@[simp] theorem State.withShift_ports (x : Shift) : (s.withShift x).ports = s.ports := rfl
@[simp] theorem State.withShift_settings (x : Shift) : (s.withShift x).settings = s.settings := rfl
@[simp] theorem State.withShift_identity (x : Shift) : (s.withShift x).identity = s.identity := rfl
@[simp] theorem State.withShift_freeCount (x : Shift) :
    (s.withShift x).freeCount = s.freeCount := rfl
@[simp] theorem State.withShift_pending (x : Shift) : (s.withShift x).pending = s.pending := rfl

/-! ### withSettings -/

@[simp] theorem State.withSettings_phase (x : SettingsStore) :
    (s.withSettings x).phase = s.phase := rfl
@[simp] theorem State.withSettings_tb (x : SettingsStore) : (s.withSettings x).tb = s.tb := rfl
@[simp] theorem State.withSettings_due (x : SettingsStore) : (s.withSettings x).due = s.due := rfl
@[simp] theorem State.withSettings_refs (x : SettingsStore) :
    (s.withSettings x).refs = s.refs := rfl
@[simp] theorem State.withSettings_sel (x : SettingsStore) : (s.withSettings x).sel = s.sel := rfl
@[simp] theorem State.withSettings_dist (x : SettingsStore) :
    (s.withSettings x).dist = s.dist := rfl
@[simp] theorem State.withSettings_lines (x : SettingsStore) :
    (s.withSettings x).lines = s.lines := rfl
@[simp] theorem State.withSettings_modes (x : SettingsStore) :
    (s.withSettings x).modes = s.modes := rfl
@[simp] theorem State.withSettings_ring (x : SettingsStore) :
    (s.withSettings x).ring = s.ring := rfl
@[simp] theorem State.withSettings_trips (x : SettingsStore) :
    (s.withSettings x).trips = s.trips := rfl
@[simp] theorem State.withSettings_tally (x : SettingsStore) :
    (s.withSettings x).tally = s.tally := rfl
@[simp] theorem State.withSettings_journal (x : SettingsStore) :
    (s.withSettings x).journal = s.journal := rfl
@[simp] theorem State.withSettings_flash (x : SettingsStore) :
    (s.withSettings x).flash = s.flash := rfl
@[simp] theorem State.withSettings_shift (x : SettingsStore) :
    (s.withSettings x).shift = s.shift := rfl
@[simp] theorem State.withSettings_ports (x : SettingsStore) :
    (s.withSettings x).ports = s.ports := rfl
@[simp] theorem State.withSettings_settings (x : SettingsStore) :
    (s.withSettings x).settings = x := rfl
@[simp] theorem State.withSettings_identity (x : SettingsStore) :
    (s.withSettings x).identity = s.identity := rfl
@[simp] theorem State.withSettings_freeCount (x : SettingsStore) :
    (s.withSettings x).freeCount = s.freeCount := rfl
@[simp] theorem State.withSettings_pending (x : SettingsStore) :
    (s.withSettings x).pending = s.pending := rfl

/-! ### withPending -/

@[simp] theorem State.withPending_phase (x : List Instr) : (s.withPending x).phase = s.phase := rfl
@[simp] theorem State.withPending_tb (x : List Instr) : (s.withPending x).tb = s.tb := rfl
@[simp] theorem State.withPending_due (x : List Instr) : (s.withPending x).due = s.due := rfl
@[simp] theorem State.withPending_refs (x : List Instr) : (s.withPending x).refs = s.refs := rfl
@[simp] theorem State.withPending_sel (x : List Instr) : (s.withPending x).sel = s.sel := rfl
@[simp] theorem State.withPending_dist (x : List Instr) : (s.withPending x).dist = s.dist := rfl
@[simp] theorem State.withPending_lines (x : List Instr) : (s.withPending x).lines = s.lines := rfl
@[simp] theorem State.withPending_modes (x : List Instr) : (s.withPending x).modes = s.modes := rfl
@[simp] theorem State.withPending_ring (x : List Instr) : (s.withPending x).ring = s.ring := rfl
@[simp] theorem State.withPending_trips (x : List Instr) : (s.withPending x).trips = s.trips := rfl
@[simp] theorem State.withPending_tally (x : List Instr) : (s.withPending x).tally = s.tally := rfl
@[simp] theorem State.withPending_journal (x : List Instr) :
    (s.withPending x).journal = s.journal := rfl
@[simp] theorem State.withPending_flash (x : List Instr) : (s.withPending x).flash = s.flash := rfl
@[simp] theorem State.withPending_shift (x : List Instr) : (s.withPending x).shift = s.shift := rfl
@[simp] theorem State.withPending_ports (x : List Instr) : (s.withPending x).ports = s.ports := rfl
@[simp] theorem State.withPending_settings (x : List Instr) :
    (s.withPending x).settings = s.settings := rfl
@[simp] theorem State.withPending_identity (x : List Instr) :
    (s.withPending x).identity = s.identity := rfl
@[simp] theorem State.withPending_freeCount (x : List Instr) :
    (s.withPending x).freeCount = s.freeCount := rfl
@[simp] theorem State.withPending_pending (x : List Instr) : (s.withPending x).pending = x := rfl

/-! ### withOp -/

@[simp] theorem State.withOp_phase (op : FlashOp) : (s.withOp op).phase = s.phase := rfl
@[simp] theorem State.withOp_tb (op : FlashOp) : (s.withOp op).tb = s.tb := rfl
@[simp] theorem State.withOp_due (op : FlashOp) : (s.withOp op).due = s.due := rfl
@[simp] theorem State.withOp_refs (op : FlashOp) : (s.withOp op).refs = s.refs := rfl
@[simp] theorem State.withOp_sel (op : FlashOp) : (s.withOp op).sel = s.sel := rfl
@[simp] theorem State.withOp_dist (op : FlashOp) : (s.withOp op).dist = s.dist := rfl
@[simp] theorem State.withOp_lines (op : FlashOp) : (s.withOp op).lines = s.lines := rfl
@[simp] theorem State.withOp_modes (op : FlashOp) : (s.withOp op).modes = s.modes := rfl
@[simp] theorem State.withOp_ring (op : FlashOp) : (s.withOp op).ring = s.ring := rfl
@[simp] theorem State.withOp_trips (op : FlashOp) : (s.withOp op).trips = s.trips := rfl
@[simp] theorem State.withOp_tally (op : FlashOp) : (s.withOp op).tally = s.tally := rfl
@[simp] theorem State.withOp_journal (op : FlashOp) : (s.withOp op).journal = s.journal := rfl
@[simp] theorem State.withOp_flash (op : FlashOp) :
    (s.withOp op).flash = { s.flash with op := op } := rfl
@[simp] theorem State.withOp_shift (op : FlashOp) : (s.withOp op).shift = s.shift := rfl
@[simp] theorem State.withOp_ports (op : FlashOp) : (s.withOp op).ports = s.ports := rfl
@[simp] theorem State.withOp_settings (op : FlashOp) : (s.withOp op).settings = s.settings := rfl
@[simp] theorem State.withOp_identity (op : FlashOp) : (s.withOp op).identity = s.identity := rfl
@[simp] theorem State.withOp_freeCount (op : FlashOp) : (s.withOp op).freeCount = s.freeCount := rfl
@[simp] theorem State.withOp_pending (op : FlashOp) : (s.withOp op).pending = s.pending := rfl

/-! ### withMem -/

@[simp] theorem State.withMem_phase (m : Memory) : (s.withMem m).phase = s.phase := rfl
@[simp] theorem State.withMem_tb (m : Memory) : (s.withMem m).tb = s.tb := rfl
@[simp] theorem State.withMem_due (m : Memory) : (s.withMem m).due = s.due := rfl
@[simp] theorem State.withMem_refs (m : Memory) : (s.withMem m).refs = s.refs := rfl
@[simp] theorem State.withMem_sel (m : Memory) : (s.withMem m).sel = s.sel := rfl
@[simp] theorem State.withMem_dist (m : Memory) : (s.withMem m).dist = s.dist := rfl
@[simp] theorem State.withMem_lines (m : Memory) : (s.withMem m).lines = s.lines := rfl
@[simp] theorem State.withMem_modes (m : Memory) : (s.withMem m).modes = s.modes := rfl
@[simp] theorem State.withMem_ring (m : Memory) : (s.withMem m).ring = s.ring := rfl
@[simp] theorem State.withMem_trips (m : Memory) : (s.withMem m).trips = s.trips := rfl
@[simp] theorem State.withMem_tally (m : Memory) : (s.withMem m).tally = s.tally := rfl
@[simp] theorem State.withMem_journal (m : Memory) : (s.withMem m).journal = s.journal := rfl
@[simp] theorem State.withMem_flash (m : Memory) :
    (s.withMem m).flash = { s.flash with mem := m } := rfl
@[simp] theorem State.withMem_shift (m : Memory) : (s.withMem m).shift = s.shift := rfl
@[simp] theorem State.withMem_ports (m : Memory) : (s.withMem m).ports = s.ports := rfl
@[simp] theorem State.withMem_settings (m : Memory) : (s.withMem m).settings = s.settings := rfl
@[simp] theorem State.withMem_identity (m : Memory) : (s.withMem m).identity = s.identity := rfl
@[simp] theorem State.withMem_freeCount (m : Memory) : (s.withMem m).freeCount = s.freeCount := rfl
@[simp] theorem State.withMem_pending (m : Memory) : (s.withMem m).pending = s.pending := rfl

/-! ### withStage -/

@[simp] theorem State.withStage_phase (x : PowerFailStage) : (s.withStage x).phase = s.phase := rfl
@[simp] theorem State.withStage_tb (x : PowerFailStage) : (s.withStage x).tb = s.tb := rfl
@[simp] theorem State.withStage_due (x : PowerFailStage) : (s.withStage x).due = s.due := rfl
@[simp] theorem State.withStage_refs (x : PowerFailStage) : (s.withStage x).refs = s.refs := rfl
@[simp] theorem State.withStage_sel (x : PowerFailStage) : (s.withStage x).sel = s.sel := rfl
@[simp] theorem State.withStage_dist (x : PowerFailStage) : (s.withStage x).dist = s.dist := rfl
@[simp] theorem State.withStage_lines (x : PowerFailStage) : (s.withStage x).lines = s.lines := rfl
@[simp] theorem State.withStage_modes (x : PowerFailStage) : (s.withStage x).modes = s.modes := rfl
@[simp] theorem State.withStage_ring (x : PowerFailStage) : (s.withStage x).ring = s.ring := rfl
@[simp] theorem State.withStage_trips (x : PowerFailStage) : (s.withStage x).trips = s.trips := rfl
@[simp] theorem State.withStage_tally (x : PowerFailStage) : (s.withStage x).tally = s.tally := rfl
@[simp] theorem State.withStage_journal (x : PowerFailStage) :
    (s.withStage x).journal = { s.journal with stage := x } := rfl
@[simp] theorem State.withStage_flash (x : PowerFailStage) : (s.withStage x).flash = s.flash := rfl
@[simp] theorem State.withStage_shift (x : PowerFailStage) : (s.withStage x).shift = s.shift := rfl
@[simp] theorem State.withStage_ports (x : PowerFailStage) : (s.withStage x).ports = s.ports := rfl
@[simp] theorem State.withStage_settings (x : PowerFailStage) :
    (s.withStage x).settings = s.settings := rfl
@[simp] theorem State.withStage_identity (x : PowerFailStage) :
    (s.withStage x).identity = s.identity := rfl
@[simp] theorem State.withStage_freeCount (x : PowerFailStage) :
    (s.withStage x).freeCount = s.freeCount := rfl
@[simp] theorem State.withStage_pending (x : PowerFailStage) :
    (s.withStage x).pending = s.pending := rfl

/-! ### withSave -/

@[simp] theorem State.withSave_phase (st : SaveStage) (v : Settings) :
    (s.withSave st v).phase = s.phase := rfl
@[simp] theorem State.withSave_tb (st : SaveStage) (v : Settings) :
    (s.withSave st v).tb = s.tb := rfl
@[simp] theorem State.withSave_due (st : SaveStage) (v : Settings) :
    (s.withSave st v).due = s.due := rfl
@[simp] theorem State.withSave_refs (st : SaveStage) (v : Settings) :
    (s.withSave st v).refs = s.refs := rfl
@[simp] theorem State.withSave_sel (st : SaveStage) (v : Settings) :
    (s.withSave st v).sel = s.sel := rfl
@[simp] theorem State.withSave_dist (st : SaveStage) (v : Settings) :
    (s.withSave st v).dist = s.dist := rfl
@[simp] theorem State.withSave_lines (st : SaveStage) (v : Settings) :
    (s.withSave st v).lines = s.lines := rfl
@[simp] theorem State.withSave_modes (st : SaveStage) (v : Settings) :
    (s.withSave st v).modes = s.modes := rfl
@[simp] theorem State.withSave_ring (st : SaveStage) (v : Settings) :
    (s.withSave st v).ring = s.ring := rfl
@[simp] theorem State.withSave_trips (st : SaveStage) (v : Settings) :
    (s.withSave st v).trips = s.trips := rfl
@[simp] theorem State.withSave_tally (st : SaveStage) (v : Settings) :
    (s.withSave st v).tally = s.tally := rfl
@[simp] theorem State.withSave_journal (st : SaveStage) (v : Settings) :
    (s.withSave st v).journal = s.journal := rfl
@[simp] theorem State.withSave_flash (st : SaveStage) (v : Settings) :
    (s.withSave st v).flash = s.flash := rfl
@[simp] theorem State.withSave_shift (st : SaveStage) (v : Settings) :
    (s.withSave st v).shift = s.shift := rfl
@[simp] theorem State.withSave_ports (st : SaveStage) (v : Settings) :
    (s.withSave st v).ports = s.ports := rfl
@[simp] theorem State.withSave_settings (st : SaveStage) (v : Settings) :
    (s.withSave st v).settings = { s.settings with save := some ⟨st, v⟩ } := rfl
@[simp] theorem State.withSave_identity (st : SaveStage) (v : Settings) :
    (s.withSave st v).identity = s.identity := rfl
@[simp] theorem State.withSave_freeCount (st : SaveStage) (v : Settings) :
    (s.withSave st v).freeCount = s.freeCount := rfl
@[simp] theorem State.withSave_pending (st : SaveStage) (v : Settings) :
    (s.withSave st v).pending = s.pending := rfl

/-! ### setRef -/

@[simp] theorem State.setRef_phase (r : RefId) (x : Reference) :
    (s.setRef r x).phase = s.phase := rfl
@[simp] theorem State.setRef_tb (r : RefId) (x : Reference) : (s.setRef r x).tb = s.tb := rfl
@[simp] theorem State.setRef_due (r : RefId) (x : Reference) : (s.setRef r x).due = s.due := rfl
@[simp] theorem State.setRef_refs (r : RefId) (x : Reference) :
    (s.setRef r x).refs = s.refs.set r x := rfl
@[simp] theorem State.setRef_sel (r : RefId) (x : Reference) : (s.setRef r x).sel = s.sel := rfl
@[simp] theorem State.setRef_dist (r : RefId) (x : Reference) : (s.setRef r x).dist = s.dist := rfl
@[simp] theorem State.setRef_lines (r : RefId) (x : Reference) :
    (s.setRef r x).lines = s.lines := rfl
@[simp] theorem State.setRef_modes (r : RefId) (x : Reference) :
    (s.setRef r x).modes = s.modes := rfl
@[simp] theorem State.setRef_ring (r : RefId) (x : Reference) : (s.setRef r x).ring = s.ring := rfl
@[simp] theorem State.setRef_trips (r : RefId) (x : Reference) :
    (s.setRef r x).trips = s.trips := rfl
@[simp] theorem State.setRef_tally (r : RefId) (x : Reference) :
    (s.setRef r x).tally = s.tally := rfl
@[simp] theorem State.setRef_journal (r : RefId) (x : Reference) :
    (s.setRef r x).journal = s.journal := rfl
@[simp] theorem State.setRef_flash (r : RefId) (x : Reference) :
    (s.setRef r x).flash = s.flash := rfl
@[simp] theorem State.setRef_shift (r : RefId) (x : Reference) :
    (s.setRef r x).shift = s.shift := rfl
@[simp] theorem State.setRef_ports (r : RefId) (x : Reference) :
    (s.setRef r x).ports = s.ports := rfl
@[simp] theorem State.setRef_settings (r : RefId) (x : Reference) :
    (s.setRef r x).settings = s.settings := rfl
@[simp] theorem State.setRef_identity (r : RefId) (x : Reference) :
    (s.setRef r x).identity = s.identity := rfl
@[simp] theorem State.setRef_freeCount (r : RefId) (x : Reference) :
    (s.setRef r x).freeCount = s.freeCount := rfl
@[simp] theorem State.setRef_pending (r : RefId) (x : Reference) :
    (s.setRef r x).pending = s.pending := rfl

/-! ### setLine -/

@[simp] theorem State.setLine_phase (l : LineId) (x : Line) : (s.setLine l x).phase = s.phase := rfl
@[simp] theorem State.setLine_tb (l : LineId) (x : Line) : (s.setLine l x).tb = s.tb := rfl
@[simp] theorem State.setLine_due (l : LineId) (x : Line) : (s.setLine l x).due = s.due := rfl
@[simp] theorem State.setLine_refs (l : LineId) (x : Line) : (s.setLine l x).refs = s.refs := rfl
@[simp] theorem State.setLine_sel (l : LineId) (x : Line) : (s.setLine l x).sel = s.sel := rfl
@[simp] theorem State.setLine_dist (l : LineId) (x : Line) : (s.setLine l x).dist = s.dist := rfl
@[simp] theorem State.setLine_lines (l : LineId) (x : Line) :
    (s.setLine l x).lines = { s.lines with tab := s.lines.tab.set l x } := rfl
@[simp] theorem State.setLine_modes (l : LineId) (x : Line) : (s.setLine l x).modes = s.modes := rfl
@[simp] theorem State.setLine_ring (l : LineId) (x : Line) : (s.setLine l x).ring = s.ring := rfl
@[simp] theorem State.setLine_trips (l : LineId) (x : Line) : (s.setLine l x).trips = s.trips := rfl
@[simp] theorem State.setLine_tally (l : LineId) (x : Line) : (s.setLine l x).tally = s.tally := rfl
@[simp] theorem State.setLine_journal (l : LineId) (x : Line) :
    (s.setLine l x).journal = s.journal := rfl
@[simp] theorem State.setLine_flash (l : LineId) (x : Line) : (s.setLine l x).flash = s.flash := rfl
@[simp] theorem State.setLine_shift (l : LineId) (x : Line) : (s.setLine l x).shift = s.shift := rfl
@[simp] theorem State.setLine_ports (l : LineId) (x : Line) : (s.setLine l x).ports = s.ports := rfl
@[simp] theorem State.setLine_settings (l : LineId) (x : Line) :
    (s.setLine l x).settings = s.settings := rfl
@[simp] theorem State.setLine_identity (l : LineId) (x : Line) :
    (s.setLine l x).identity = s.identity := rfl
@[simp] theorem State.setLine_freeCount (l : LineId) (x : Line) :
    (s.setLine l x).freeCount = s.freeCount := rfl
@[simp] theorem State.setLine_pending (l : LineId) (x : Line) :
    (s.setLine l x).pending = s.pending := rfl

/-! ### setMode -/

@[simp] theorem State.setMode_phase (u : UnitId) (x : UnitMode) :
    (s.setMode u x).phase = s.phase := rfl
@[simp] theorem State.setMode_tb (u : UnitId) (x : UnitMode) : (s.setMode u x).tb = s.tb := rfl
@[simp] theorem State.setMode_due (u : UnitId) (x : UnitMode) : (s.setMode u x).due = s.due := rfl
@[simp] theorem State.setMode_refs (u : UnitId) (x : UnitMode) :
    (s.setMode u x).refs = s.refs := rfl
@[simp] theorem State.setMode_sel (u : UnitId) (x : UnitMode) : (s.setMode u x).sel = s.sel := rfl
@[simp] theorem State.setMode_dist (u : UnitId) (x : UnitMode) :
    (s.setMode u x).dist = s.dist := rfl
@[simp] theorem State.setMode_lines (u : UnitId) (x : UnitMode) :
    (s.setMode u x).lines = s.lines := rfl
@[simp] theorem State.setMode_modes (u : UnitId) (x : UnitMode) :
    (s.setMode u x).modes = s.modes.set u x := rfl
@[simp] theorem State.setMode_ring (u : UnitId) (x : UnitMode) :
    (s.setMode u x).ring = s.ring := rfl
@[simp] theorem State.setMode_trips (u : UnitId) (x : UnitMode) :
    (s.setMode u x).trips = s.trips := rfl
@[simp] theorem State.setMode_tally (u : UnitId) (x : UnitMode) :
    (s.setMode u x).tally = s.tally := rfl
@[simp] theorem State.setMode_journal (u : UnitId) (x : UnitMode) :
    (s.setMode u x).journal = s.journal := rfl
@[simp] theorem State.setMode_flash (u : UnitId) (x : UnitMode) :
    (s.setMode u x).flash = s.flash := rfl
@[simp] theorem State.setMode_shift (u : UnitId) (x : UnitMode) :
    (s.setMode u x).shift = s.shift := rfl
@[simp] theorem State.setMode_ports (u : UnitId) (x : UnitMode) :
    (s.setMode u x).ports = s.ports := rfl
@[simp] theorem State.setMode_settings (u : UnitId) (x : UnitMode) :
    (s.setMode u x).settings = s.settings := rfl
@[simp] theorem State.setMode_identity (u : UnitId) (x : UnitMode) :
    (s.setMode u x).identity = s.identity := rfl
@[simp] theorem State.setMode_freeCount (u : UnitId) (x : UnitMode) :
    (s.setMode u x).freeCount = s.freeCount := rfl
@[simp] theorem State.setMode_pending (u : UnitId) (x : UnitMode) :
    (s.setMode u x).pending = s.pending := rfl

/-! ### setTally -/

@[simp] theorem State.setTally_phase (u : UnitId) (x : UnitTally) :
    (s.setTally u x).phase = s.phase := rfl
@[simp] theorem State.setTally_tb (u : UnitId) (x : UnitTally) : (s.setTally u x).tb = s.tb := rfl
@[simp] theorem State.setTally_due (u : UnitId) (x : UnitTally) :
    (s.setTally u x).due = s.due := rfl
@[simp] theorem State.setTally_refs (u : UnitId) (x : UnitTally) :
    (s.setTally u x).refs = s.refs := rfl
@[simp] theorem State.setTally_sel (u : UnitId) (x : UnitTally) :
    (s.setTally u x).sel = s.sel := rfl
@[simp] theorem State.setTally_dist (u : UnitId) (x : UnitTally) :
    (s.setTally u x).dist = s.dist := rfl
@[simp] theorem State.setTally_lines (u : UnitId) (x : UnitTally) :
    (s.setTally u x).lines = s.lines := rfl
@[simp] theorem State.setTally_modes (u : UnitId) (x : UnitTally) :
    (s.setTally u x).modes = s.modes := rfl
@[simp] theorem State.setTally_ring (u : UnitId) (x : UnitTally) :
    (s.setTally u x).ring = s.ring := rfl
@[simp] theorem State.setTally_trips (u : UnitId) (x : UnitTally) :
    (s.setTally u x).trips = s.trips := rfl
@[simp] theorem State.setTally_tally (u : UnitId) (x : UnitTally) :
    (s.setTally u x).tally = { s.tally with units := s.tally.units.set u x } := rfl
@[simp] theorem State.setTally_journal (u : UnitId) (x : UnitTally) :
    (s.setTally u x).journal = s.journal := rfl
@[simp] theorem State.setTally_flash (u : UnitId) (x : UnitTally) :
    (s.setTally u x).flash = s.flash := rfl
@[simp] theorem State.setTally_shift (u : UnitId) (x : UnitTally) :
    (s.setTally u x).shift = s.shift := rfl
@[simp] theorem State.setTally_ports (u : UnitId) (x : UnitTally) :
    (s.setTally u x).ports = s.ports := rfl
@[simp] theorem State.setTally_settings (u : UnitId) (x : UnitTally) :
    (s.setTally u x).settings = s.settings := rfl
@[simp] theorem State.setTally_identity (u : UnitId) (x : UnitTally) :
    (s.setTally u x).identity = s.identity := rfl
@[simp] theorem State.setTally_freeCount (u : UnitId) (x : UnitTally) :
    (s.setTally u x).freeCount = s.freeCount := rfl
@[simp] theorem State.setTally_pending (u : UnitId) (x : UnitTally) :
    (s.setTally u x).pending = s.pending := rfl

/-! ### setSlot -/

@[simp] theorem State.setSlot_phase (i : SlotId) (f : Option TripFile) :
    (s.setSlot i f).phase = s.phase := rfl
@[simp] theorem State.setSlot_tb (i : SlotId) (f : Option TripFile) :
    (s.setSlot i f).tb = s.tb := rfl
@[simp] theorem State.setSlot_due (i : SlotId) (f : Option TripFile) :
    (s.setSlot i f).due = s.due := rfl
@[simp] theorem State.setSlot_refs (i : SlotId) (f : Option TripFile) :
    (s.setSlot i f).refs = s.refs := rfl
@[simp] theorem State.setSlot_sel (i : SlotId) (f : Option TripFile) :
    (s.setSlot i f).sel = s.sel := rfl
@[simp] theorem State.setSlot_dist (i : SlotId) (f : Option TripFile) :
    (s.setSlot i f).dist = s.dist := rfl
@[simp] theorem State.setSlot_lines (i : SlotId) (f : Option TripFile) :
    (s.setSlot i f).lines = s.lines := rfl
@[simp] theorem State.setSlot_modes (i : SlotId) (f : Option TripFile) :
    (s.setSlot i f).modes = s.modes := rfl
@[simp] theorem State.setSlot_ring (i : SlotId) (f : Option TripFile) :
    (s.setSlot i f).ring = s.ring := rfl
@[simp] theorem State.setSlot_trips (i : SlotId) (f : Option TripFile) :
    (s.setSlot i f).trips = { s.trips with slots := s.trips.slots.set i f } := rfl
@[simp] theorem State.setSlot_tally (i : SlotId) (f : Option TripFile) :
    (s.setSlot i f).tally = s.tally := rfl
@[simp] theorem State.setSlot_journal (i : SlotId) (f : Option TripFile) :
    (s.setSlot i f).journal = s.journal := rfl
@[simp] theorem State.setSlot_flash (i : SlotId) (f : Option TripFile) :
    (s.setSlot i f).flash = s.flash := rfl
@[simp] theorem State.setSlot_shift (i : SlotId) (f : Option TripFile) :
    (s.setSlot i f).shift = s.shift := rfl
@[simp] theorem State.setSlot_ports (i : SlotId) (f : Option TripFile) :
    (s.setSlot i f).ports = s.ports := rfl
@[simp] theorem State.setSlot_settings (i : SlotId) (f : Option TripFile) :
    (s.setSlot i f).settings = s.settings := rfl
@[simp] theorem State.setSlot_identity (i : SlotId) (f : Option TripFile) :
    (s.setSlot i f).identity = s.identity := rfl
@[simp] theorem State.setSlot_freeCount (i : SlotId) (f : Option TripFile) :
    (s.setSlot i f).freeCount = s.freeCount := rfl
@[simp] theorem State.setSlot_pending (i : SlotId) (f : Option TripFile) :
    (s.setSlot i f).pending = s.pending := rfl

/-! ### setPort -/

@[simp] theorem State.setPort_phase (q : Port) (x : PortState) :
    (s.setPort q x).phase = s.phase := rfl
@[simp] theorem State.setPort_tb (q : Port) (x : PortState) : (s.setPort q x).tb = s.tb := rfl
@[simp] theorem State.setPort_due (q : Port) (x : PortState) : (s.setPort q x).due = s.due := rfl
@[simp] theorem State.setPort_refs (q : Port) (x : PortState) : (s.setPort q x).refs = s.refs := rfl
@[simp] theorem State.setPort_sel (q : Port) (x : PortState) : (s.setPort q x).sel = s.sel := rfl
@[simp] theorem State.setPort_dist (q : Port) (x : PortState) : (s.setPort q x).dist = s.dist := rfl
@[simp] theorem State.setPort_lines (q : Port) (x : PortState) :
    (s.setPort q x).lines = s.lines := rfl
@[simp] theorem State.setPort_modes (q : Port) (x : PortState) :
    (s.setPort q x).modes = s.modes := rfl
@[simp] theorem State.setPort_ring (q : Port) (x : PortState) : (s.setPort q x).ring = s.ring := rfl
@[simp] theorem State.setPort_trips (q : Port) (x : PortState) :
    (s.setPort q x).trips = s.trips := rfl
@[simp] theorem State.setPort_tally (q : Port) (x : PortState) :
    (s.setPort q x).tally = s.tally := rfl
@[simp] theorem State.setPort_journal (q : Port) (x : PortState) :
    (s.setPort q x).journal = s.journal := rfl
@[simp] theorem State.setPort_flash (q : Port) (x : PortState) :
    (s.setPort q x).flash = s.flash := rfl
@[simp] theorem State.setPort_shift (q : Port) (x : PortState) :
    (s.setPort q x).shift = s.shift := rfl
@[simp] theorem State.setPort_ports (q : Port) (x : PortState) :
    (s.setPort q x).ports = s.ports.set q x := rfl
@[simp] theorem State.setPort_settings (q : Port) (x : PortState) :
    (s.setPort q x).settings = s.settings := rfl
@[simp] theorem State.setPort_identity (q : Port) (x : PortState) :
    (s.setPort q x).identity = s.identity := rfl
@[simp] theorem State.setPort_freeCount (q : Port) (x : PortState) :
    (s.setPort q x).freeCount = s.freeCount := rfl
@[simp] theorem State.setPort_pending (q : Port) (x : PortState) :
    (s.setPort q x).pending = s.pending := rfl

/-! ### modPort -/

@[simp] theorem State.modPort_phase (q : Port) (f : PortState → PortState) :
    (s.modPort q f).phase = s.phase := rfl
@[simp] theorem State.modPort_tb (q : Port) (f : PortState → PortState) :
    (s.modPort q f).tb = s.tb := rfl
@[simp] theorem State.modPort_due (q : Port) (f : PortState → PortState) :
    (s.modPort q f).due = s.due := rfl
@[simp] theorem State.modPort_refs (q : Port) (f : PortState → PortState) :
    (s.modPort q f).refs = s.refs := rfl
@[simp] theorem State.modPort_sel (q : Port) (f : PortState → PortState) :
    (s.modPort q f).sel = s.sel := rfl
@[simp] theorem State.modPort_dist (q : Port) (f : PortState → PortState) :
    (s.modPort q f).dist = s.dist := rfl
@[simp] theorem State.modPort_lines (q : Port) (f : PortState → PortState) :
    (s.modPort q f).lines = s.lines := rfl
@[simp] theorem State.modPort_modes (q : Port) (f : PortState → PortState) :
    (s.modPort q f).modes = s.modes := rfl
@[simp] theorem State.modPort_ring (q : Port) (f : PortState → PortState) :
    (s.modPort q f).ring = s.ring := rfl
@[simp] theorem State.modPort_trips (q : Port) (f : PortState → PortState) :
    (s.modPort q f).trips = s.trips := rfl
@[simp] theorem State.modPort_tally (q : Port) (f : PortState → PortState) :
    (s.modPort q f).tally = s.tally := rfl
@[simp] theorem State.modPort_journal (q : Port) (f : PortState → PortState) :
    (s.modPort q f).journal = s.journal := rfl
@[simp] theorem State.modPort_flash (q : Port) (f : PortState → PortState) :
    (s.modPort q f).flash = s.flash := rfl
@[simp] theorem State.modPort_shift (q : Port) (f : PortState → PortState) :
    (s.modPort q f).shift = s.shift := rfl
@[simp] theorem State.modPort_ports (q : Port) (f : PortState → PortState) :
    (s.modPort q f).ports = s.ports.set q (f (s.ports.get q)) := rfl
@[simp] theorem State.modPort_settings (q : Port) (f : PortState → PortState) :
    (s.modPort q f).settings = s.settings := rfl
@[simp] theorem State.modPort_identity (q : Port) (f : PortState → PortState) :
    (s.modPort q f).identity = s.identity := rfl
@[simp] theorem State.modPort_freeCount (q : Port) (f : PortState → PortState) :
    (s.modPort q f).freeCount = s.freeCount := rfl
@[simp] theorem State.modPort_pending (q : Port) (f : PortState → PortState) :
    (s.modPort q f).pending = s.pending := rfl

/-! ### raiseAll -/

@[simp] theorem State.raiseAll_phase (k : Notice) : (s.raiseAll k).phase = s.phase := rfl
@[simp] theorem State.raiseAll_tb (k : Notice) : (s.raiseAll k).tb = s.tb := rfl
@[simp] theorem State.raiseAll_due (k : Notice) : (s.raiseAll k).due = s.due := rfl
@[simp] theorem State.raiseAll_refs (k : Notice) : (s.raiseAll k).refs = s.refs := rfl
@[simp] theorem State.raiseAll_sel (k : Notice) : (s.raiseAll k).sel = s.sel := rfl
@[simp] theorem State.raiseAll_dist (k : Notice) : (s.raiseAll k).dist = s.dist := rfl
@[simp] theorem State.raiseAll_lines (k : Notice) : (s.raiseAll k).lines = s.lines := rfl
@[simp] theorem State.raiseAll_modes (k : Notice) : (s.raiseAll k).modes = s.modes := rfl
@[simp] theorem State.raiseAll_ring (k : Notice) : (s.raiseAll k).ring = s.ring := rfl
@[simp] theorem State.raiseAll_trips (k : Notice) : (s.raiseAll k).trips = s.trips := rfl
@[simp] theorem State.raiseAll_tally (k : Notice) : (s.raiseAll k).tally = s.tally := rfl
@[simp] theorem State.raiseAll_journal (k : Notice) : (s.raiseAll k).journal = s.journal := rfl
@[simp] theorem State.raiseAll_flash (k : Notice) : (s.raiseAll k).flash = s.flash := rfl
@[simp] theorem State.raiseAll_shift (k : Notice) : (s.raiseAll k).shift = s.shift := rfl
@[simp] theorem State.raiseAll_ports (k : Notice) :
    (s.raiseAll k).ports = s.ports.map (PortState.raise k) := rfl
@[simp] theorem State.raiseAll_settings (k : Notice) : (s.raiseAll k).settings = s.settings := rfl
@[simp] theorem State.raiseAll_identity (k : Notice) : (s.raiseAll k).identity = s.identity := rfl
@[simp] theorem State.raiseAll_freeCount (k : Notice) :
    (s.raiseAll k).freeCount = s.freeCount := rfl
@[simp] theorem State.raiseAll_pending (k : Notice) : (s.raiseAll k).pending = s.pending := rfl

end Sys2Proof.Machine
end

