-- ==== Sys2Proof/Laws/Records.lean ====
section
/-! SUPPORT. What the shared operations can do: completing a record touches the ring and the ports,
a checkpoint request the journal, and nothing else; which of two seconds is the later one; walking a list
keeps what each of its steps keeps. -/

namespace Sys2Proof.Machine

variable (s : State)

/-! ### Records -/

@[simp] theorem State.discardOldest_phase : s.discardOldest.phase = s.phase := rfl
@[simp] theorem State.discardOldest_tb : s.discardOldest.tb = s.tb := rfl
@[simp] theorem State.discardOldest_due : s.discardOldest.due = s.due := rfl
@[simp] theorem State.discardOldest_refs : s.discardOldest.refs = s.refs := rfl
@[simp] theorem State.discardOldest_sel : s.discardOldest.sel = s.sel := rfl
@[simp] theorem State.discardOldest_dist : s.discardOldest.dist = s.dist := rfl
@[simp] theorem State.discardOldest_lines : s.discardOldest.lines = s.lines := rfl
@[simp] theorem State.discardOldest_modes : s.discardOldest.modes = s.modes := rfl
@[simp] theorem State.discardOldest_trips : s.discardOldest.trips = s.trips := rfl
@[simp] theorem State.discardOldest_tally : s.discardOldest.tally = s.tally := rfl
@[simp] theorem State.discardOldest_journal : s.discardOldest.journal = s.journal := rfl
@[simp] theorem State.discardOldest_flash : s.discardOldest.flash = s.flash := rfl
@[simp] theorem State.discardOldest_shift : s.discardOldest.shift = s.shift := rfl
@[simp] theorem State.discardOldest_settings : s.discardOldest.settings = s.settings := rfl
@[simp] theorem State.discardOldest_identity : s.discardOldest.identity = s.identity := rfl
@[simp] theorem State.discardOldest_freeCount : s.discardOldest.freeCount = s.freeCount := rfl
@[simp] theorem State.discardOldest_pending : s.discardOldest.pending = s.pending := rfl

@[simp] theorem State.complete_phase (e : Entry) : (s.complete e).phase = s.phase := by
  unfold State.complete; split <;> rfl

@[simp] theorem State.complete_tb (e : Entry) : (s.complete e).tb = s.tb := by
  unfold State.complete; split <;> rfl

@[simp] theorem State.complete_due (e : Entry) : (s.complete e).due = s.due := by
  unfold State.complete; split <;> rfl

@[simp] theorem State.complete_refs (e : Entry) : (s.complete e).refs = s.refs := by
  unfold State.complete; split <;> rfl

@[simp] theorem State.complete_sel (e : Entry) : (s.complete e).sel = s.sel := by
  unfold State.complete; split <;> rfl

@[simp] theorem State.complete_dist (e : Entry) : (s.complete e).dist = s.dist := by
  unfold State.complete; split <;> rfl

@[simp] theorem State.complete_lines (e : Entry) : (s.complete e).lines = s.lines := by
  unfold State.complete; split <;> rfl

@[simp] theorem State.complete_modes (e : Entry) : (s.complete e).modes = s.modes := by
  unfold State.complete; split <;> rfl

@[simp] theorem State.complete_trips (e : Entry) : (s.complete e).trips = s.trips := by
  unfold State.complete; split <;> rfl

@[simp] theorem State.complete_tally (e : Entry) : (s.complete e).tally = s.tally := by
  unfold State.complete; split <;> rfl

@[simp] theorem State.complete_journal (e : Entry) : (s.complete e).journal = s.journal := by
  unfold State.complete; split <;> rfl

@[simp] theorem State.complete_flash (e : Entry) : (s.complete e).flash = s.flash := by
  unfold State.complete; split <;> rfl

@[simp] theorem State.complete_shift (e : Entry) : (s.complete e).shift = s.shift := by
  unfold State.complete; split <;> rfl

@[simp] theorem State.complete_settings (e : Entry) : (s.complete e).settings = s.settings := by
  unfold State.complete; split <;> rfl

@[simp] theorem State.complete_identity (e : Entry) : (s.complete e).identity = s.identity := by
  unfold State.complete; split <;> rfl

@[simp] theorem State.complete_freeCount (e : Entry) : (s.complete e).freeCount = s.freeCount := by
  unfold State.complete; split <;> rfl

@[simp] theorem State.complete_pending (e : Entry) : (s.complete e).pending = s.pending := by
  unfold State.complete; split <;> rfl

@[simp] theorem State.append_phase (e : Entry) : (s.append e).phase = s.phase := by
  unfold State.append; split <;> simp

@[simp] theorem State.append_tb (e : Entry) : (s.append e).tb = s.tb := by
  unfold State.append; split <;> simp

@[simp] theorem State.append_due (e : Entry) : (s.append e).due = s.due := by
  unfold State.append; split <;> simp

@[simp] theorem State.append_refs (e : Entry) : (s.append e).refs = s.refs := by
  unfold State.append; split <;> simp

@[simp] theorem State.append_sel (e : Entry) : (s.append e).sel = s.sel := by
  unfold State.append; split <;> simp

@[simp] theorem State.append_dist (e : Entry) : (s.append e).dist = s.dist := by
  unfold State.append; split <;> simp

@[simp] theorem State.append_lines (e : Entry) : (s.append e).lines = s.lines := by
  unfold State.append; split <;> simp

@[simp] theorem State.append_modes (e : Entry) : (s.append e).modes = s.modes := by
  unfold State.append; split <;> simp

@[simp] theorem State.append_trips (e : Entry) : (s.append e).trips = s.trips := by
  unfold State.append; split <;> simp

@[simp] theorem State.append_tally (e : Entry) : (s.append e).tally = s.tally := by
  unfold State.append; split <;> simp

@[simp] theorem State.append_journal (e : Entry) : (s.append e).journal = s.journal := by
  unfold State.append; split <;> simp

@[simp] theorem State.append_flash (e : Entry) : (s.append e).flash = s.flash := by
  unfold State.append; split <;> simp

@[simp] theorem State.append_shift (e : Entry) : (s.append e).shift = s.shift := by
  unfold State.append; split <;> simp

@[simp] theorem State.append_settings (e : Entry) : (s.append e).settings = s.settings := by
  unfold State.append; split <;> simp

@[simp] theorem State.append_identity (e : Entry) : (s.append e).identity = s.identity := by
  unfold State.append; split <;> simp

@[simp] theorem State.append_freeCount (e : Entry) : (s.append e).freeCount = s.freeCount := by
  unfold State.append; split <;> simp

@[simp] theorem State.append_pending (e : Entry) : (s.append e).pending = s.pending := by
  unfold State.append; split <;> simp

@[simp] theorem State.note_phase (k : Kind) (d : BitVec 16) : (s.note k d).phase = s.phase := by
  simp [State.note]

@[simp] theorem State.note_tb (k : Kind) (d : BitVec 16) : (s.note k d).tb = s.tb := by
  simp [State.note]

@[simp] theorem State.note_due (k : Kind) (d : BitVec 16) : (s.note k d).due = s.due := by
  simp [State.note]

@[simp] theorem State.note_refs (k : Kind) (d : BitVec 16) : (s.note k d).refs = s.refs := by
  simp [State.note]

@[simp] theorem State.note_sel (k : Kind) (d : BitVec 16) : (s.note k d).sel = s.sel := by
  simp [State.note]

@[simp] theorem State.note_dist (k : Kind) (d : BitVec 16) : (s.note k d).dist = s.dist := by
  simp [State.note]

@[simp] theorem State.note_lines (k : Kind) (d : BitVec 16) : (s.note k d).lines = s.lines := by
  simp [State.note]

@[simp] theorem State.note_modes (k : Kind) (d : BitVec 16) : (s.note k d).modes = s.modes := by
  simp [State.note]

@[simp] theorem State.note_trips (k : Kind) (d : BitVec 16) : (s.note k d).trips = s.trips := by
  simp [State.note]

@[simp] theorem State.note_tally (k : Kind) (d : BitVec 16) : (s.note k d).tally = s.tally := by
  simp [State.note]

@[simp] theorem State.note_journal (k : Kind) (d : BitVec 16) :
    (s.note k d).journal = s.journal := by
  simp [State.note]

@[simp] theorem State.note_flash (k : Kind) (d : BitVec 16) : (s.note k d).flash = s.flash := by
  simp [State.note]

@[simp] theorem State.note_shift (k : Kind) (d : BitVec 16) : (s.note k d).shift = s.shift := by
  simp [State.note]

@[simp] theorem State.note_settings (k : Kind) (d : BitVec 16) :
    (s.note k d).settings = s.settings := by
  simp [State.note]

@[simp] theorem State.note_identity (k : Kind) (d : BitVec 16) :
    (s.note k d).identity = s.identity := by
  simp [State.note]

@[simp] theorem State.note_freeCount (k : Kind) (d : BitVec 16) :
    (s.note k d).freeCount = s.freeCount := by
  simp [State.note]

@[simp] theorem State.note_pending (k : Kind) (d : BitVec 16) :
    (s.note k d).pending = s.pending := by
  simp [State.note]

@[simp] theorem State.noteUnit_phase (k : Kind) (u : UnitId) (t : Stamp) (d : BitVec 16) (b : Bool) :
    (s.noteUnit k u t d b).phase = s.phase := by
  simp [State.noteUnit]

@[simp] theorem State.noteUnit_tb (k : Kind) (u : UnitId) (t : Stamp) (d : BitVec 16) (b : Bool) :
    (s.noteUnit k u t d b).tb = s.tb := by
  simp [State.noteUnit]

@[simp] theorem State.noteUnit_due (k : Kind) (u : UnitId) (t : Stamp) (d : BitVec 16) (b : Bool) :
    (s.noteUnit k u t d b).due = s.due := by
  simp [State.noteUnit]

@[simp] theorem State.noteUnit_refs (k : Kind) (u : UnitId) (t : Stamp) (d : BitVec 16) (b : Bool) :
    (s.noteUnit k u t d b).refs = s.refs := by
  simp [State.noteUnit]

@[simp] theorem State.noteUnit_sel (k : Kind) (u : UnitId) (t : Stamp) (d : BitVec 16) (b : Bool) :
    (s.noteUnit k u t d b).sel = s.sel := by
  simp [State.noteUnit]

@[simp] theorem State.noteUnit_dist (k : Kind) (u : UnitId) (t : Stamp) (d : BitVec 16) (b : Bool) :
    (s.noteUnit k u t d b).dist = s.dist := by
  simp [State.noteUnit]

@[simp] theorem State.noteUnit_lines (k : Kind) (u : UnitId) (t : Stamp) (d : BitVec 16) (b : Bool) :
    (s.noteUnit k u t d b).lines = s.lines := by
  simp [State.noteUnit]

@[simp] theorem State.noteUnit_modes (k : Kind) (u : UnitId) (t : Stamp) (d : BitVec 16) (b : Bool) :
    (s.noteUnit k u t d b).modes = s.modes := by
  simp [State.noteUnit]

@[simp] theorem State.noteUnit_trips (k : Kind) (u : UnitId) (t : Stamp) (d : BitVec 16) (b : Bool) :
    (s.noteUnit k u t d b).trips = s.trips := by
  simp [State.noteUnit]

@[simp] theorem State.noteUnit_tally (k : Kind) (u : UnitId) (t : Stamp) (d : BitVec 16) (b : Bool) :
    (s.noteUnit k u t d b).tally = s.tally := by
  simp [State.noteUnit]

@[simp] theorem State.noteUnit_journal (k : Kind) (u : UnitId) (t : Stamp) (d : BitVec 16) (b : Bool) :
    (s.noteUnit k u t d b).journal = s.journal := by
  simp [State.noteUnit]

@[simp] theorem State.noteUnit_flash (k : Kind) (u : UnitId) (t : Stamp) (d : BitVec 16) (b : Bool) :
    (s.noteUnit k u t d b).flash = s.flash := by
  simp [State.noteUnit]

@[simp] theorem State.noteUnit_shift (k : Kind) (u : UnitId) (t : Stamp) (d : BitVec 16) (b : Bool) :
    (s.noteUnit k u t d b).shift = s.shift := by
  simp [State.noteUnit]

@[simp] theorem State.noteUnit_settings (k : Kind) (u : UnitId) (t : Stamp) (d : BitVec 16) (b : Bool) :
    (s.noteUnit k u t d b).settings = s.settings := by
  simp [State.noteUnit]

@[simp] theorem State.noteUnit_identity (k : Kind) (u : UnitId) (t : Stamp) (d : BitVec 16) (b : Bool) :
    (s.noteUnit k u t d b).identity = s.identity := by
  simp [State.noteUnit]

@[simp] theorem State.noteUnit_freeCount (k : Kind) (u : UnitId) (t : Stamp) (d : BitVec 16) (b : Bool) :
    (s.noteUnit k u t d b).freeCount = s.freeCount := by
  simp [State.noteUnit]

@[simp] theorem State.noteUnit_pending (k : Kind) (u : UnitId) (t : Stamp) (d : BitVec 16) (b : Bool) :
    (s.noteUnit k u t d b).pending = s.pending := by
  simp [State.noteUnit]

/-- A record handed after START takes the next sequence and stands last (R95). -/
theorem State.append_started (e : Entry) (h : s.ring.started = true) :
    s.append e = s.complete e := by
  simp [State.append, h]

/-- A record handed before START is held, in order (R110). -/
theorem State.append_held (e : Entry) (h : s.ring.started = false) :
    s.append e = s.withRing { s.ring with deferred := s.ring.deferred ++ [e] } := by
  simp [State.append, h]

/-- Completing a record while there is room (R95). -/
theorem State.complete_room (e : Entry) (h : s.ring.records.length < Config.ringSize) :
    s.complete e = s.withRing { s.ring with
      records := s.ring.records ++ [e.record s.ring.next (s.stepNear e.stamp.runClock)]
      next := s.ring.next + 1
      writePos := (s.ring.writePos + 1) % Config.ringSize } := by
  simp [State.complete, h]

/-- Completing a record raises the next sequence by 1 (R95, R96). -/
@[simp] theorem State.complete_ring_next (e : Entry) :
    (s.complete e).ring.next = s.ring.next + 1 := by
  unfold State.complete; split <;> rfl

@[simp] theorem State.complete_ring_started (e : Entry) :
    (s.complete e).ring.started = s.ring.started := by
  unfold State.complete; split <;> rfl

@[simp] theorem State.append_ring_started (e : Entry) :
    (s.append e).ring.started = s.ring.started := by
  unfold State.append
  split
  · simp
  · rfl

/-- Completing a record changes no port but for a LOSS latch (R99). -/
theorem State.complete_port (e : Entry) (q : Port) :
    (s.complete e).ports.get q = s.ports.get q
      ∨ (s.complete e).ports.get q = (s.ports.get q).raise .loss := by
  unfold State.complete
  split
  · exact Or.inl rfl
  · simp only [State.withRing_ports, State.discardOldest]
    cases q <;> simp only [PerPort.map2, PerPort.get] <;> split <;> simp

/-! ### Checkpoint requests -/

@[simp] theorem State.requestCheckpoint_phase (c : Cause) :
    (s.requestCheckpoint c).phase = s.phase := by
  unfold State.requestCheckpoint; split <;> rfl

@[simp] theorem State.requestCheckpoint_tb (c : Cause) :
    (s.requestCheckpoint c).tb = s.tb := by
  unfold State.requestCheckpoint; split <;> rfl

@[simp] theorem State.requestCheckpoint_due (c : Cause) :
    (s.requestCheckpoint c).due = s.due := by
  unfold State.requestCheckpoint; split <;> rfl

@[simp] theorem State.requestCheckpoint_refs (c : Cause) :
    (s.requestCheckpoint c).refs = s.refs := by
  unfold State.requestCheckpoint; split <;> rfl

@[simp] theorem State.requestCheckpoint_sel (c : Cause) :
    (s.requestCheckpoint c).sel = s.sel := by
  unfold State.requestCheckpoint; split <;> rfl

@[simp] theorem State.requestCheckpoint_dist (c : Cause) :
    (s.requestCheckpoint c).dist = s.dist := by
  unfold State.requestCheckpoint; split <;> rfl

@[simp] theorem State.requestCheckpoint_lines (c : Cause) :
    (s.requestCheckpoint c).lines = s.lines := by
  unfold State.requestCheckpoint; split <;> rfl

@[simp] theorem State.requestCheckpoint_modes (c : Cause) :
    (s.requestCheckpoint c).modes = s.modes := by
  unfold State.requestCheckpoint; split <;> rfl

@[simp] theorem State.requestCheckpoint_ring (c : Cause) :
    (s.requestCheckpoint c).ring = s.ring := by
  unfold State.requestCheckpoint; split <;> rfl

@[simp] theorem State.requestCheckpoint_trips (c : Cause) :
    (s.requestCheckpoint c).trips = s.trips := by
  unfold State.requestCheckpoint; split <;> rfl

@[simp] theorem State.requestCheckpoint_tally (c : Cause) :
    (s.requestCheckpoint c).tally = s.tally := by
  unfold State.requestCheckpoint; split <;> rfl

@[simp] theorem State.requestCheckpoint_flash (c : Cause) :
    (s.requestCheckpoint c).flash = s.flash := by
  unfold State.requestCheckpoint; split <;> rfl

@[simp] theorem State.requestCheckpoint_shift (c : Cause) :
    (s.requestCheckpoint c).shift = s.shift := by
  unfold State.requestCheckpoint; split <;> rfl

@[simp] theorem State.requestCheckpoint_ports (c : Cause) :
    (s.requestCheckpoint c).ports = s.ports := by
  unfold State.requestCheckpoint; split <;> rfl

@[simp] theorem State.requestCheckpoint_settings (c : Cause) :
    (s.requestCheckpoint c).settings = s.settings := by
  unfold State.requestCheckpoint; split <;> rfl

@[simp] theorem State.requestCheckpoint_identity (c : Cause) :
    (s.requestCheckpoint c).identity = s.identity := by
  unfold State.requestCheckpoint; split <;> rfl

@[simp] theorem State.requestCheckpoint_freeCount (c : Cause) :
    (s.requestCheckpoint c).freeCount = s.freeCount := by
  unfold State.requestCheckpoint; split <;> rfl

@[simp] theorem State.requestCheckpoint_pending (c : Cause) :
    (s.requestCheckpoint c).pending = s.pending := by
  unfold State.requestCheckpoint; split <;> rfl

/-- A risen count sets the mark, and at most adds the cause COUNT (R134, R150). -/
theorem State.countRose_cases :
    s.countRose = s.withJournal { s.journal with countChanged := true }
      ∨ s.countRose
        = (s.withJournal { s.journal with countChanged := true }).requestCheckpoint .count := by
  unfold State.countRose
  generalize Config.countPace = pace
  by_cases h : s.journal.since + pace ≤ s.tb.runClock
  · exact Or.inr (by simp only [h, if_true])
  · exact Or.inl (by simp only [h, if_false])

@[simp] theorem State.countRose_phase : s.countRose.phase = s.phase := by
  rcases s.countRose_cases with h | h <;> rw [h] <;> simp

@[simp] theorem State.countRose_tb : s.countRose.tb = s.tb := by
  rcases s.countRose_cases with h | h <;> rw [h] <;> simp

@[simp] theorem State.countRose_due : s.countRose.due = s.due := by
  rcases s.countRose_cases with h | h <;> rw [h] <;> simp

@[simp] theorem State.countRose_refs : s.countRose.refs = s.refs := by
  rcases s.countRose_cases with h | h <;> rw [h] <;> simp

@[simp] theorem State.countRose_sel : s.countRose.sel = s.sel := by
  rcases s.countRose_cases with h | h <;> rw [h] <;> simp

@[simp] theorem State.countRose_dist : s.countRose.dist = s.dist := by
  rcases s.countRose_cases with h | h <;> rw [h] <;> simp

@[simp] theorem State.countRose_lines : s.countRose.lines = s.lines := by
  rcases s.countRose_cases with h | h <;> rw [h] <;> simp

@[simp] theorem State.countRose_modes : s.countRose.modes = s.modes := by
  rcases s.countRose_cases with h | h <;> rw [h] <;> simp

@[simp] theorem State.countRose_ring : s.countRose.ring = s.ring := by
  rcases s.countRose_cases with h | h <;> rw [h] <;> simp

@[simp] theorem State.countRose_trips : s.countRose.trips = s.trips := by
  rcases s.countRose_cases with h | h <;> rw [h] <;> simp

@[simp] theorem State.countRose_tally : s.countRose.tally = s.tally := by
  rcases s.countRose_cases with h | h <;> rw [h] <;> simp

@[simp] theorem State.countRose_flash : s.countRose.flash = s.flash := by
  rcases s.countRose_cases with h | h <;> rw [h] <;> simp

@[simp] theorem State.countRose_shift : s.countRose.shift = s.shift := by
  rcases s.countRose_cases with h | h <;> rw [h] <;> simp

@[simp] theorem State.countRose_ports : s.countRose.ports = s.ports := by
  rcases s.countRose_cases with h | h <;> rw [h] <;> simp

@[simp] theorem State.countRose_settings : s.countRose.settings = s.settings := by
  rcases s.countRose_cases with h | h <;> rw [h] <;> simp

@[simp] theorem State.countRose_identity : s.countRose.identity = s.identity := by
  rcases s.countRose_cases with h | h <;> rw [h] <;> simp

@[simp] theorem State.countRose_freeCount : s.countRose.freeCount = s.freeCount := by
  rcases s.countRose_cases with h | h <;> rw [h] <;> simp

@[simp] theorem State.countRose_pending : s.countRose.pending = s.pending := by
  rcases s.countRose_cases with h | h <;> rw [h] <;> simp

/-- A request adds its cause to the pending set, unless the journal is FAILED (R149). -/
theorem State.requestCheckpoint_journal (c : Cause) (h : s.journal.state ≠ .failed) :
    (s.requestCheckpoint c).journal
      = { s.journal with pending := s.journal.pending ||| c.bit } := by
  simp [State.requestCheckpoint, h]

theorem State.requestCheckpoint_failed (c : Cause) (h : s.journal.state = .failed) :
    s.requestCheckpoint c = s := by
  simp [State.requestCheckpoint, h]

/-! ### The later of two seconds -/

/-- The order in which the two seconds are named matters only at the distance that R166 leaves open,
exactly 2^31 s (R170; log 56). -/
theorem laterOf_comm {a b : Second} (h : a - b ≠ 2147483648) : laterOf a b = laterOf b a := by
  simp only [laterOf, reached, decide_eq_true_eq]
  split <;> split <;> bv_omega

/-! ### Walking a list -/

/-- What each step keeps, the walk keeps. -/
theorem State.forEach_keeps {ι : Type} (p : State → Prop) (xs : List ι) (f : ι → State → State)
    (h : ∀ x t, p t → p (f x t)) {t : State} (ht : p t) : p (t.forEach xs f) := by
  unfold State.forEach
  induction xs generalizing t with
  | nil => exact ht
  | cons x rest ih => exact ih (h x t ht)

/-- A walk whose steps leave a value unchanged leaves it unchanged. -/
theorem State.forEach_same {ι α : Type} (v : State → α) (xs : List ι) (f : ι → State → State)
    (h : ∀ x t, v (f x t) = v t) (t : State) : v (t.forEach xs f) = v t :=
  State.forEach_keeps (fun u => v u = v t) xs f (fun x u hu => (h x u).trans hu) rfl

theorem State.forEach_nil {ι : Type} (f : ι → State → State) : s.forEach [] f = s := rfl

theorem State.forEach_cons {ι : Type} (x : ι) (xs : List ι) (f : ι → State → State) :
    s.forEach (x :: xs) f = (f x s).forEach xs f := rfl

end Sys2Proof.Machine
end

