-- ==== Sys2Proof/Laws/Frames.lean ====
section
/-! SUPPORT. What each shared operation can change: one lemma for each, naming the parts of the state
that may differ. Proofs about meanings rewrite with these in place of unfolding the operations. -/

namespace Sys2Proof.Machine

variable (s : State)

/-! ### Records and notices -/

theorem State.complete_frame (e : Entry) :
    ∃ (r : Ring) (p : PerPort PortState), s.complete e = { s with ring := r, ports := p } := by
  unfold State.complete
  split
  · exact ⟨_, s.ports, rfl⟩
  · exact ⟨_, _, rfl⟩

theorem State.append_frame (e : Entry) :
    ∃ (r : Ring) (p : PerPort PortState), s.append e = { s with ring := r, ports := p } := by
  unfold State.append
  split
  · exact s.complete_frame e
  · exact ⟨_, s.ports, rfl⟩

theorem State.note_frame (k : Kind) (d : BitVec 16) :
    ∃ (r : Ring) (p : PerPort PortState), s.note k d = { s with ring := r, ports := p } :=
  s.append_frame _

theorem State.noteUnit_frame (k : Kind) (u : UnitId) (x : Stamp) (d : BitVec 16) (b : Bool) :
    ∃ (r : Ring) (p : PerPort PortState),
      s.noteUnit k u x d b = { s with ring := r, ports := p } :=
  s.append_frame _

theorem State.raiseAll_frame (k : Notice) :
    s.raiseAll k = { s with ports := (s.raiseAll k).ports } := rfl

/-! ### Checkpoint requests -/

theorem State.requestCheckpoint_frame (c : Cause) :
    ∃ j : Journal, s.requestCheckpoint c = { s with journal := j } := by
  unfold State.requestCheckpoint
  split
  · exact ⟨s.journal, rfl⟩
  · exact ⟨_, rfl⟩

theorem State.countRose_frame : ∃ j : Journal, s.countRose = { s with journal := j } := by
  rcases s.countRose_cases with h | h
  · exact ⟨_, h⟩
  · obtain ⟨j, hj⟩ :=
      (s.withJournal { s.journal with countChanged := true }).requestCheckpoint_frame .count
    exact ⟨j, by rw [h, hj]; rfl⟩

theorem State.noteRise_frame (n : Nat) : ∃ j : Journal, s.noteRise n = { s with journal := j } := by
  unfold State.noteRise
  split
  · exact s.countRose_frame
  · exact ⟨s.journal, rfl⟩

/-- A risen count is told to the journal (R134, R150). -/
theorem State.countRose_eq : s.countRose = s.withJournal (s.journalTold true) := by
  unfold State.countRose State.requestCheckpoint State.journalTold Journal.since
  have hp : Config.countPace = 10000000000 := rfl
  rw [hp]
  cases hl : s.journal.lastCapture <;> by_cases hf : s.journal.state = .failed
  all_goals simp only [Option.getD_none, Option.getD_some, State.withJournal, hf, hl, if_true,
    if_false, ne_eq, not_true_eq_false, not_false_eq_true, and_true, and_false]
  all_goals split <;> rfl

/-- A hand-off tells the journal of a rise unless the count stands at its cap (R134). -/
theorem State.noteRise_eq (count : Nat) :
    s.noteRise count = s.withJournal (s.journalTold (Decidable.decide (count < Config.countCap))) := by
  unfold State.noteRise
  split
  · rename_i h
    rw [decide_eq_true h, s.countRose_eq]
  · rename_i h
    rw [decide_eq_false h]
    rfl

/-! ### The class and the alarm -/

theorem State.reviewAlarm_frame (old : Nat) :
    ∃ (a : Bool) (r : Ring) (p : PerPort PortState),
      s.reviewAlarm old = { s with tb := { s.tb with alarm := a }, ring := r, ports := p } := by
  unfold State.reviewAlarm
  simp only
  split
  · exact ⟨s.tb.alarm, s.ring, s.ports, rfl⟩
  · obtain ⟨r, p, h⟩ := (s.withTb { s.tb with
      alarm := Decidable.decide (s.settings.working.alarmClass < s.cls) }).note_frame .quality
        (datumOf old s.cls)
    exact ⟨_, r, _, by rw [h]; rfl⟩

theorem State.reviewAlarm_alarm (old : Nat) :
    (s.reviewAlarm old).tb.alarm = Decidable.decide (s.settings.working.alarmClass < s.cls) := by
  unfold State.reviewAlarm
  simp only
  split
  · rename_i h; exact h.symm
  · simp

theorem State.classMoved_frame (old : Nat) :
    ∃ (a : Bool) (x : Shift) (r : Ring) (p : PerPort PortState),
      s.classMoved old
        = { s with tb := { s.tb with alarm := a }, shift := x, ring := r, ports := p } := by
  unfold State.classMoved
  split
  · exact ⟨s.tb.alarm, s.shift, s.ring, s.ports, rfl⟩
  · obtain ⟨a, r, p, h⟩ := s.shiftSeesClass.reviewAlarm_frame old
    exact ⟨a, s.shiftSeesClass.shift, r, p, by rw [h]; rfl⟩

/-! ### The schedule -/

theorem State.fallDue_frame :
    ∃ (x : Shift) (r : Ring) (p : PerPort PortState),
      s.fallDue = { s with shift := x, ring := r, ports := p } := by
  unfold State.fallDue State.noteHandover
  simp only
  generalize hx : State.withShift s _ = t
  obtain ⟨r, p, h⟩ := t.note_frame .handover (datumOf Subkind.due.code s.shift.identity.crew.toNat)
  exact ⟨t.shift, r, _, by rw [h, ← hx]; rfl⟩

theorem State.missInstant_frame :
    ∃ (x : Shift) (r : Ring) (p : PerPort PortState),
      s.missInstant = { s with shift := x, ring := r, ports := p } := by
  unfold State.missInstant State.noteHandover
  simp only
  generalize hx : State.withShift _ _ = t
  obtain ⟨r, p, h⟩ := t.note_frame .handover (datumOf Subkind.missed.code s.shift.identity.crew.toNat)
  exact ⟨t.shift, r, _, by rw [h, ← hx]; rfl⟩

theorem State.evaluateSchedule_frame :
    ∃ (x : Shift) (r : Ring) (p : PerPort PortState),
      s.evaluateSchedule = { s with shift := x, ring := r, ports := p } := by
  have same : ∃ (x : Shift) (r : Ring) (p : PerPort PortState),
      s = { s with shift := x, ring := r, ports := p } := ⟨s.shift, s.ring, s.ports, rfl⟩
  unfold State.evaluateSchedule
  repeat' split
  all_goals first
    | exact same
    | exact s.fallDue_frame
    | exact s.missInstant_frame

theorem State.makeStepKnown_frame :
    ∃ (d : Distribution) (x : Shift) (r : Ring) (p : PerPort PortState),
      s.makeStepKnown = { s with dist := d, shift := x, ring := r, ports := p } := by
  unfold State.makeStepKnown State.shiftStepKnown
  generalize hx : State.modSummary _ _ = t
  obtain ⟨x, r, p, h⟩ := t.evaluateSchedule_frame
  exact ⟨_, x, r, p, by rw [h, ← hx]; rfl⟩

/-! ### Selection -/

theorem State.recordSelection_frame (new : Option RefId) :
    ∃ (r : Ring) (p : PerPort PortState),
      s.recordSelection new
        = { s with sel := { s.sel with selected := new }, ring := r, ports := p } := by
  unfold State.recordSelection
  simp only
  generalize hx : State.withSel s _ = t
  obtain ⟨r, p, h⟩ := t.note_frame .refSelect (datumOf s.sel.mode.code (selectionCode new))
  exact ⟨r, _, by rw [h, ← hx]; rfl⟩

theorem State.selectionMoved_frame (old new : Option RefId) :
    ∃ (t : Timebase) (l : PerPort Bool),
      s.selectionMoved old new = { s with tb := t, sel := { s.sel with lost := l } } := by
  unfold State.selectionMoved
  repeat' split
  all_goals first
    | exact ⟨s.tb, s.sel.lost, rfl⟩
    | exact ⟨_, s.sel.lost, rfl⟩
    | exact ⟨_, _, rfl⟩

theorem State.evaluateSelection_frame :
    ∃ (t : Timebase) (x : Option RefId) (l : PerPort Bool) (r : Ring) (p : PerPort PortState),
      s.evaluateSelection
        = { s with tb := t, sel := { s.sel with selected := x, lost := l }, ring := r, ports := p } := by
  unfold State.evaluateSelection
  split
  · exact ⟨s.tb, s.sel.selected, s.sel.lost, s.ring, s.ports, rfl⟩
  · obtain ⟨r, p, h⟩ := s.recordSelection_frame s.choice
    obtain ⟨t, l, h2⟩ := (s.recordSelection s.choice).selectionMoved_frame s.sel.selected s.choice
    exact ⟨t, s.choice, l, r, p, by rw [h2, h]⟩

theorem State.recordRefState_frame (r : RefId) (new : RefState) :
    ∃ (g : Ring) (p : PerPort PortState),
      s.recordRefState r new
        = { s with refs := s.refs.set r { s.ref r with state := new }, ring := g, ports := p } := by
  unfold State.recordRefState
  generalize hx : State.setRef s _ _ = t
  obtain ⟨g, p, h⟩ := t.note_frame .refState (datumOf r.code new.code)
  exact ⟨g, p, by rw [h, ← hx]; rfl⟩

theorem State.moveDisagree_frame (flag : Bool) :
    ∃ (r : Ring) (p : PerPort PortState),
      s.moveDisagree flag
        = { s with
            sel := { s.sel with disagree := flag, disagreeCount := 0, agreeCount := 0 }
            ring := r, ports := p } := by
  unfold State.moveDisagree
  simp only
  generalize hx : State.withSel s _ = t
  obtain ⟨r, p, h⟩ := t.note_frame .disagree (BitVec.ofNat 16 flag.toNat)
  exact ⟨r, _, by rw [h, ← hx]; rfl⟩

theorem State.dropComparison_frame :
    ∃ (t : Timebase) (x : Selection) (r : Ring) (p : PerPort PortState),
      s.dropComparison = { s with tb := t, sel := x, ring := r, ports := p } := by
  unfold State.dropComparison
  simp only
  split
  · generalize hx : State.withSel s _ = t
    obtain ⟨r, p, h⟩ := t.moveDisagree_frame false
    obtain ⟨tb, x, l, r', p', h2⟩ := (t.moveDisagree false).evaluateSelection_frame
    exact ⟨tb, _, r', p', by rw [h2, h, ← hx]; rfl⟩
  · exact ⟨s.tb, _, s.ring, s.ports, rfl⟩

/-- A change of a reference's state moves that reference, the selection and what hears of it. -/
theorem State.moveRef_frame (r : RefId) (new : RefState) :
    ∃ (t : Timebase) (x : Selection) (g : Ring) (p : PerPort PortState),
      s.moveRef r new
        = { s with
            refs := s.refs.set r { s.ref r with state := new }
            tb := t, sel := x, ring := g, ports := p } := by
  unfold State.moveRef
  split
  · rename_i h
    refine ⟨s.tb, s.sel, s.ring, s.ports, ?_⟩
    have : s.refs.set r { s.ref r with state := new } = s.refs := by
      subst h; cases r <;> rfl
    rw [this]
  · obtain ⟨g, p, h⟩ := s.recordRefState_frame r new
    simp only
    split
    · generalize hx : (if s.sel.selected = some r then (s.recordRefState r new).setLost
        else s.recordRefState r new) = w
      have hw : ∃ x : Selection, w = { s with
          refs := s.refs.set r { s.ref r with state := new }, sel := x, ring := g, ports := p } := by
        rw [← hx, h]
        split
        · exact ⟨_, rfl⟩
        · exact ⟨s.sel, rfl⟩
      obtain ⟨x, hw⟩ := hw
      obtain ⟨t, y, l, g1, p1, h1⟩ := w.evaluateSelection_frame
      obtain ⟨t2, x2, g2, p2, h2⟩ := w.evaluateSelection.dropComparison_frame
      exact ⟨t2, x2, g2, p2, by rw [h2, h1, hw]⟩
    · split
      · obtain ⟨t, y, l, g1, p1, h1⟩ := (s.recordRefState r new).evaluateSelection_frame
        exact ⟨t, _, g1, p1, by rw [h1, h]⟩
      · exact ⟨s.tb, s.sel, g, p, h⟩

/-! ### Readings and captures (R4, R5) -/

/-- What readings and captures of the present cycle are made of. -/
theorem State.reading_congr {s t : State} (second : s.tb.cycleSecond = t.tb.cycleSecond)
    (nanos : s.tb.cycleNanos = t.tb.cycleNanos) (cls : s.tb.cycleClass = t.tb.cycleClass)
    (clock : s.tb.runClock = t.tb.runClock) : s.reading = t.reading ∧ s.capture = t.capture := by
  simp [State.reading, State.capture, second, nanos, cls, clock]

@[simp] theorem Timebase.grown_cycleSecond (t : Timebase) (h : Nat) :
    (t.grown h).cycleSecond = t.cycleSecond := by unfold Timebase.grown; split <;> rfl

@[simp] theorem Timebase.grown_cycleNanos (t : Timebase) (h : Nat) :
    (t.grown h).cycleNanos = t.cycleNanos := by unfold Timebase.grown; split <;> rfl

@[simp] theorem Timebase.grown_cycleClass (t : Timebase) (h : Nat) :
    (t.grown h).cycleClass = t.cycleClass := by unfold Timebase.grown; split <;> rfl

@[simp] theorem Timebase.grown_runClock (t : Timebase) (h : Nat) :
    (t.grown h).runClock = t.runClock := by unfold Timebase.grown; split <;> rfl

theorem State.growUncertainty_readings :
    s.growUncertainty.reading = s.reading ∧ s.growUncertainty.capture = s.capture := by
  obtain ⟨a, x, r, p, h⟩ :=
    (s.withTb (s.tb.grown s.settings.working.holdoverDrift)).classMoved_frame s.cls
  unfold State.growUncertainty
  rw [h]
  apply State.reading_congr <;> simp [State.withTb]

/-- A second boundary leaves the readings of its cycle alone: they show it from the cycle's start. -/
theorem State.secondBoundary_readings :
    s.secondBoundary.reading = s.reading ∧ s.secondBoundary.capture = s.capture := by
  unfold State.secondBoundary
  split
  · obtain ⟨x, r, p, h⟩ :=
      (s.withDue { s.due with second := false }).growUncertainty.beginStrobe.evaluateSchedule_frame
    rw [h]
    exact (s.withDue { s.due with second := false }).growUncertainty_readings
  · exact ⟨rfl, rfl⟩

/-- The hand-offs of a step leave the cycle fields of the stepped Timebase as they were. -/
theorem State.handStepOff_tb (t : Timebase) (kind : Kind) (datum : BitVec 16) :
    ∃ alarm : Bool, (s.handStepOff t kind datum).tb = { t with alarm := alarm } := by
  unfold State.handStepOff
  simp only
  obtain ⟨r, p, h⟩ := (s.withTb (t.readAs t.cls)).note_frame kind datum
  generalize hu : State.raiseAll _ _ = u
  have hb : u.tb = t.readAs t.cls := by rw [← hu, h]; rfl
  obtain ⟨a, x, r2, p2, h2⟩ := u.classMoved_frame s.cls
  obtain ⟨d, x3, r3, p3, h3⟩ := (u.classMoved s.cls).makeStepKnown_frame
  exact ⟨a, by rw [h3, h2]; simp [State.withTb, hb, Timebase.readAs]⟩

/-- Everything read and captured in one cycle is read alike, though a step lies between (R4, R5, R61). -/
theorem State.stepTime_readings (e : Int) (claim : Nat) :
    (s.stepTime e claim).reading = s.reading ∧ (s.stepTime e claim).capture = s.capture := by
  obtain ⟨a, h⟩ := s.secondBoundary.handStepOff_tb
    (s.secondBoundary.tb.stepped e claim) .timeStep (stepDatum e)
  have read := State.reading_congr (s := s.stepTime e claim) (t := s.secondBoundary)
    (congrArg Timebase.cycleSecond h :) (congrArg Timebase.cycleNanos h :)
    (congrArg Timebase.cycleClass h :) (congrArg Timebase.runClock h :)
  exact ⟨read.1.trans s.secondBoundary_readings.1, read.2.trans s.secondBoundary_readings.2⟩

end Sys2Proof.Machine
end

