-- ==== Sys2Proof/Laws/Memory.lean ====
section
/-! SUPPORT. The flash array: every operation keeps the canonical form, and what a byte reads as after
a stretch has been replaced. -/

namespace Sys2Proof.Machine

/-- The canonical form as a statement about pairs of cells and about each cell. -/
def Memory.Canonical (m : Memory) : Prop :=
  m.Pairwise (fun c d => c.1 < d.1) ∧ ∀ c ∈ m, c.2 ≠ Memory.erased

theorem Memory.wf_iff (m : Memory) : Memory.wf m = true ↔ Memory.Canonical m := by
  induction m with
  | nil => simp [Memory.wf, Memory.Canonical]
  | cons c m ih =>
    obtain ⟨a, v⟩ := c
    cases m with
    | nil => simp [Memory.wf, Memory.Canonical]
    | cons d rest =>
      obtain ⟨b, w⟩ := d
      simp only [Memory.wf, Bool.and_eq_true, decide_eq_true_eq, ih, bne_iff_ne]
      constructor
      · rintro ⟨⟨hab, hv⟩, hp, hne⟩
        refine ⟨List.pairwise_cons.2 ⟨?_, hp⟩, ?_⟩
        · intro e he
          rcases List.mem_cons.1 he with h | h
          · rw [h]; exact hab
          · exact Nat.lt_trans hab ((List.pairwise_cons.1 hp).1 e h)
        · intro e he
          rcases List.mem_cons.1 he with h | h
          · rw [h]; exact hv
          · exact hne e h
      · rintro ⟨hp, hne⟩
        have h1 := List.pairwise_cons.1 hp
        exact ⟨⟨h1.1 (b, w) (by simp), hne (a, v) (by simp)⟩, h1.2,
          fun e he => hne e (List.mem_cons_of_mem _ he)⟩

theorem Memory.layout_mem {a : Nat} {bytes : List Byte} {c : Host.Cell}
    (h : c ∈ Memory.layout a bytes) :
    a ≤ c.1 ∧ c.1 < a + bytes.length ∧ c.2 ≠ Memory.erased := by
  induction bytes generalizing a with
  | nil => simp [Memory.layout] at h
  | cons v rest ih =>
    simp only [Memory.layout] at h
    split at h
    · obtain ⟨h1, h2, h3⟩ := ih h
      exact ⟨by omega, by simp only [List.length_cons]; omega, h3⟩
    · rename_i hv
      rcases List.mem_cons.1 h with e | e
      · subst e; simp [hv]
      · obtain ⟨h1, h2, h3⟩ := ih e
        exact ⟨by omega, by simp only [List.length_cons]; omega, h3⟩

theorem Memory.layout_pairwise (a : Nat) (bytes : List Byte) :
    (Memory.layout a bytes).Pairwise (fun c d => c.1 < d.1) := by
  induction bytes generalizing a with
  | nil => simp [Memory.layout]
  | cons v rest ih =>
    simp only [Memory.layout]
    split
    · exact ih _
    · refine List.pairwise_cons.2 ⟨?_, ih _⟩
      intro c hc
      have := Memory.layout_mem hc
      show a < c.1
      omega

theorem Memory.below_lt {m : Memory} {a : Nat} {c : Host.Cell} (h : c ∈ m.below a) : c.1 < a := by
  have := List.mem_takeWhile_imp h
  simpa using this

theorem Memory.from_ge {m : Memory} (hm : m.Pairwise (fun c d => c.1 < d.1)) {a : Nat}
    {c : Host.Cell} (h : c ∈ m.from a) : a ≤ c.1 := by
  induction m with
  | nil => simp [Memory.from] at h
  | cons d rest ih =>
    have hp := List.pairwise_cons.1 hm
    simp only [Memory.from, List.dropWhile_cons] at h
    split at h
    · exact ih hp.2 h
    · rename_i hd
      rcases List.mem_cons.1 h with e | e
      · subst e; simpa using hd
      · have h1 := hp.1 c e
        have h2 : a ≤ d.1 := by simpa using hd
        omega

/-- Replacing a stretch keeps the canonical form. -/
theorem Memory.replace_wf {m : Memory} (h : Memory.wf m = true) (a len : Nat) (bytes : List Byte) :
    Memory.wf (m.replace a len bytes) = true := by
  rw [Memory.wf_iff] at h ⊢
  obtain ⟨hp, hne⟩ := h
  have hlen : (bytes.take len).length ≤ len := by simp [List.length_take]
  constructor
  · unfold Memory.replace
    refine List.pairwise_append.2 ⟨List.pairwise_append.2 ⟨?_, Memory.layout_pairwise _ _, ?_⟩, ?_, ?_⟩
    · exact hp.sublist (List.takeWhile_sublist _)
    · intro c hc d hd
      have h1 := Memory.below_lt hc
      have h2 := Memory.layout_mem hd
      omega
    · exact hp.sublist (List.dropWhile_sublist _)
    · intro c hc d hd
      have h2 := Memory.from_ge hp hd
      rcases List.mem_append.1 hc with e | e
      · have h1 := Memory.below_lt e
        omega
      · have h1 := Memory.layout_mem e
        omega
  · intro c hc
    unfold Memory.replace at hc
    rcases List.mem_append.1 hc with e | e
    · rcases List.mem_append.1 e with e | e
      · exact hne c ((List.takeWhile_sublist _).subset e)
      · exact (Memory.layout_mem e).2.2
    · exact hne c ((List.dropWhile_sublist _).subset e)

theorem Memory.program_wf {m : Memory} (h : Memory.wf m = true) (a : Nat) (bytes : List Byte) :
    Memory.wf (m.program a bytes) = true :=
  Memory.replace_wf h _ _ _

theorem Memory.eraseSector_wf {m : Memory} (h : Memory.wf m = true) (k : Nat) (left : List Byte) :
    Memory.wf (m.eraseSector k left) = true :=
  Memory.replace_wf h _ _ _

/-! ### Reading after a replacement -/

theorem Memory.read_append_of_not_mem {m k : Memory} {x : Nat} (h : ∀ c ∈ m, c.1 ≠ x) :
    Memory.read (m ++ k) x = Memory.read k x := by
  induction m with
  | nil => rfl
  | cons c rest ih =>
    obtain ⟨a, v⟩ := c
    have ha : a ≠ x := h (a, v) (by simp)
    simp only [List.cons_append, Memory.read, ha, if_false]
    exact ih fun c hc => h c (List.mem_cons_of_mem _ hc)

theorem Memory.read_append_left {m k : Memory} {x : Nat} (h : ∀ c ∈ k, c.1 ≠ x) :
    Memory.read (m ++ k) x = Memory.read m x := by
  induction m with
  | nil =>
    simp only [List.nil_append, Memory.read]
    induction k with
    | nil => rfl
    | cons c rest ih =>
      obtain ⟨a, v⟩ := c
      have ha : a ≠ x := h (a, v) (by simp)
      simp only [Memory.read, ha, if_false]
      exact ih fun c hc => h c (List.mem_cons_of_mem _ hc)
  | cons c rest ih =>
    obtain ⟨a, v⟩ := c
    simp only [List.cons_append, Memory.read, ih]

theorem Memory.read_layout (a : Nat) (bytes : List Byte) (i : Nat) :
    Memory.read (Memory.layout a bytes) (a + i) = bytes.getD i Memory.erased := by
  induction bytes generalizing a i with
  | nil => simp [Memory.layout, Memory.read]
  | cons v rest ih =>
    have hno : Memory.read (Memory.layout (a + 1) rest) a = Memory.erased := by
      have := Memory.read_append_left (m := []) (k := Memory.layout (a + 1) rest) (x := a)
        (fun c hc => by have := Memory.layout_mem hc; omega)
      simpa [Memory.read] using this
    cases i with
    | zero =>
      simp only [Memory.layout, Nat.add_zero]
      split
      · rename_i hv; rw [hno]; simp [hv]
      · simp [Memory.read]
    | succ i =>
      have e : a + (i + 1) = (a + 1) + i := by omega
      simp only [Memory.layout]
      split
      · rw [e, ih]; simp
      · have hne : a ≠ a + (i + 1) := by omega
        simp only [Memory.read, hne, if_false]
        rw [e, ih]; simp

/-- A byte outside the stretch reads as before. -/
theorem Memory.read_replace_outside {m : Memory} (h : Memory.wf m = true) (a len x : Nat)
    (bytes : List Byte) (hx : x < a ∨ a + len ≤ x) :
    Memory.read (m.replace a len bytes) x = Memory.read m x := by
  obtain ⟨hp, -⟩ := (Memory.wf_iff m).1 h
  have hlen : (bytes.take len).length ≤ len := by simp [List.length_take]
  have hlay : ∀ c ∈ Memory.layout a (bytes.take len), c.1 ≠ x := by
    intro c hc; have := Memory.layout_mem hc; omega
  unfold Memory.replace
  rcases hx with hx | hx
  · rw [Memory.read_append_left (k := m.from (a + len))
      (fun c hc => by have := Memory.from_ge hp hc; omega), Memory.read_append_left hlay]
    have hsplit : m = m.below a ++ m.from a := (List.takeWhile_append_dropWhile ..).symm
    conv_rhs => rw [hsplit]
    rw [Memory.read_append_left (fun c hc => by have := Memory.from_ge hp hc; omega)]
  · rw [List.append_assoc, Memory.read_append_of_not_mem
      (fun c hc => by have := Memory.below_lt hc; omega), Memory.read_append_of_not_mem hlay]
    have hsplit : m = m.below (a + len) ++ m.from (a + len) :=
      (List.takeWhile_append_dropWhile ..).symm
    conv_rhs => rw [hsplit]
    rw [Memory.read_append_of_not_mem (fun c hc => by have := Memory.below_lt hc; omega)]

/-- A byte inside the stretch reads as what replaced it. -/
theorem Memory.read_replace_inside {m : Memory} (h : Memory.wf m = true) (a len i : Nat)
    (bytes : List Byte) (hi : i < len) :
    Memory.read (m.replace a len bytes) (a + i) = bytes.getD i Memory.erased := by
  obtain ⟨hp, -⟩ := (Memory.wf_iff m).1 h
  unfold Memory.replace
  rw [Memory.read_append_left (k := m.from (a + len))
    (fun c hc => by have := Memory.from_ge hp hc; omega),
    Memory.read_append_of_not_mem (fun c hc => by have := Memory.below_lt hc; omega),
    Memory.read_layout]
  simp [List.getD_eq_getElem?_getD, hi]

/-! ### Stretches -/

theorem Memory.read_of_not_mem {m : Memory} {x : Nat} (h : ∀ c ∈ m, c.1 ≠ x) :
    Memory.read m x = Memory.erased := by
  have := Memory.read_append_of_not_mem (k := []) h
  rwa [List.append_nil] at this

theorem Memory.expand_eq {m : Memory} (hm : m.Pairwise (fun c d => c.1 < d.1)) (len a : Nat)
    (ha : ∀ c ∈ m, a ≤ c.1) :
    Memory.expand len a m = (List.range len).map fun i => Memory.read m (a + i) := by
  induction len generalizing a m with
  | zero => simp [Memory.expand]
  | succ len ih =>
    rw [List.range_succ_eq_map, List.map_cons, List.map_map]
    cases m with
    | nil => simp [Memory.expand, ih List.Pairwise.nil (a + 1) (by simp), Memory.read,
        Function.comp_def]
    | cons c rest =>
      obtain ⟨b, v⟩ := c
      have hb : a ≤ b := ha _ List.mem_cons_self
      have hrest : ∀ c ∈ rest, b < c.1 := (List.pairwise_cons.1 hm).1
      by_cases hba : b = a
      · subst hba
        rw [Memory.expand, if_pos rfl, ih (List.pairwise_cons.1 hm).2 (b + 1) hrest]
        refine congrArg₂ _ (by simp [Memory.read]) (List.map_congr_left fun i _ => ?_)
        have hne : ¬ b = b + (i + 1) := by omega
        simp only [Function.comp, Memory.read, Nat.succ_eq_add_one, hne, if_false]
        congr 1
        omega
      · have hlt : a < b := by omega
        rw [Memory.expand, if_neg hba, ih hm (a + 1) fun c hc => by
          rcases List.mem_cons.1 hc with rfl | hc
          · exact hlt
          · have := hrest c hc; omega]
        refine congrArg₂ _ (Memory.read_of_not_mem fun c hc => ?_).symm
          (List.map_congr_left fun i _ => ?_)
        · rcases List.mem_cons.1 hc with rfl | hc
          · simpa using hba
          · have := hrest c hc; omega
        · simp only [Function.comp, Nat.succ_eq_add_one]
          congr 1
          omega

/-- A stretch is its bytes, read one by one. -/
theorem Memory.slice_eq {m : Memory} (h : Memory.wf m = true) (a len : Nat) :
    m.slice a len = (List.range len).map fun i => Memory.read m (a + i) := by
  obtain ⟨hp, -⟩ := (Memory.wf_iff m).1 h
  have split : m.below a ++ m.from a = m := List.takeWhile_append_dropWhile
  have hfrom : (m.from a).Pairwise (fun c d => c.1 < d.1) :=
    hp.sublist (List.dropWhile_sublist _)
  rw [Memory.slice, Memory.expand_eq hfrom len a fun c hc => Memory.from_ge hp hc]
  refine List.map_congr_left fun i _ => ?_
  conv_rhs => rw [← split]
  rw [Memory.read_append_of_not_mem fun c hc => ?_]
  have := Memory.below_lt hc
  omega

/-- Bytes put into the array are read back. -/
theorem Memory.slice_replace {m : Memory} (h : Memory.wf m = true) (a : Nat) (bytes : List Byte) :
    (m.replace a bytes.length bytes).slice a bytes.length = bytes := by
  rw [Memory.slice_eq (Memory.replace_wf h _ _ _)]
  refine List.ext_getElem (by simp) fun i hi _ => ?_
  have hlt : i < bytes.length := by simpa using hi
  simp [Memory.read_replace_inside h a bytes.length i bytes hlt, List.getD_eq_getElem?_getD, hlt]

/-- A stretch is blank exactly when each of its bytes reads as erased. -/
theorem Memory.blank_iff {m : Memory} (h : Memory.wf m = true) (a len : Nat) :
    m.blank a len = true ↔ ∀ i, i < len → Memory.read m (a + i) = Memory.erased := by
  obtain ⟨hp, hne⟩ := (Memory.wf_iff m).1 h
  have split : m.below a ++ m.from a = m := List.takeWhile_append_dropWhile
  have hfrom : (m.from a).Pairwise (fun c d => c.1 < d.1) :=
    hp.sublist (List.dropWhile_sublist _)
  have hread : ∀ i, Memory.read m (a + i) = Memory.read (m.from a) (a + i) := fun i => by
    conv_lhs => rw [← split]
    rw [Memory.read_append_of_not_mem fun c hc => ?_]
    have := Memory.below_lt hc
    omega
  have hmem : ∀ c ∈ m.from a, c.2 ≠ Memory.erased := fun c hc =>
    hne c ((List.dropWhile_sublist _).subset hc)
  simp only [hread]
  unfold Memory.blank
  have hge : ∀ c ∈ m.from a, a ≤ c.1 := fun c hc => Memory.from_ge hp hc
  revert hfrom hmem hge
  generalize m.from a = k
  intro hfrom hmem hge
  cases k with
  | nil => simp [Memory.read]
  | cons c rest =>
    have ha := hge c List.mem_cons_self
    have hrest : ∀ d ∈ rest, c.1 < d.1 := (List.pairwise_cons.1 hfrom).1
    simp only [decide_eq_true_eq]
    constructor
    · intro hc i hi
      refine Memory.read_of_not_mem fun d hd => ?_
      rcases List.mem_cons.1 hd with rfl | hd
      · omega
      · have := hrest d hd; omega
    · intro hall
      by_contra hc
      have := hall (c.1 - a) (by omega)
      have e : a + (c.1 - a) = c.1 := by omega
      rw [e, Memory.read, if_pos rfl] at this
      exact hmem c List.mem_cons_self this

end Sys2Proof.Machine
end

