-- ==== Sys2Proof/Laws/Journal.lean ====
section
/-! SUPPORT. Records in flash: the length and the check of a sealed record, and what the newest record
of an array is when one slot holds a valid one. What a retirement makes of the journal. -/

namespace Sys2Proof.Machine

theorem sealRecord_length (marker : BitVec 32) {values : List Byte} (h : values.length ≤ 504) :
    (sealRecord marker values).length = 512 := by
  simp only [sealRecord, List.length_append, be_length, List.length_replicate]
  omega

/-- A sealed record has its marker and passes its check. -/
theorem recordSound_sealRecord (marker : BitVec 32) {values : List Byte} (h : values.length ≤ 504) :
    recordSound marker (sealRecord marker values) = true := by
  have hm : marker.toNat < 256 ^ 4 := by have := marker.isLt; omega
  simp only [sealRecord, recordSound]
  generalize hb : be 4 marker.toNat ++ values
      ++ List.replicate (508 - (be 4 marker.toNat ++ values).length) (0 : Byte) = body
  have hlen : body.length = 508 := by
    rw [← hb]
    simp only [List.length_append, be_length, List.length_replicate]
    omega
  have hhead : (body ++ be 4 (crc body).toNat).take 4 = be 4 marker.toNat := by
    rw [← hb, List.append_assoc, List.append_assoc, List.take_append_of_le_length (by simp),
      List.take_of_length_le (by simp)]
  have htail : (body ++ be 4 (crc body).toNat).drop 508 = be 4 (crc body).toNat := by
    rw [← hlen, List.drop_left]
  have hbody : (body ++ be 4 (crc body).toNat).take 508 = body := by
    rw [← hlen, List.take_left]
  rw [hhead, htail, hbody, List.take_of_length_le (by simp), ofBe_be_of_lt hm,
    ofBe_be_of_lt (by have := (crc body).isLt; omega)]
  simp

/-- The bytes of a record put into the array read back as a valid slot. -/
theorem Memory.slotKind_replace {m : Memory} (h : Memory.wf m = true) (sector : Fin 32)
    (slot : Fin 8) {bytes : List Byte} (hl : bytes.length = 512)
    (hs : recordSound Config.journalMarker bytes = true) :
    (m.replace (slotAddress sector slot) 512 bytes).slotKind sector slot
      = .valid (journalRecordOf bytes) := by
  have hread : (m.replace (slotAddress sector slot) 512 bytes).slotBytes sector slot = bytes := by
    have := Memory.slice_replace h (slotAddress sector slot) bytes
    rwa [hl] at this
  have hblank : (m.replace (slotAddress sector slot) 512 bytes).slotBlank sector slot = false := by
    by_contra hc
    rw [Bool.not_eq_false] at hc
    have hall := (Memory.blank_iff (Memory.replace_wf h _ _ _) _ _).1 hc
    have hff : bytes.take 4 = [0xFF, 0xFF, 0xFF, 0xFF] := by
      refine List.ext_getElem (by simp [hl]) fun i hi hj => ?_
      have hi4 : i < 4 := by simpa using hj
      have := hall i (by simp only [Config.recordSize]; omega)
      rw [Memory.read_replace_inside h _ _ _ _ (by omega), List.getD_eq_getElem?_getD,
        List.getElem?_eq_getElem (by omega)] at this
      rw [List.getElem_take]
      simp only [Option.getD_some] at this
      rw [this]
      interval_cases i <;> rfl
    simp only [recordSound, hff, Bool.and_eq_true, beq_iff_eq] at hs
    exact absurd hs.1 (by decide)
  simp [Memory.slotKind, hblank, hread, hs]

/-- A slot reads as before when the bytes of another slot are replaced. -/
theorem Memory.slotKind_replace_other {m : Memory} (h : Memory.wf m = true) {a c : Fin 32} {b d : Fin 8}
    (hne : ¬ (a = c ∧ b = d)) (bytes : List Byte) :
    (m.replace (slotAddress c d) 512 bytes).slotKind a b = m.slotKind a b := by
  have hread : ∀ i < 512, Memory.read (m.replace (slotAddress c d) 512 bytes) (slotAddress a b + i)
      = Memory.read m (slotAddress a b + i) := fun i hi =>
    Memory.read_replace_outside h _ _ _ _ (by
      simp only [slotAddress, Config.sectorSize, Config.recordSize]
      omega)
  have hw := Memory.replace_wf h (slotAddress c d) 512 bytes
  have hbytes : (m.replace (slotAddress c d) 512 bytes).slotBytes a b = m.slotBytes a b := by
    simp only [Memory.slotBytes, Memory.slice_eq hw, Memory.slice_eq h]
    exact List.map_congr_left fun i hi => hread i (List.mem_range.1 hi)
  have hblank : (m.replace (slotAddress c d) 512 bytes).slotBlank a b = m.slotBlank a b := by
    rw [Bool.eq_iff_iff, Memory.slotBlank, Memory.slotBlank, Memory.blank_iff hw, Memory.blank_iff h]
    exact forall_congr' fun i => forall_congr' fun hi => by rw [hread i hi]
  simp only [Memory.slotKind, hbytes, hblank]

/-- Every slot of an erased array is blank. -/
@[simp] theorem Memory.slotKind_nil (sector : Fin 32) (slot : Fin 8) :
    Memory.slotKind [] sector slot = .blank := rfl

theorem Memory.afterProgram_wf {m : Memory} (h : Memory.wf m = true) (address : Nat)
    (bytes : List Byte) (left : Option (List Byte)) :
    Memory.wf (m.afterProgram address bytes left) = true := by
  cases left
  · exact Memory.program_wf h _ _
  · exact Memory.replace_wf h _ _ _

/-- A program that names the bytes it left has failed, whatever they are (R153). -/
@[simp] theorem Memory.readBackMatches_some (m : Memory) (address : Nat) (bytes rest : List Byte) :
    m.readBackMatches address bytes (some rest) = false := rfl

/-- A program that names no bytes is judged by what the place holds (R152). -/
@[simp] theorem Memory.readBackMatches_none (m : Memory) (address : Nat) (bytes : List Byte) :
    m.readBackMatches address bytes none = (m.slice address Config.recordSize == bytes) := rfl

/-- A failed program may leave a valid copy of its record (R153). -/
theorem Memory.slotKind_afterProgram_copy {m : Memory} (h : Memory.wf m = true) (sector : Fin 32)
    (slot : Fin 8) {bytes : List Byte} (hl : bytes.length = 512)
    (hs : recordSound Config.journalMarker bytes = true) :
    (m.afterProgram (slotAddress sector slot) bytes (some bytes)).slotKind sector slot
      = .valid (journalRecordOf bytes) :=
  Memory.slotKind_replace h sector slot hl hs

/-- The valid records are those read from their slots (R159). -/
theorem Memory.mem_validRecords (m : Memory) (x : Found) :
    x ∈ m.validRecords ↔ m.slotKind x.sector x.slot = .valid x.record := by
  constructor
  · intro h
    obtain ⟨p, -, hp⟩ := List.mem_filterMap.1 h
    unfold Memory.foundAt at hp
    split at hp
    · rename_i r hr
      cases hp
      exact hr
    · cases hp
    · cases hp
  · intro h
    exact List.mem_filterMap.2
      ⟨(x.sector, x.slot), by simp [allJournalSlots], by simp [Memory.foundAt, h]⟩

/-- Of two records the one kept has at least the sequence of each. -/
theorem newerFound_spec (best : Option Found) (x : Found) :
    ∃ y, newerFound best x = some y ∧ x.record.seq.toNat ≤ y.record.seq.toNat
      ∧ (∀ b, best = some b → b.record.seq.toNat ≤ y.record.seq.toNat)
      ∧ (y = x ∨ best = some y) := by
  unfold newerFound
  split
  · exact ⟨x, rfl, le_refl _, by simp, Or.inl rfl⟩
  · split_ifs with h
    · exact ⟨x, rfl, le_refl _, by rintro b ⟨⟩; exact h.le, Or.inl rfl⟩
    · exact ⟨_, rfl, not_lt.1 h, by rintro b ⟨⟩; exact le_refl _, Or.inr rfl⟩

/-- A scan that has kept a record keeps one of its list or that one, and none of them has a higher
sequence. -/
theorem newerFound_scan (xs : List Found) (b : Found) :
    ∃ y, xs.foldl newerFound (some b) = some y ∧ (y = b ∨ y ∈ xs)
      ∧ b.record.seq.toNat ≤ y.record.seq.toNat
      ∧ ∀ x ∈ xs, x.record.seq.toNat ≤ y.record.seq.toNat := by
  induction xs generalizing b with
  | nil => exact ⟨b, rfl, Or.inl rfl, le_refl _, by simp⟩
  | cons x rest ih =>
    obtain ⟨c, hc, hx, hb, hor⟩ := newerFound_spec (some b) x
    obtain ⟨y, hy, hin, hle, hall⟩ := ih c
    refine ⟨y, by rw [List.foldl_cons, hc, hy], ?_, (hb b rfl).trans hle, ?_⟩
    · rcases hin with rfl | hin
      · rcases hor with rfl | h
        · exact Or.inr List.mem_cons_self
        · cases h
          exact Or.inl rfl
      · exact Or.inr (List.mem_cons_of_mem _ hin)
    · intro z hz
      rcases List.mem_cons.1 hz with rfl | hz
      · exact hx.trans hle
      · exact hall z hz

/-- Some records have a newest one among them, and none has a higher sequence (R159). -/
theorem newestOf_spec {xs : List Found} (h : xs ≠ []) :
    ∃ y, newestOf xs = some y ∧ y ∈ xs ∧ ∀ x ∈ xs, x.record.seq.toNat ≤ y.record.seq.toNat := by
  cases xs with
  | nil => exact absurd rfl h
  | cons b rest =>
    obtain ⟨y, hy, hin, hle, hall⟩ := newerFound_scan rest b
    refine ⟨y, hy, List.mem_cons.2 hin, fun x hx => ?_⟩
    rcases List.mem_cons.1 hx with rfl | hx
    · exact hle
    · exact hall x hx

/-- The copies are ordered from the only record that has the next lower sequence (R159; log 57). -/
theorem placeBefore_of_newest {xs : List Found} {sequence : BitVec 32} {y : Found} (hy : y ∈ xs)
    (hlt : y.record.seq.toNat < sequence.toNat)
    (hall : ∀ x ∈ xs, x.record.seq.toNat < sequence.toNat →
      x.record.seq.toNat < y.record.seq.toNat ∨ x = y) :
    placeBefore xs sequence = slotPlace y.sector y.slot := by
  have hmem : y ∈ xs.filter fun y => decide (y.record.seq.toNat < sequence.toNat) := by
    simp [hy, hlt]
  obtain ⟨z, hz, hin, hle⟩ := newestOf_spec (List.ne_nil_of_mem hmem)
  simp only [List.mem_filter, decide_eq_true_eq] at hin
  rcases hall z hin.1 hin.2 with h | rfl
  · exact absurd (hle y hmem) (not_le.2 h)
  · simp [placeBefore, hz]

/-- The copies are ordered from the first slot when there is no older record (R160; log 57). -/
theorem placeBefore_of_none {xs : List Found} {sequence : BitVec 32}
    (h : ∀ x ∈ xs, ¬ x.record.seq.toNat < sequence.toNat) : placeBefore xs sequence = 0 := by
  have : xs.filter (fun y => decide (y.record.seq.toNat < sequence.toNat)) = [] := by
    simpa using h
  simp [placeBefore, this, newestOf]

/-- Of some copies the one kept is one of them, and none lies farther in rotation. -/
theorem laterCopy_scan (start : Fin 256) (xs : List Found) (b : Found) :
    let y := xs.foldl (laterCopy start) b
    (y = b ∨ y ∈ xs) ∧ b.distance start ≤ y.distance start
      ∧ ∀ x ∈ xs, x.distance start ≤ y.distance start := by
  induction xs generalizing b with
  | nil => exact ⟨Or.inl rfl, le_refl _, by simp⟩
  | cons x rest ih =>
    simp only [List.foldl_cons]
    obtain ⟨hin, hle, hall⟩ := ih (laterCopy start b x)
    have hpick : (laterCopy start b x = b ∨ laterCopy start b x = x)
        ∧ b.distance start ≤ (laterCopy start b x).distance start
        ∧ x.distance start ≤ (laterCopy start b x).distance start := by
      unfold laterCopy
      split_ifs with h
      · exact ⟨Or.inr rfl, h.le, le_refl _⟩
      · exact ⟨Or.inl rfl, le_refl _, not_lt.1 h⟩
    obtain ⟨hor, hb, hx⟩ := hpick
    refine ⟨?_, hb.trans hle, fun z hz => ?_⟩
    · rcases hin with hin | hin
      · rw [hin]
        rcases hor with h | h
        · exact Or.inl h
        · exact Or.inr (by rw [h]; exact List.mem_cons_self)
      · exact Or.inr (List.mem_cons_of_mem _ hin)
    · rcases List.mem_cons.1 hz with rfl | hz
      · exact hx.trans hle
      · exact hall z hz

/-- The last copy is a copy of the record, and no copy lies farther in rotation (R159). -/
theorem lastCopy_spec {xs : List Found} {x : Found} (h : x ∈ xs) :
    let y := lastCopy xs x
    y ∈ xs ∧ y.record.seq = x.record.seq
      ∧ ∀ z ∈ xs, z.record.seq = x.record.seq →
          z.distance (placeBefore xs x.record.seq) ≤ y.distance (placeBefore xs x.record.seq) := by
  obtain ⟨hin, -, hall⟩ := laterCopy_scan (placeBefore xs x.record.seq)
    (xs.filter fun y => decide (y.record.seq = x.record.seq)) x
  have hmem : lastCopy xs x ∈ xs ∧ (lastCopy xs x).record.seq = x.record.seq := by
    rcases hin with hin | hin
    · unfold lastCopy
      rw [hin]
      exact ⟨h, rfl⟩
    · simpa [lastCopy] using hin
  exact ⟨hmem.1, hmem.2, fun z hz hs => hall z (by simp [hz, hs])⟩

/-- The newest record is read from its slot, no valid slot has a higher sequence, and no copy of it lies
farther in rotation (R159). -/
theorem Memory.newestRecord_spec (m : Memory) :
    (∀ x, m.newestRecord = some x → m.slotKind x.sector x.slot = .valid x.record
        ∧ ∀ z : Found, m.slotKind z.sector z.slot = .valid z.record → z.record.seq = x.record.seq →
            z.distance (placeBefore m.validRecords x.record.seq)
              ≤ x.distance (placeBefore m.validRecords x.record.seq))
      ∧ ∀ sector slot r, m.slotKind sector slot = .valid r →
          ∃ x, m.newestRecord = some x ∧ r.seq.toNat ≤ x.record.seq.toNat := by
  unfold Memory.newestRecord
  by_cases he : m.validRecords = []
  · refine ⟨by simp [he, newestOf], fun sector slot r h => ?_⟩
    have := (m.mem_validRecords ⟨r, sector, slot⟩).2 h
    simp [he] at this
  · obtain ⟨y, hy, hin, hle⟩ := newestOf_spec he
    obtain ⟨h1, h2, h3⟩ := lastCopy_spec hin
    rw [hy, Option.map_some]
    refine ⟨fun x hx => ?_, fun sector slot r h => ⟨_, rfl, ?_⟩⟩
    · cases hx
      refine ⟨(m.mem_validRecords _).1 h1, fun z hz hs => ?_⟩
      rw [h2] at hs ⊢
      exact h3 z ((m.mem_validRecords z).2 hz) hs
    · rw [h2]
      exact hle ⟨r, sector, slot⟩ ((m.mem_validRecords ⟨r, sector, slot⟩).2 h)

/-- An array with a valid slot has a newest record. -/
theorem Memory.newestRecord_isSome {m : Memory} {sector : Fin 32} {slot : Fin 8} {r : JournalRecord}
    (h : m.slotKind sector slot = .valid r) : m.newestRecord.isSome = true := by
  obtain ⟨x, hx, -⟩ := (Memory.newestRecord_spec m).2 sector slot r h
  rw [hx]
  rfl

/-! ### Marks and retirement (R147) -/

theorem clearMark_ne (sector : Fin 32) (mark : Option (Fin 32)) :
    clearMark sector mark ≠ some sector := by
  unfold clearMark
  split
  · nofun
  · assumption

theorem clearMark_of_ne {sector : Fin 32} {mark : Option (Fin 32)} (h : mark ≠ some sector) :
    clearMark sector mark = mark := by
  simp [clearMark, h]

variable (s : State)

theorem State.noteJournal_journal (high low : Nat) :
    (s.noteJournal high low).journal = s.journal := by
  obtain ⟨r, p, h⟩ := s.note_frame .journal (datumOf high low)
  simp [State.noteJournal, h]

theorem State.enterJournalState_journal (st : JournalState) :
    ∃ (c : Causes) (r : Option JournalRecord),
      (s.enterJournalState st).journal = { s.journal with state := st, pending := c, retry := r } := by
  unfold State.enterJournalState
  rw [State.noteJournal_journal]
  split
  · exact ⟨_, _, rfl⟩
  · exact ⟨_, _, rfl⟩

/-- A review of the journal state leaves the rotation, the retired set and the marks as they are. -/
theorem State.reviewJournal_journal (verified : Bool) :
    ∃ (st : JournalState) (c : Causes) (r : Option JournalRecord),
      (s.reviewJournal verified).journal
        = { s.journal with state := st, pending := c, retry := r } := by
  unfold State.reviewJournal
  extract_lets byCount new
  split
  · exact ⟨_, _, _, rfl⟩
  · exact ⟨new, s.enterJournalState_journal new⟩

/-- A retirement adds the sector to the retired set and takes its marks away; of the journal only the
state and what FAILED clears can change beside that. -/
theorem State.retire_journal (sector : Fin 32) :
    ∃ (st : JournalState) (c : Causes) (r : Option JournalRecord),
      (s.retire sector).journal
        = { s.journal.retiring sector with state := st, pending := c, retry := r } := by
  unfold State.retire
  simp only
  split
  · rw [State.noteJournal_journal]
    exact ⟨_, _, _, rfl⟩
  · generalize ht : State.noteJournal _ _ _ = t
    obtain ⟨st, c, r, h⟩ := t.reviewJournal_journal false
    refine ⟨st, c, r, ?_⟩
    rw [h, ← ht, State.noteJournal_journal]
    rfl

end Sys2Proof.Machine
end

