-- ==== Sys2Proof/Laws/PerInstr.lean ====
section
/-! SUPPORT. A family of lemmas about every command as syntax: the request that a well-formed command
carries has a body of at most 60 bytes (R183). -/

namespace Sys2Proof.Laws.BodyFits

open Sys2Proof.Machine

/-- The request of a well-formed command fits a frame's body (R183). -/
def Statement (i : Instr) : Prop :=
  i.wellFormed = true → ∀ q r, requestOf i = some (q, r) → r.body.length ≤ 60

/-- A command whose request has a body of a fixed length that fits. -/
theorem of_request {i : Instr} {q : Port} {r : Request} (h : requestOf i = some (q, r))
    (hr : r.body.length ≤ 60) : Statement i := by
  intro _ port x hx
  rw [h] at hx
  cases hx
  exact hr

/-- A command that carries no request. -/
theorem of_none {i : Instr} (h : requestOf i = none) : Statement i := by
  intro _ port x hx
  rw [h] at hx
  cases hx

theorem powerOn : Statement .powerOn := of_none rfl

theorem endOfRecovery : Statement .endOfRecovery := of_none rfl

theorem baseline (pins : BitVec 48) : Statement (.baseline pins) := of_none rfl

theorem restart (port : Port) : Statement (.restart port) :=
  of_request rfl (Nat.le_of_ble_eq_true rfl)

theorem restartLine : Statement .restartLine := of_none rfl

theorem powerFailWarning : Statement .powerFailWarning := of_none rfl

theorem powerFailRelease : Statement .powerFailRelease := of_none rfl

theorem oscillatorCycle : Statement .oscillatorCycle := of_none rfl

theorem secondBoundary : Statement .secondBoundary := of_none rfl

theorem millisecondBoundary : Statement .millisecondBoundary := of_none rfl

theorem pulseEdge (ref : RefId) (rising : Bool) : Statement (.pulseEdge ref rising) := of_none rfl

theorem timeMessage (ref : RefId) (bytes : List Byte) : Statement (.timeMessage ref bytes) :=
  of_none rfl

theorem messageByteTimeout (ref : RefId) : Statement (.messageByteTimeout ref) := of_none rfl

theorem pulseLossTimeout (ref : RefId) : Statement (.pulseLossTimeout ref) := of_none rfl

theorem latePulse (ref : RefId) : Statement (.latePulse ref) := of_none rfl

theorem unpairedMarkTimeout : Statement .unpairedMarkTimeout := of_none rfl

theorem strobeRelease : Statement .strobeRelease := of_none rfl

theorem wordEnd : Statement .wordEnd := of_none rfl

theorem echoCheck (asserted : Bool) : Statement (.echoCheck asserted) := of_none rfl

theorem fastLineEdge (unit : UnitId) (line : FastLine) (high : Bool) : Statement (.fastLineEdge unit line high) :=
  of_none rfl

theorem fastLineDebounceEnd (unit : UnitId) (line : FastLine) : Statement (.fastLineDebounceEnd unit line) :=
  of_none rfl

theorem scanInstant (pins : BitVec 48) : Statement (.scanInstant pins) := of_none rfl

theorem chatterWindowClose (line : LineId) : Statement (.chatterWindowClose line) := of_none rfl

theorem chatterOff (line : LineId) : Statement (.chatterOff line) := of_none rfl

theorem settling (unit : UnitId) : Statement (.settling unit) := of_none rfl

theorem testExpiry (unit : UnitId) : Statement (.testExpiry unit) := of_none rfl

theorem windowEnd (slot : SlotId) : Statement (.windowEnd slot) := of_none rfl

theorem permitLapse (unit : UnitId) : Statement (.permitLapse unit) := of_none rfl

theorem checkpointInterval : Statement .checkpointInterval := of_none rfl

theorem countPace : Statement .countPace := of_none rfl

theorem checkpointBegin : Statement .checkpointBegin := of_none rfl

theorem programEnd (left : Option (List Byte)) : Statement (.programEnd left) := of_none rfl

theorem eraseEnd (left : List Byte) : Statement (.eraseEnd left) := of_none rfl

theorem settingsEraseEnd (left : List Byte) : Statement (.settingsEraseEnd left) := of_none rfl

theorem settingsProgramEnd (left : Option (List Byte)) : Statement (.settingsProgramEnd left) :=
  of_none rfl

theorem graceEnd : Statement .graceEnd := of_none rfl

theorem offerLapse : Statement .offerLapse := of_none rfl

theorem frameBegin (port : Port) : Statement (.frameBegin port) := of_none rfl

theorem frameEnd (port : Port) (bytes : List Byte) : Statement (.frameEnd port bytes) := of_none rfl

theorem frameAbort (port : Port) : Statement (.frameAbort port) := of_none rfl

theorem responseFinished (port : Port) (orphan : Bool) : Statement (.responseFinished port orphan) :=
  of_none rfl

theorem nop (port : Port) : Statement (.nop port) :=
  of_request rfl (Nat.le_of_ble_eq_true rfl)

theorem status (port : Port) : Statement (.status port) :=
  of_request rfl (Nat.le_of_ble_eq_true rfl)

theorem identify (port : Port) : Statement (.identify port) :=
  of_request rfl (Nat.le_of_ble_eq_true rfl)

theorem clearPort (port : Port) : Statement (.clearPort port) :=
  of_request rfl (Nat.le_of_ble_eq_true rfl)

theorem readTime (port : Port) : Statement (.readTime port) :=
  of_request rfl (Nat.le_of_ble_eq_true rfl)

theorem readReferences (port : Port) : Statement (.readReferences port) :=
  of_request rfl (Nat.le_of_ble_eq_true rfl)

theorem readLines (port : Port) (look : LinesLook) : Statement (.readLines port look) :=
  of_request rfl (Nat.le_of_ble_eq_true rfl)

theorem readUnit (port : Port) (unit : Byte) : Statement (.readUnit port unit) :=
  of_request rfl (Nat.le_of_ble_eq_true rfl)

theorem readEvents (port : Port) (count : Byte) : Statement (.readEvents port count) :=
  of_request rfl (Nat.le_of_ble_eq_true rfl)

theorem seekEvents (port : Port) (selector : Byte) (sequence : EventSeq) : Statement (.seekEvents port selector sequence) :=
  of_request rfl (Nat.le_of_ble_eq_true rfl)

theorem listTripFiles (port : Port) : Statement (.listTripFiles port) :=
  of_request rfl (Nat.le_of_ble_eq_true rfl)

theorem readTripFile (port : Port) (slot : Byte) : Statement (.readTripFile port slot) :=
  of_request rfl (Nat.le_of_ble_eq_true rfl)

theorem readSummary (port : Port) (index part : Byte) : Statement (.readSummary port index part) :=
  of_request rfl (Nat.le_of_ble_eq_true rfl)

theorem readJournal (port : Port) (part : Byte) : Statement (.readJournal port part) :=
  of_request rfl (Nat.le_of_ble_eq_true rfl)

theorem readSettings (port : Port) (item qualifier : Byte) : Statement (.readSettings port item qualifier) :=
  of_request rfl (Nat.le_of_ble_eq_true rfl)

theorem setTime (port : Port) (second : Second) (micros : BitVec 24) : Statement (.setTime port second micros) :=
  of_request rfl (Nat.le_of_ble_eq_true rfl)

theorem selectReference (port : Port) (mode : Byte) : Statement (.selectReference port mode) :=
  of_request rfl (Nat.le_of_ble_eq_true rfl)

theorem clearTripFile (port : Port) (slot : Byte) (tripSecond : Second) : Statement (.clearTripFile port slot tripSecond) :=
  of_request rfl (Nat.le_of_ble_eq_true rfl)

theorem presetTally (port : Port) (body : PresetBody) : Statement (.presetTally port body) :=
  of_request rfl (Nat.le_of_ble_eq_true rfl)

theorem lockPresets (port : Port) : Statement (.lockPresets port) :=
  of_request rfl (Nat.le_of_ble_eq_true rfl)

theorem writeSettings (port : Port) (item qualifier : Byte) (value : List Byte) : Statement (.writeSettings port item qualifier value) :=
  by
  intro h port x hx
  have hl : value.length ≤ 58 := of_decide_eq_true h
  cases hx
  show value.length + 1 + 1 ≤ 60
  omega

theorem saveSettings (port : Port) : Statement (.saveSettings port) :=
  of_request rfl (Nat.le_of_ble_eq_true rfl)

theorem setTest (port : Port) (unit : Byte) : Statement (.setTest port unit) :=
  of_request rfl (Nat.le_of_ble_eq_true rfl)

theorem endTest (port : Port) (unit : Byte) : Statement (.endTest port unit) :=
  of_request rfl (Nat.le_of_ble_eq_true rfl)

theorem takeShift (port : Port) (crew : Byte) : Statement (.takeShift port crew) :=
  of_request rfl (Nat.le_of_ble_eq_true rfl)

theorem handOver (port : Port) (crew : Byte) : Statement (.handOver port crew) :=
  of_request rfl (Nat.le_of_ble_eq_true rfl)

theorem accept (port : Port) (crew : Byte) : Statement (.accept port crew) :=
  of_request rfl (Nat.le_of_ble_eq_true rfl)

theorem withdraw (port : Port) : Statement (.withdraw port) :=
  of_request rfl (Nat.le_of_ble_eq_true rfl)

theorem acknowledgeTripFile (port : Port) (slot : Byte) (tripSecond : Second) : Statement (.acknowledgeTripFile port slot tripSecond) :=
  of_request rfl (Nat.le_of_ble_eq_true rfl)

theorem permitPreset (port : Port) (unit : Byte) : Statement (.permitPreset port unit) :=
  of_request rfl (Nat.le_of_ble_eq_true rfl)

theorem messageByte (ref : RefId) (byte : Byte) (stopHigh : Bool) (sinceStart : Nat) : Statement (.messageByte ref byte stopHigh sinceStart) :=
  of_none rfl

theorem dclkDdataChange : Statement .dclkDdataChange := of_none rfl

theorem powerLoss : Statement .powerLoss := of_none rfl

end Sys2Proof.Laws.BodyFits
end

