-- ==== Sys2Proof/Laws/Tables.lean ====
section
/-! SUPPORT. Reading a table or a family of values after it has been changed. -/

namespace Sys2Proof

variable {n : Nat} {α β : Type}

theorem Table.ext_list {t u : Table n α} (h : t.list = u.list) : t = u := by
  cases t; cases u; cases h; rfl

theorem Table.get_eq (t : Table n α) (i : Fin n) :
    t.get i = t.list[i.val]'(by rw [t.size]; exact i.isLt) := rfl

@[simp] theorem Table.get_set_same (t : Table n α) (i : Fin n) (a : α) : (t.set i a).get i = a := by
  simp [Table.get_eq, Table.set]

theorem Table.get_set_other (t : Table n α) {i j : Fin n} (a : α) (h : j ≠ i) :
    (t.set i a).get j = t.get j := by
  have : (i : Nat) ≠ j := fun e => h (Fin.ext e.symm)
  simp [Table.get_eq, Table.set, this]

@[simp] theorem Table.get_map (f : α → β) (t : Table n α) (i : Fin n) :
    (t.map f).get i = f (t.get i) := by
  simp [Table.get_eq, Table.map]

@[simp] theorem Table.get_mapIdx (f : Fin n → α → β) (t : Table n α) (i : Fin n) :
    (t.mapIdx f).get i = f i (t.get i) := by
  simp [Table.get_eq, Table.mapIdx]

@[simp] theorem Table.get_build (f : Fin n → α) (i : Fin n) : (Table.build f).get i = f i := by
  simp [Table.get_eq, Table.build]

@[simp] theorem Table.get_fill (a : α) (i : Fin n) : (Table.fill n a).get i = a := by
  simp [Table.get_eq, Table.fill]

theorem Table.ext_get {t u : Table n α} (h : ∀ i, t.get i = u.get i) : t = u := by
  apply Table.ext_list
  apply List.ext_get
  · rw [t.size, u.size]
  · intro k hk hk'
    have := h ⟨k, by rw [← t.size]; exact hk⟩
    simpa [Table.get_eq] using this

theorem Table.set_get (t : Table n α) (i : Fin n) : t.set i (t.get i) = t := by
  apply Table.ext_get
  intro j
  by_cases h : j = i
  · subst h; simp
  · rw [Table.get_set_other _ _ h]

@[simp] theorem PerPort.get_set_same (x : PerPort α) (q : Port) (a : α) : (x.set q a).get q = a := by
  cases q <;> rfl

theorem PerPort.get_set_other (x : PerPort α) {q w : Port} (a : α) (h : w ≠ q) :
    (x.set q a).get w = x.get w := by
  cases q <;> cases w <;> first | rfl | exact absurd rfl h

@[simp] theorem PerPort.get_map (f : α → β) (x : PerPort α) (q : Port) :
    (x.map f).get q = f (x.get q) := by
  cases q <;> rfl

@[simp] theorem PerPort.get_map2 {γ : Type} (f : α → β → γ) (x : PerPort α) (y : PerPort β)
    (q : Port) : (PerPort.map2 f x y).get q = f (x.get q) (y.get q) := by
  cases q <;> rfl

@[simp] theorem PerPort.get_all (a : α) (q : Port) : (PerPort.all a).get q = a := by
  cases q <;> rfl

theorem PerPort.ext_get {x y : PerPort α} (h : ∀ q, x.get q = y.get q) : x = y := by
  have hg := h .g
  have hp := h .p
  have hs := h .s
  cases x
  cases y
  simp only [PerPort.get] at hg hp hs
  rw [hg, hp, hs]

theorem PerPort.set_get (x : PerPort α) (q : Port) : x.set q (x.get q) = x := by
  cases q <;> rfl

theorem PerPort.set_set (x : PerPort α) (q : Port) (a b : α) : (x.set q a).set q b = x.set q b := by
  cases q <;> rfl

@[simp] theorem PerRef.get_set_same (x : PerRef α) (r : RefId) (a : α) : (x.set r a).get r = a := by
  cases r <;> rfl

theorem PerRef.get_set_other (x : PerRef α) {r p : RefId} (a : α) (h : p ≠ r) :
    (x.set r a).get p = x.get p := by
  cases r <;> cases p <;> first | rfl | exact absurd rfl h

theorem PerRef.set_get (x : PerRef α) (r : RefId) : x.set r (x.get r) = x := by
  cases r <;> rfl

@[simp] theorem PerMode.get_set_same (x : PerMode α) (m : Mode) (a : α) :
    (x.set m a).get m = a := by
  cases m <;> rfl

theorem PerMode.get_set_other (x : PerMode α) {m k : Mode} (a : α) (h : k ≠ m) :
    (x.set m a).get k = x.get k := by
  cases m <;> cases k <;> first | rfl | exact absurd rfl h

end Sys2Proof
end

