-- ==== Sys2Proof/Laws/Ports.lean ====
section
/-! SUPPORT. What the owner's reply makes of a port: the first build that waited for it changes and nothing
else does; where only latches have moved; what the end of a frame does; the bits of bytes on a line. -/

namespace Sys2Proof.Machine

/-- The bit at a place of a byte, the most significant first (R51, R183). -/
theorem bitOf_place (bytes : List Byte) (j : Nat) {k : Nat} (h : k < 8) :
    bitOf bytes (8 * j + k) = (bytes.getD j 0).getLsbD (7 - k) := by
  unfold bitOf
  rw [show (8 * j + k) / 8 = j by omega, show (8 * j + k) % 8 = k by omega]

/-- After the last byte the line carries zeros (R183). -/
theorem bitOf_past (bytes : List Byte) {i : Nat} (h : 8 * bytes.length ≤ i) :
    bitOf bytes i = false := by
  unfold bitOf
  rw [List.getD_eq_default _ _ (by omega)]
  simp

theorem changeFirst_spec {α : Type} (c : α → Bool) (f : α → Option α) (l : List α)
    (h : l.any c = true) :
    ∃ before b after, l = before ++ b :: after ∧ before.any c = false ∧ c b = true
      ∧ changeFirst c f l = before ++ ((f b).toList ++ after) := by
  induction l with
  | nil => simp at h
  | cons a rest ih =>
    cases ha : c a with
    | true => exact ⟨[], a, rest, rfl, rfl, ha, by simp [changeFirst, ha]⟩
    | false =>
      obtain ⟨before, b, after, e, first, hb, g⟩ := ih (by simpa [ha] using h)
      exact ⟨a :: before, b, after, by rw [e]; rfl, by simp [ha, first], hb,
        by simp [changeFirst, ha, g]⟩

theorem Slot.building_of_any {slot : Slot} {c : Build → Bool} (h : slot.builds.any c = true) :
    ∃ b, slot = .building b ∧ c b = true := by
  cases slot with
  | building b => exact ⟨b, rfl, by simpa [Slot.builds] using h⟩
  | empty => simp [Slot.builds] at h
  | finished r n => simp [Slot.builds] at h
  | sending r => simp [Slot.builds] at h

theorem Slot.change_building {c : Build → Bool} {f : Build → Option Build} {b done : Build}
    (hb : c b = true) (hf : f b = some done) :
    (Slot.building b).change c f = .building done := by
  simp [Slot.change, hb, hf]

/-- Where some build meets a condition and every such build becomes `done`, the first one does, and the
port is otherwise as it was. -/
theorem PortState.changeBuild_settles (x : PortState) (c : Build → Bool) (f : Build → Option Build)
    (done : Build) (h : x.builds.any c = true) (hf : ∀ b, c b = true → f b = some done) :
    x.Settles c done (x.changeBuild c f) := by
  unfold PortState.changeBuild
  cases ho : x.orphans.any c with
  | true =>
    obtain ⟨before, b, after, e, first, hb, g⟩ := changeFirst_spec c f x.orphans ho
    exact .inl ⟨before, b, after, e, first, hb, by simp [g, hf b hb]⟩
  | false =>
    rw [PortState.builds, List.any_append, List.any_append, ho, Bool.false_or] at h
    cases ha : x.slotA.builds.any c with
    | true =>
      obtain ⟨b, hs, hb⟩ := Slot.building_of_any ha
      refine .inr (.inl ⟨ho, b, hs, hb, ?_⟩)
      rw [hs, Slot.change_building hb (hf b hb)]
      rfl
    | false =>
      rw [ha, Bool.false_or] at h
      obtain ⟨b, hs, hb⟩ := Slot.building_of_any h
      refine .inr (.inr ⟨ho, ha, b, hs, hb, ?_⟩)
      rw [hs, Slot.change_building hb (hf b hb)]
      rfl

/-- An answer decides the build that waited for it. -/
theorem PortState.settle_answer (x : PortState) (r : Request) (result : Result) (body : List Byte)
    (h : x.waits r = true) :
    x.Settles (Build.waits r) (Build.decided r result body) (x.settle r (.answer result body)) :=
  x.changeBuild_settles _ _ _ h fun b hb => by
    have e : b.request = r := by
      simp only [Build.waits, Bool.and_eq_true, decide_eq_true_eq] at hb
      exact hb.1
    simp [Build.settle, Build.decided, e]

/-- The end of a save answers the SAVE SETTINGS that was taken. -/
theorem PortState.answerSave_settles (x : PortState) (body : List Byte)
    (h : x.builds.any Build.awaitsSave = true) :
    x.Settles Build.awaitsSave ⟨.saveSettings, true, some ⟨0x86, .ok, body⟩⟩ (x.answerSave body) :=
  x.changeBuild_settles _ _ _ h fun b hb => by
    simp only [Build.awaitsSave, Bool.and_eq_true, decide_eq_true_eq] at hb
    obtain ⟨⟨e, g⟩, -⟩ := hb
    cases b
    simp_all [Request.code]

/-- A waiting request other than NOP whose owner answers it at once stands answered, over the effect the
owner gives it. -/
theorem State.take_answer (s : State) (q : Port) (r : Request) (e : State) (result : Result)
    (body : List Byte) (h : (s.port q).waits r = true) (hr : r ≠ .nop)
    (hd : s.decide q r = ⟨e, .answer result body⟩) (he : (e.port q).waits r = true) :
    AnsweredIn q r result body e (s.take q r) := by
  have hp : s.take q r = e.setPort q ((e.port q).settle r (.answer result body)) := by
    simp [State.take, h, hd, State.modPort, PortState.finishNop, hr]
  have ht : (s.take q r).port q = (e.port q).settle r (.answer result body) := by
    rw [hp]; exact PerPort.get_set_same _ _ _
  exact ⟨by rw [ht]; exact (e.port q).settle_answer r result body he, by rw [ht]; exact hp⟩

/-! ### Ports on which only latches have moved -/

theorem State.latched_self (s : State) : s.latched s = s.ports := rfl

/-- Only latches move over two changes when only latches move over each. -/
theorem State.latched_trans {s t v : State} (h : t.ports = s.latched t) (g : v.ports = t.latched v) :
    v.ports = s.latched v := by
  rw [g]
  unfold State.latched at h ⊢
  rw [h, g]
  rfl

theorem State.raiseAll_latched (s : State) (k : Notice) :
    (s.raiseAll k).ports = s.latched (s.raiseAll k) := rfl

theorem State.complete_latched (s : State) (e : Entry) :
    (s.complete e).ports = s.latched (s.complete e) := by
  unfold State.complete
  split
  · rfl
  · apply PerPort.ext_get
    intro q
    simp only [State.latched, State.withRing, State.discardOldest, PerPort.get_map2]
    split <;> rfl

theorem State.append_latched (s : State) (e : Entry) :
    (s.append e).ports = s.latched (s.append e) := by
  unfold State.append
  split
  · exact s.complete_latched e
  · rfl

/-! ### The end of a frame -/

/-- The end of a frame moves its port, and the counter of free values when it held no byte. -/
theorem State.endFrame_frame (s : State) (q : Port) (bytes : List Byte) :
    ∃ (x : PortState) (n : Nat), s.endFrame q bytes = { s.setPort q x with freeCount := n } := by
  cases bytes with
  | nil => exact ⟨_, _, rfl⟩
  | cons code rest => exact ⟨_, s.freeCount, rfl⟩

/-- A frame with a byte is a frame whether or not its beginning was named. -/
@[simp] theorem State.noFrame_cons (s : State) (q : Port) (code : Byte) (rest : List Byte) :
    s.noFrame q (code :: rest) = false := rfl

/-- A release without a byte and without a frame begun changes nothing (R183). -/
theorem State.frameEnd_of_no_frame (s : State) (q : Port) (h : (s.port q).inFrame = false) :
    s.frameEnd q [] = s := by
  simp [State.frameEnd, State.noFrame, h]

/-- The end of a frame that hands no RESTART on moves its port alone, and the counter of free values. -/
theorem State.frameEnd_of_no_restart (s : State) (q : Port) (bytes : List Byte) (h : s.phase ≠ .off)
    (hf : s.noFrame q bytes = false)
    (hr : ((s.answerNop q).port q).handsRestart s.isStarting q bytes = false) :
    s.frameEnd q bytes = (s.answerNop q).endFrame q bytes := by
  simp [State.frameEnd, h, hf, hr]

/-- Where no request waits, its owner has nothing to take. -/
theorem State.take_of_not_waiting (s : State) (q : Port) (r : Request) (h : (s.port q).waits r = false) :
    s.take q r = s := by
  simp [State.take, h]

end Sys2Proof.Machine
end

