-- ==== Sys2Proof/Tests/Slice0.lean ====
section
/-! SUPPORT. Small tests: terms the operand checks refuse, one-step tests on small states, and for every
statement for the provers a concrete state and operands that meet all its hypotheses together, clause
by clause and at the values where clauses meet. -/

open Sys2Proof Sys2Proof.Machine

namespace Sys2Proof.Tests

set_option Elab.async false

/-! ### Small states -/

/-- A running summary of the first shift. -/
def summary : Summary where
  number := 0
  crewOut := 0
  crewIn := 0
  start := 0
  dueSecond := none
  cutSecond := none
  elapsed := 0
  units := Table.fill 6 ⟨PerMode.all 0, 0, 0, 0, false⟩
  firstSeq := 0
  lastSeq := none
  worstClass := 1
  timeSteps := 0
  missed := 0
  overdue := 0
  closedFiles := none
  journalAtCut := none
  isPartial := true

/-- A part whose power-on sequence has ended: 10 s of run clock, class 1, an erased flash array. -/
def calm : State := { State.reset with
  phase := .running
  tb := { Timebase.powerOn with
    advancing := true, second := 1000, nanos := 5000, cycleSecond := 1000, cycleNanos := 5000, cycleClass := 1
    cycleState := .free
    runClock := 10000000000
    uncertainty := 100, unset := false, alarm := false }
  due := ⟨false, false, false⟩
  lines := { State.reset.lines with awaiting := false }
  ring := { Ring.powerOn with started := true }
  journal := { Journal.powerOn with state := .normal }
  flash := ⟨[], .none, false⟩
  shift := { Shift.powerOn with running := some summary } }

/-- A request waits on a port. -/
def asked (s : State) (q : Port) (r : Request) : State :=
  s.setPort q { s.port q with slotA := .building ⟨r, false, none⟩ }

def clock (s : State) (runClock : Nat) : State := s.withTb { s.tb with runClock := runClock }

/-- REF1 judges its pulses by rising edges from an anchor one second ago. -/
def judging (state : RefState) : State := calm.setRef .ref1 { Reference.powerOn with
  state := state
  polarity := some true
  anchor := some ⟨999, 5000, 9000000000⟩
  claim := some 2
  previous := some 999
  count := 1
  window := some ⟨⟨1000, 2, 0, 0⟩, none⟩ }

/-- An OPEN file of unit 1 whose window ends at 12 s of run clock. -/
def openFile : TripFile where
  state := .opened
  unit := 0
  second := 1000
  micros := 5
  runClock := 10000000000
  cls := 1
  test := false
  cut := false
  breakerClosed := true
  modeBefore := none
  genTally := 0
  pumpTally := 0
  windowEnd := 12000000000
  lookback := 20
  operates := []
  overflow := 0
  firstOut := none
  ambiguous := false
  breakerOpen := none
  precededBy := none

def operate (runClock : Nat) : Operate := ⟨5, 0, true, runClock⟩

def stampAt (runClock : Nat) : Stamp := ⟨1000, 5, 1, runClock⟩

def record (seq : EventSeq) : Record :=
  ⟨seq, 1000, 5, .lineOn, 2, 1, false, true, false, false, 0⟩

/-- A ring that holds sequences 3, 4 and 5. -/
def ring3 : Ring := { Ring.powerOn with
  records := [record 3, record 4, record 5], next := 6, writePos := 3, started := true
  cursors := PerPort.all 3 }

def journalRecord : JournalRecord where
  seq := 7
  second := 0xFFFFFFFF
  cls := 255
  causes := 63
  integral := -2147483648
  retired := 1
  shift := ⟨1, 2, 3, 4⟩
  units := Table.fill 6
    ⟨PerMode.all 281474976710655, 16777215, 16777215, 16777215, some ⟨5, 255, some 47⟩⟩

def presetBody (unit : Byte) : PresetBody :=
  ⟨unit, ⟨999999, 3599999⟩, ⟨0, 0⟩, ⟨0, 0⟩, ⟨0, 0⟩, 9999999, 0, 0⟩

/-! ### Operand checks -/

theorem test_message_of_eleven_bytes_is_refused :
    (Instr.timeMessage .ref1 ([0xA7, 12] ++ List.replicate 9 0)).wellFormed = false := by decide

theorem test_message_without_sync_is_refused :
    (Instr.timeMessage .ref1 ([0xA6, 12] ++ List.replicate 10 0)).wellFormed = false := by decide

theorem test_message_with_other_length_is_refused :
    (Instr.timeMessage .ref1 ([0xA7, 11] ++ List.replicate 10 0)).wellFormed = false := by decide

theorem test_message_is_accepted :
    (Instr.timeMessage .ref1 ([0xA7, 12] ++ List.replicate 10 0)).wellFormed = true := by decide

theorem test_program_that_left_one_byte_is_refused :
    (Instr.programEnd (some [0])).wellFormed = false
      ∧ (Instr.settingsProgramEnd (some [0])).wellFormed = false := by decide

theorem test_program_that_left_nothing_said_is_accepted :
    (Instr.programEnd none).wellFormed = true
      ∧ (Instr.settingsProgramEnd none).wellFormed = true := by decide

theorem test_erase_that_left_too_much_is_refused :
    (Instr.eraseEnd (List.replicate 4097 0)).wellFormed = false
      ∧ (Instr.settingsEraseEnd (List.replicate 4097 0)).wellFormed = false := by decide +kernel

/-- A frame of no bytes ends: its SENDING slot is emptied and the request is refused for its length. -/
theorem test_frame_without_bytes_is_refused :
    let s := calm.setPort .g { calm.port .g with inFrame := true, slotA := .sending ⟨0, .ok, []⟩ }
    let after (t : State) : Option (Bool × Slot × Nat × Nat) :=
      some ((t.port .g).inFrame, (t.port .g).slotA, (t.port .g).refusals, t.freeCount)
    (match exec (.frameEnd .g []) s with
      | .next t => after t
      | _ => none) = some (false, .empty, 1, 1) := by decide +kernel

/-- FRAME released with no SCLK edge is no frame. -/
theorem test_release_without_frame_changes_nothing : exec (.frameEnd .g []) calm = .next calm := rfl

/-- A slew ahead of the boundary of its cycle leaves the word's class and HOLDOVER flag of one reading. -/
theorem test_word_shows_one_reading :
    let s : State := { calm.withTb { calm.tb with
      state := .holdover, cycleState := .holdover, cycleClass := 3, uncertainty := 20000 } with
      due := ⟨true, false, false⟩ }
    let t := s.pulseReport ⟨999, 999996000, 10000000000⟩ 1000 1
    t.tb.state = .locked ∧ t.cls = 2
      ∧ (match exec .secondBoundary t with
        | .next v => v.dist.word.map fun w => (w.cls, w.holdover)
        | _ => none) = some (3, true) := by decide +kernel

theorem test_setting_longer_than_a_body_is_refused :
    (Instr.writeSettings .g 1 0 (List.replicate 59 0)).wellFormed = false := by decide

/-- The sequence of a selector that names none is taken and ignored. -/
theorem test_seek_ignores_unused_sequence :
    (Instr.seekEvents .g 1 5).wellFormed = true
      ∧ ∃ t, exec (.seekEvents .s 1 5) (asked { calm with ring := ring3 } .s (.seekEvents 1 5))
          = .next t ∧ t.ring.cursors.get .s = 6 := ⟨by decide, _, rfl, by decide +kernel⟩

/-! ### One step -/

theorem test_idle_step : step calm = .next calm := rfl

theorem test_nop_is_answered :
    exec (.nop .g) (asked calm .g .nop)
      = .next (calm.setPort .g { calm.port .g with
          slotA := .finished ⟨0, .ok, []⟩ 0, finishCount := 1 }) := rfl

theorem test_pulse_starts_listening :
    ∃ t, exec (.pulseEdge .ref1 true) calm = .next t
      ∧ (t.ref .ref1).state = .listen ∧ t.ring.records.length = 1 := ⟨_, rfl, by decide +kernel⟩

/-- The worked word of 13: class 1 and no flag give a check that sums to zero with the rest. -/
theorem test_word_check :
    ∃ t, exec .secondBoundary { calm with due := ⟨true, false, false⟩ } = .next t
      ∧ t.dist.asserted = true ∧ t.dist.latency = 1
      ∧ ∃ w, t.dist.word = some w ∧ w.second = 1000 ∧ w.invalid = true :=
  ⟨_, rfl, by decide +kernel, by decide +kernel, _, rfl, by decide +kernel, by decide +kernel⟩

theorem test_take_shift :
    ∃ t, exec (.takeShift .s 7) (asked calm .s (.takeShift 7)) = .next t
      ∧ t.shift.identity.crew = 7 ∧ t.ring.records.length = 1 := ⟨_, rfl, by decide +kernel⟩

theorem test_power_loss_keeps_queue :
    exec .powerLoss { calm with pending := [.powerOn] }
      = .next { State.reset with
          phase := .off, flash := ⟨[], .none, false⟩, pending := [.powerOn] } := rfl

/-- A step within the cycle leaves the captures and dates of its edges alone. -/
theorem test_edge_after_step_is_captured_unstepped :
    let s := calm.withTb { calm.tb with state := .acquire }
    let t := s.stepTime 3000000000 1
    t.tb.second = 1003 ∧ t.capture = s.capture ∧ t.reading = s.reading := by decide +kernel

/-- Two fast edges of one cycle carry the same date, though a step lies between them (R61). -/
theorem test_fast_edges_around_step_share_a_date :
    let s := calm.withTb { calm.tb with state := .acquire }
    let date (x : State) (l : LineId) : Option Stamp := ((x.line l).pend).map fun p => p.stamp
    (match exec (.fastLineEdge 0 .masterTrip true) s with
      | .next a => match exec (.fastLineEdge 1 .breaker true) (a.stepTime 3000000000 1) with
        | .next b => some (date b 0, date b 9)
        | _ => none
      | _ => none) = some (some s.reading, some s.reading) := by decide +kernel

/-- The records of a step show the stepped time with the new class; other readings do not. -/
theorem test_step_record_shows_stepped_time :
    let s := calm.withTb { calm.tb with
      state := .acquire, unset := true, cycleClass := 7, alarm := true }
    (s.stepTime 3000000000 1).ring.records.map (fun x => (x.kind, x.second, x.cls))
        = [(.timeStep, 1003, 1), (.quality, 1003, 1), (.handover, 1003, 1)]
      ∧ (s.stepTime 3000000000 1).reading = s.reading := by decide +kernel

/-- The cycle of a boundary in HOLDOVER shows the class after the growth of U (H is 50 ns). -/
theorem test_boundary_cycle_shows_grown_class :
    let s := calm.withTb { calm.tb with
      state := .holdover, nanos := 999999900, uncertainty := 1000, unset := false }
    (match exec .oscillatorCycle s with
      | .next t => some (t.reading.second, t.reading.micros, t.reading.cls, t.cls, t.due.second)
      | _ => none) = some (1001, 0, 2, 1, true) := by decide +kernel

/-- The frame after the end of a RESTART's shows RESTARTED without BUSY and READY. -/
theorem test_restart_shows_in_next_frame :
    let s := { calm.setPort .g { calm.port .g with inFrame := true } with
      pending := [.frameEnd .g Request.restart.frame, .frameBegin .g] }
    (match step s with
      | .next t => match step t with
        | .next u => some ((u.port .g).status.extractLsb' 5 3, (u.port .g).status.getLsbD 2)
        | _ => none
      | _ => none) = some (0, true) := by decide +kernel

/-! ### What the hypotheses of the statements are met by -/

theorem witness_StepTakesFrontCommand :
    { calm with pending := [.powerLoss] }.pending = .powerLoss :: [] ∧ calm.pending = [] := by decide

/-- A cycle whose residue brings an extra nanosecond, one that takes one away, and one between. -/
theorem witness_CycleAdvancesByCorrectedNanoseconds :
    let at_ (residue rate : Int) : State := calm.withTb { calm.tb with residue := residue, rate := rate }
    calm.phase ≠ .off
      ∧ (at_ 999999999 200000).serveDue.tb.residue.natAbs < 1000000000
      ∧ (at_ 999999999 200000).serveDue.tb.rate.natAbs ≤ 200000
      ∧ (at_ (-999999999) (-200000)).serveDue.tb.residue.natAbs < 1000000000
      ∧ (at_ 0 0).serveDue.tb.rate.natAbs ≤ 200000 := by decide +kernel

theorem witness_ClassIsReadFromUncertainty :
    Timebase.powerOn.unset = true ∧ calm.tb.unset = false
      ∧ { calm.tb with uncertainty := 1000 }.cls = 1 ∧ { calm.tb with uncertainty := 1001 }.cls = 2
      ∧ { calm.tb with uncertainty := 10000 }.cls = 2 ∧ { calm.tb with uncertainty := 10001 }.cls = 3
      ∧ { calm.tb with uncertainty := 10000000 }.cls = 5
      ∧ { calm.tb with uncertainty := 10000001 }.cls = 6 := by decide

/-- A boundary in LOCKED, one in HOLDOVER that crosses the alarm class, and one that saturates U. -/
theorem witness_SecondBoundaryGrowsUncertaintyInHoldover :
    let s (state : TbState) (u : Nat) : State := { calm with
      due := ⟨true, false, false⟩, tb := { calm.tb with state := state, uncertainty := u } }
    let w := calm.settings.working
    calm.due.second = false ∧ (s .locked 100).due.second = true ∧ (s .locked 100).tb.state ≠ .holdover
      ∧ (s .holdover 1000000).due.second = true ∧ (s .holdover 1000000).tb.state = .holdover
      ∧ (s .holdover 1000000).tb.cls ≤ w.alarmClass ∧ 0 < w.holdoverDrift
      ∧ w.alarmClass < { (s .holdover 1000000).tb with uncertainty := 1000000 + w.holdoverDrift }.cls
      ∧ (s .holdover 1000000).tb.alarm = false
      ∧ 1000000000 ≤ (s .holdover 999999999).tb.uncertainty + w.holdoverDrift := by decide

/-- e = 500 µs is the default threshold itself: still slewed. -/
theorem witness_PulseWithinThresholdSlews :
    let s : State := calm.withTb { calm.tb with state := .locked }
    let e : Int := ((1000 : Second) - 1000).toInt * 1000000000 - (-500000)
    (s.tb.state = .locked ∨ s.tb.state = .holdover)
      ∧ e.natAbs ≤ s.settings.working.stepThreshold * 1000 := by decide

theorem witness_PulseWithinThresholdSlews_capture :
    let s : State := calm.withTb { calm.tb with state := .holdover }
    let capture : Capture := ⟨999, 999500000, 10000000000⟩
    let e : Int := ((1000 : Second) - capture.second).toInt * 1000000000 - capture.nanos
    (s.tb.state = .locked ∨ s.tb.state = .holdover) ∧ 1 ≤ (5 : Nat) ∧ (5 : Nat) ≤ 5
      ∧ e = 500000 ∧ e.natAbs ≤ s.settings.working.stepThreshold * 1000 := by decide

theorem witness_EarlyOutlierKeepsRate :
    let s : State := calm.withTb { calm.tb with state := .locked, outliers := 1 }
    let capture : Capture := ⟨999, 999499999, 10000000000⟩
    let e : Int := ((1000 : Second) - capture.second).toInt * 1000000000 - capture.nanos
    s.tb.state = .locked ∧ s.tb.outliers < 2 ∧ 1 ≤ (1 : Nat) ∧ (1 : Nat) ≤ 5
      ∧ s.settings.working.stepThreshold * 1000 < e.natAbs := by decide

theorem witness_PulseBeyondThresholdSteps :
    let capture : Capture := ⟨999, 999499999, 10000000000⟩
    let e : Int := ((1000 : Second) - capture.second).toInt * 1000000000 - capture.nanos
    let steps (s : State) : Prop := s.due.second = false ∧ s.ring.started = true
      ∧ (s.tb.state = .acquire
        ∨ (s.settings.working.stepThreshold * 1000 < e.natAbs
          ∧ (s.tb.state = .holdover ∨ (s.tb.state = .locked ∧ s.tb.outliers = 2))))
    steps (calm.withTb { calm.tb with state := .acquire })
      ∧ steps (calm.withTb { calm.tb with state := .holdover })
      ∧ steps (calm.withTb { calm.tb with state := .locked, outliers := 2 }) := by decide

theorem witness_PulseReportInFreeIsDiscarded : calm.tb.state = .free := by decide

theorem witness_SetTimeSetsOrRefuses :
    let s := asked calm .g (.setTime 5 999999)
    let s2 := asked calm .g (.setTime 5 1000000)
    let s3 := asked (calm.withTb { calm.tb with state := .locked }) .g (.setTime 5 0)
    ((s.port .g).waits (.setTime 5 999999) = true ∧ s.tb.state = .free
        ∧ (999999#24).toNat ≤ 999999 ∧ s.due.second = false ∧ s.ring.started = true)
      ∧ ((s2.port .g).waits (.setTime 5 1000000) = true ∧ s2.tb.state = .free
        ∧ 1000000 ≤ (1000000#24).toNat)
      ∧ (s3.port .g).waits (.setTime 5 0) = true ∧ s3.tb.state = .locked := by decide +kernel

theorem witness_FirstEdgeStartsListening :
    calm.watching = true ∧ (calm.ref .ref1).arrived = none ∧ (calm.ref .ref1).state = .absent
      ∧ calm.ring.started = true := by decide

/-- Learning: the high level of 100 ms is the shorter one; below, at and above the decisive limit. -/
def learner (shorter : Option Bool) (firstLength : Nat) : State :=
  calm.setRef .ref1 { Reference.powerOn with
    state := .listen
    learning := ⟨some ⟨9100000000, false⟩, some ⟨true, firstLength⟩, shorter⟩ }

theorem witness_LearningPeriodDecidesPolarity :
    let met (s : State) (first : LevelSpan) : Prop :=
      s.watching = true ∧ (s.ref .ref1).arrived = none ∧ (s.ref .ref1).state = .listen
        ∧ (s.ref .ref1).polarity = none
        ∧ (s.ref .ref1).learning.lastEdge = some ⟨9100000000, false⟩
        ∧ (s.ref .ref1).learning.firstLevel = some first
        ∧ first.length ≠ s.tb.runClock - 9100000000
    (met (learner (some true) 399999999) ⟨true, 399999999⟩
        ∧ min 399999999 (calm.tb.runClock - 9100000000) < 400000000
        ∧ ((learner (some true) 399999999).ref .ref1).learning.shorter = some true)
      ∧ (met (learner none 100000000) ⟨true, 100000000⟩
        ∧ ((learner none 100000000).ref .ref1).learning.shorter = none)
      ∧ (met (learner none 400000000) ⟨true, 400000000⟩
        ∧ 400000000 ≤ min 400000000 (calm.tb.runClock - 9100000000))
      ∧ met (learner (some false) 100000000) ⟨true, 100000000⟩
      ∧ ((learner (some false) 100000000).ref .ref1).learning.shorter = some (!true) := by decide

/-- The window's two ends, a clean second, and one without a message. -/
theorem witness_SecondClosedInCheckIsJudged :
    let met (s : State) : Prop :=
      s.watching = true ∧ (s.ref .ref1).arrived = none ∧ (s.ref .ref1).state = .check
        ∧ (s.ref .ref1).polarity = some true
        ∧ (s.ref .ref1).anchor = some ⟨999, 5000, 9000000000⟩ ∧ (s.ref .ref1).failed = false
        ∧ 9000000000 + 1000000000 ≤ s.tb.runClock + s.settings.working.spacingTolerance * 1000
        ∧ s.tb.runClock ≤ 9000000000 + 1000000000 + s.settings.working.spacingTolerance * 1000
    met (clock (judging .check) 9998000000) ∧ met (clock (judging .check) 10002000000)
      ∧ met ((judging .check).setRef .ref1 { (judging .check).ref .ref1 with count := 2 })
      ∧ met ((judging .check).setRef .ref1 { (judging .check).ref .ref1 with window := none })
      ∧ ((judging .check).ref .ref1).count + 1 < 3 := by decide

theorem witness_ConsistentSecondReportsPulse :
    let s := (judging .qualified).withSel { calm.sel with selected := some .ref1 }
    let w : WindowMessage := ⟨⟨1000, 2, 0, 0⟩, none⟩
    s.watching = true ∧ (s.ref .ref1).arrived = none ∧ (s.ref .ref1).state = .qualified
      ∧ (s.ref .ref1).polarity = some true
      ∧ (s.ref .ref1).anchor = some ⟨999, 5000, 9000000000⟩ ∧ (s.ref .ref1).failed = false
      ∧ 9000000000 + 1000000000 ≤ s.tb.runClock + s.settings.working.spacingTolerance * 1000
      ∧ s.tb.runClock ≤ 9000000000 + 1000000000 + s.settings.working.spacingTolerance * 1000
      ∧ (s.ref .ref1).window = some w ∧ (s.ref .ref1).two = false ∧ w.fault = none
      ∧ (s.ref .ref1).previous = some (w.info.second - 1) ∧ w.info.clean = true
      ∧ (s.ref .ref1).claim = some w.info.claim ∧ s.sel.selected = some .ref1 := by decide

/-- A message of the claim 2, none, and one whose claim 6 is not clean, in both states. -/
theorem witness_SecondMovesQualifiedOrUnsynced :
    let s (state : RefState) (window : Option WindowMessage) : State :=
      ((judging state).setRef .ref1 { (judging state).ref .ref1 with window := window }).withSel
        { calm.sel with selected := some .ref1 }
    let good : WindowMessage := ⟨⟨1000, 2, 0, 0⟩, none⟩
    let unclean : WindowMessage := ⟨⟨1000, 6, 0, 0⟩, none⟩
    ∀ state ∈ [RefState.qualified, .unsynced], ∀ window ∈ [some good, none, some unclean],
      let x := s state window
      x.watching = true ∧ (x.ref .ref1).arrived = none
      ∧ ((x.ref .ref1).state = .qualified ∨ (x.ref .ref1).state = .unsynced)
      ∧ (x.ref .ref1).polarity = some true
      ∧ (x.ref .ref1).anchor = some ⟨999, 5000, 9000000000⟩ ∧ (x.ref .ref1).failed = false
      ∧ 9000000000 + 1000000000 ≤ x.tb.runClock + x.settings.working.spacingTolerance * 1000
      ∧ x.tb.runClock ≤ 9000000000 + 1000000000 + x.settings.working.spacingTolerance * 1000
      ∧ x.sel.selected = some .ref1 ∧ x.ring.started = true
      ∧ (x.ref .ref1).two = false ∧ (x.ref .ref1).previous = some 999 := by decide

/-- The claim of REF1 rises from 2 to 3, beside a REF2 of claim 2 (better) and of claim 3 (not better). -/
theorem witness_ChangedClaimMovesSelection :
    let w : WindowMessage := ⟨⟨1000, 3, 0, 0⟩, none⟩
    let s (other : Nat) : State :=
      (((judging .qualified).setRef .ref1 { (judging .qualified).ref .ref1 with
          window := some w }).setRef .ref2
        { Reference.powerOn with state := .qualified, claim := some other }).withSel
        { calm.sel with selected := some .ref1 }
    let met (x : State) (other : Nat) : Prop :=
      x.watching = true ∧ (x.ref .ref1).arrived = none ∧ (x.ref .ref1).state = .qualified
      ∧ (x.ref .ref1).polarity = some true
      ∧ (x.ref .ref1).anchor = some ⟨999, 5000, 9000000000⟩ ∧ (x.ref .ref1).failed = false
      ∧ 9000000000 + 1000000000 ≤ x.tb.runClock + x.settings.working.spacingTolerance * 1000
      ∧ x.tb.runClock ≤ 9000000000 + 1000000000 + x.settings.working.spacingTolerance * 1000
      ∧ (x.ref .ref1).window = some w ∧ (x.ref .ref1).two = false ∧ w.fault = none
      ∧ (x.ref .ref1).previous = some (w.info.second - 1) ∧ w.info.clean = true
      ∧ (x.ref .ref1).claim ≠ some w.info.claim ∧ x.sel.mode = .auto
      ∧ x.sel.selected = some .ref1 ∧ x.sel.disagree = false
      ∧ (x.ref RefId.ref1.other).state = .qualified
      ∧ (x.ref RefId.ref1.other).claim = some other ∧ x.ring.started = true
    met (s 2) 2 ∧ met (s 3) 3 := by decide

/-- One nanosecond before the window opens, for a second that has not failed and one that has. -/
theorem witness_EarlyPulseFailsSecondOnce :
    let early := clock (judging .qualified) 9997999999
    let failed := early.setRef .ref1 { early.ref .ref1 with failed := true }
    let met (s : State) : Prop := s.watching = true ∧ (s.ref .ref1).arrived = none
      ∧ (s.ref .ref1).judging = true ∧ (s.ref .ref1).polarity = some true
      ∧ (s.ref .ref1).anchor = some ⟨999, 5000, 9000000000⟩
      ∧ s.tb.runClock + s.settings.working.spacingTolerance * 1000 < 9000000000 + 1000000000
    (met early ∧ (early.ref .ref1).failed = false)
      ∧ met failed ∧ (failed.ref .ref1).failed = true := by decide

theorem witness_LatePulseFailsSecond :
    let late := (clock (judging .qualified) 10002000001).withSel
      { calm.sel with selected := some .ref1 }
    ((late.ref .ref1).judging = true ∧ (late.ref .ref1).anchor = some ⟨999, 5000, 9000000000⟩
        ∧ 9000000000 + 1000000000 + late.settings.working.spacingTolerance * 1000 < late.tb.runClock
        ∧ (late.ref .ref1).state = .qualified ∧ late.sel.selected = some .ref1)
      ∧ (∀ a, ((clock (judging .qualified) 10002000000).ref .ref1).anchor = some a →
        10002000000 ≤ a.runClock + 1000000000 + calm.settings.working.spacingTolerance * 1000) := by
  refine ⟨by decide, fun a h => ?_⟩
  cases h
  decide

theorem witness_PulseLossMakesReferenceAbsent :
    let s := clock (judging .check) 3000000000
    ((s.ref .ref1).state ≠ .absent ∧ (s.ref .ref1).lossFrom + 3000000000 ≤ s.tb.runClock)
      ∧ ((calm.ref .ref1).state = .absent)
      ∧ (clock (judging .check) 2999999999).tb.runClock < (s.ref .ref1).lossFrom + 3000000000 := by
  decide

/-- A message that completes 100 ms after the anchor belongs, one a nanosecond earlier does not. -/
theorem witness_MessageIsPlacedInItsSecond :
    let bytes : List Byte := [0xA7, 12] ++ List.replicate 10 0
    let s := clock (judging .check) 9100000000
    s.watching = true ∧ (Instr.timeMessage .ref1 bytes).wellFormed = true
      ∧ ((s.ref .ref1).arrived = none ∧ s.tb.runClock = s.tb.runClock)
      ∧ (s.ref .ref1).judging = true
      ∧ (9000000000 + 100000000 ≤ s.tb.runClock ∧ s.tb.runClock ≤ 9000000000 + 900000000)
      ∧ ¬ 9000000000 + 100000000 ≤ (clock s 9099999999).tb.runClock
      ∧ ((s.setRef .ref1 { s.ref .ref1 with arrived := some ⟨bytes, 9900000001⟩ }).ref .ref1).arrived
        = some ⟨bytes, 9900000001⟩ := by decide

theorem witness_ReceiverAssemblesMessage :
    let at_ (n : Nat) : State := calm.setRef .ref1 { Reference.powerOn with
      received := ([0xA7, 12] ++ List.replicate 9 0).take n, lastByteEnd := 9995000000 }
    let kept (s : State) (gap : Nat) : List Byte :=
      if (s.ref .ref1).lastByteEnd + 5000000 + gap < s.tb.runClock then [] else (s.ref .ref1).received
    (calm.watching = true ∧ ((at_ 11).ref .ref1).arrived = none)
      ∧ (kept (at_ 0) 0 = [] ∧ (kept (at_ 1) 0).length = 1
        ∧ 2 ≤ (kept (at_ 2) 0).length ∧ (kept (at_ 10) 0).length ≤ 10
        ∧ (kept (at_ 11) 0).length = 11)
      ∧ kept (clock (at_ 5) 10000000001) 0 = [] := by decide

theorem witness_PartialMessageTimesOut :
    (calm.ref .ref1).lastByteEnd + 5000000 < (clock calm 5000001).tb.runClock
      ∧ (clock calm 5000000).tb.runClock ≤ (calm.ref .ref1).lastByteEnd + 5000000 := by decide

theorem witness_UnpairedMarkCountsAsDisagreement :
    let s := calm.withSel { calm.sel with unpaired := some ⟨.ref1, 1000, 9499999999⟩ }
    (s.sel.unpaired = some ⟨.ref1, 1000, 9499999999⟩ ∧ 9499999999 + 500000000 < s.tb.runClock
        ∧ s.sel.disagree = false ∧ s.sel.disagreeCount ≠ 2)
      ∧ ((s.withSel { s.sel with disagreeCount := 2 }).sel.disagreeCount = 2
        ∧ (s.withSel { s.sel with disagreeCount := 2 }).ring.started = true)
      ∧ ((s.withSel { s.sel with disagree := true }).sel.disagree = true
        ∧ (s.withSel { s.sel with disagree := true }).sel.unpaired.isSome = true)
      ∧ ∀ m, (calm.withSel { calm.sel with
          unpaired := some ⟨.ref1, 1000, 9500000000⟩ }).sel.unpaired = some m →
        calm.tb.runClock ≤ m.runClock + 500000000 := by
  refine ⟨by decide, by decide, by decide, fun m h => ?_⟩
  cases h
  decide

/-- Pairs of either order, at the disagreement limit and one nanosecond beyond it, at each count that a
clause names. -/
theorem witness_PairOfMarksIsJudged :
    let both (first : RefId) (disagree : Bool) (wrong right : Nat) : State :=
      ((calm.setRef .ref1 { Reference.powerOn with state := .qualified }).setRef .ref2
        { Reference.powerOn with state := .qualified }).withSel
        { calm.sel with
          unpaired := some ⟨first, 1000, 10000000000⟩, disagree := disagree
          disagreeCount := wrong, agreeCount := right }
    let met (s : State) (first : RefId) : Prop :=
      (s.ref .ref1).state = .qualified ∧ (s.ref .ref2).state = .qualified
      ∧ s.sel.unpaired = some ⟨first, 1000, 10000000000⟩
      ∧ s.tb.runClock ≤ 10000000000 + 500000000
    let near (m : Mark) : Prop := ((m.runClock : Int) - 10000000000).natAbs
      ≤ calm.settings.working.disagreementLimit * 1000
    met (both .ref1 false 1 0) .ref1 ∧ met (both .ref2 false 2 0) .ref2
      ∧ met (both .ref1 true 0 8) .ref1 ∧ met (both .ref2 true 0 9) .ref2
      ∧ (both .ref1 false 1 0).sel.disagree = false ∧ (both .ref1 false 1 0).sel.disagreeCount < 2
      ∧ (both .ref2 false 2 0).sel.disagreeCount = 2 ∧ (both .ref2 true 0 9).sel.disagree = true
      ∧ (both .ref1 true 0 8).sel.agreeCount ≠ 9 ∧ (both .ref2 true 0 9).sel.agreeCount = 9
      ∧ near ⟨.ref2, 1000, 10000100000⟩ ∧ ¬ near ⟨.ref2, 1000, 10000100001⟩
      ∧ RefId.ref1 ≠ .ref2 ∧ (1000 : Second) ≠ 1001 := by decide

theorem witness_SelectReferenceSetsModeAndSelection :
    ((asked calm .g (.selectReference 0)).port .g).waits (.selectReference 0) = true
      ∧ ((asked calm .g (.selectReference 3)).port .g).waits (.selectReference 3) = true
      ∧ ((asked calm .g (.selectReference 4)).port .g).waits (.selectReference 4) = true
      ∧ 3 < (4 : Byte).toNat ∧ (3 : Byte).toNat ≤ 3 := by decide +kernel

theorem witness_SelectionChangeMovesTimebase :
    let s (state : TbState) : State := (asked (judging .qualified) .g (.selectReference 3)).withSel
      { calm.sel with selected := some .ref1 } |>.withTb { calm.tb with state := state }
    (((s .locked).port .g).waits (.selectReference 3) = true
        ∧ (s .locked).sel.selected = some .ref1 ∧ (s .locked).tb.state = .locked)
      ∧ (s .acquire).tb.state = .acquire
      ∧ (((asked (judging .qualified) .g (.selectReference 1)).port .g).waits (.selectReference 1)
          = true
        ∧ (judging .qualified).sel.selected = none
        ∧ ((judging .qualified).ref .ref1).state = .qualified
        ∧ (judging .qualified).tb.state = .free) := by decide +kernel

theorem witness_BoundaryBeginsStrobeAndWord :
    { calm with due := ⟨true, false, false⟩ }.due.second = true
      ∧ calm.tb.second.toNat % 60 ≠ 0 := by decide

theorem witness_StrobeReleasesAtItsWidth :
    let s := calm.withDist { calm.dist with asserted := true, lead := 9990000000, width := 10000000 }
    (s.dist.asserted = true ∧ s.dist.lead + s.dist.width ≤ s.tb.runClock)
      ∧ (clock s 9999999999).tb.runClock < s.dist.lead + s.dist.width := by decide

theorem witness_WordIsClockedFromItsLeadingEdge :
    let w : TimeWord := ⟨1000, 1, false, false, false, false, 0⟩
    let s (changes : Nat) : State := calm.withDist { calm.dist with
      word := some w, wordState := .delay, lead := 9990000000, delay := 1, halfPeriod := 50000
      changes := changes }
    ((s 0).dist.wordState ≠ .idle ∧ (s 0).dist.word = some w ∧ (s 95).dist.changes < 96
        ∧ (s 95).dist.lead + (2 * (s 95).dist.delay + (s 95).dist.changes) * (s 95).dist.halfPeriod
          ≤ calm.tb.runClock
        ∧ (s 0).dist.changes % 2 = 0 ∧ (s 95).dist.changes % 2 = 1)
      ∧ ((s 96).dist.lead + (2 * (s 96).dist.delay + 96) * (s 96).dist.halfPeriod ≤ calm.tb.runClock)
      ∧ calm.dist.wordState = .idle := by decide

theorem witness_EchoCheckDrivesFaultLatch :
    let s (fault : Bool) (correct : Nat) : State := calm.withDist { calm.dist with
      echoPending := true, lead := 9995000000, width := 10000000, fault := fault, correct := correct }
    (s false 0).dist.echoPending = true
      ∧ (s false 0).dist.lead + (s false 0).dist.width / 2 ≤ calm.tb.runClock
      ∧ (s false 0).ring.started = true
      ∧ (s true 8).dist.correct ≠ 9 ∧ (s true 9).dist.correct = 9 ∧ (s true 9).dist.fault = true := by
  decide

theorem witness_StepCutsWhatOutlastsTheBoundary :
    let s := (asked calm .g (.setTime 5 999999)).withDist { calm.dist with
      wordState := .sending, asserted := true, lead := 9999000000, delay := 1, halfPeriod := 50000
      width := 10000000 }
    (s.port .g).waits (.setTime 5 999999) = true ∧ (s.tb.state = .free ∨ s.tb.state = .holdover)
      ∧ (999999#24).toNat ≤ 999999 ∧ s.due.second = false
      ∧ s.tb.runClock + 1000 < s.dist.lead + s.dist.width := by decide +kernel

/-- Unit 1 is out of test, unit 2 in test. -/
theorem witness_BaselineTakesLevelsWithoutRecord :
    let s : State := { calm.setMode 1 { calm.modeOf 1 with test := some ⟨stampAt 1, 20000000000⟩ } with
      due := ⟨false, false, true⟩, lines := { calm.lines with awaiting := true } }
    s.due.scan = true ∧ s.lines.awaiting = true ∧ s.phase = .running
      ∧ (s.modeOf 0).test = none ∧ (s.modeOf 1).test.isSome = true := by decide +kernel

/-- A unit out of test and, in a state no run reaches, one in test. -/
theorem witness_FirstBaselineEndsPowerOnSequence :
    let s : State := { calm.setMode 1 { calm.modeOf 1 with test := some ⟨stampAt 1, 20000000000⟩ } with
      phase := .baselining, due := ⟨false, false, true⟩, ring := { Ring.powerOn with
        deferred := [{ kind := .journal, field := 0xFF, stamp := stampAt 0, datum := 3 }] }
      lines := { calm.lines with awaiting := true } }
    s.due.scan = true ∧ s.lines.awaiting = true ∧ s.phase = .baselining ∧ s.ring.records = []
      ∧ s.ring.deferred.length ≤ 1000
      ∧ (s.modeOf 0).test = none ∧ (s.modeOf 1).test.isSome = true := by decide +kernel

theorem witness_FastEdgeOpensOrFollowsPendingChange :
    let l := fastLine 0 .breaker
    let s := calm.setLine l { calm.line l with pend := some ⟨stampAt 1, true, 1, 1⟩ }
    (calm.phase = .running ∧ calm.lines.awaiting = false ∧ (calm.line l).raw = !true
        ∧ (calm.line l).pend = none ∧ (true != (calm.line l).inverted) ≠ (calm.line l).filtered)
      ∧ (s.line l).pend = some ⟨stampAt 1, true, 1, 1⟩ ∧ (s.line l).raw = !true := by decide +kernel

theorem witness_FastDebounceAcceptsOrCancels :
    let l := fastLine 0 .masterTrip
    let s (atPending : Bool) : State := calm.setLine l { calm.line l with
      filtered := true, pend := some ⟨stampAt 1, atPending, 9999800000, 1⟩ }
    (((s true).line l).pend = some ⟨stampAt 1, true, 9999800000, 1⟩
        ∧ (s true).phase = .running ∧ (s true).lines.awaiting = false
        ∧ 9999800000 + calm.settings.atCycle.fastDebounce * 1000 ≤ calm.tb.runClock
        ∧ ((s true).line l).chatter = .quiet ∧ ((s true).line l).role = .masterTrip
        ∧ (s true).ring.started = true ∧ ((s true).line l).filtered = true)
      ∧ ((s false).line l).pend = some ⟨stampAt 1, false, 9999800000, 1⟩
      ∧ (clock calm 9999999999).tb.runClock
        < 9999800000 + calm.settings.atCycle.fastDebounce * 1000 := by decide +kernel

/-- Debounce 0 gives k = 0 and the default 8, so both cases of a first sample occur, and a run of 8
samples stands where the 9th decides. -/
theorem witness_ScanInstantDebouncesEachScannedLine :
    let s : State := { calm with due := ⟨false, false, true⟩ }
    let k (debounce : Nat) : Nat := (debounce + (s.lines.period - 1)) / s.lines.period
    let l : LineId := 2
    let p := s.setLine l { s.line l with pend := some ⟨stampAt 1, true, 1, 8⟩ }
    (s.phase = .running ∧ s.lines.awaiting = false ∧ s.due.scan = true)
      ∧ (k 0 = 0 ∧ k s.settings.working.scannedDebounce = 8 ∧ k 500 = 1 ∧ k 550 = 2)
      ∧ ((s.line l).pend = none ∧ (((4 : BitVec 48).getLsbD l.val != (s.line l).inverted)
        != (s.line l).filtered) = true)
      ∧ (p.line l).pend = some ⟨stampAt 1, true, 1, 8⟩ := by decide +kernel

theorem witness_ChatterWindowCloses :
    let s := calm.setLine 7 { calm.line 7 with chatter := .counting 8000000000 false 1 }
    (s.line 7).chatter = .counting 8000000000 false 1
      ∧ s.tb.runClock ≤ 8000000000 + s.settings.atCycle.chatterWindow * 1000000000
      ∧ 8000000000 + s.settings.atCycle.chatterWindow * 1000000000
        < (clock s 10000000001).tb.runClock := by decide +kernel

/-- A quiet line, one within its window one below the limit, and one whose window has ended. -/
theorem witness_AcceptedChangeIsCounted :
    let s (count : Nat) : State :=
      calm.setLine 7 { calm.line 7 with chatter := .counting 8000000000 false count }
    let limit := calm.settings.working.chatterLimit
    (2 ≤ (7 : LineId).val % 8 ∧ (calm.line 7).role = .event ∧ calm.ring.started = true ∧ 1 < limit
        ∧ (calm.line 7).chatter = .quiet)
      ∧ ((s 8).line 7).role = .event ∧ ((s 8).line 7).chatter = .counting 8000000000 false 8
      ∧ (s 8).tb.runClock ≤ 8000000000 + (s 8).settings.atCycle.chatterWindow * 1000000000
      ∧ 8 + 1 < limit
      ∧ 8000000000 + (s 8).settings.atCycle.chatterWindow * 1000000000
        < (clock (s 8) 10000000001).tb.runClock := by decide +kernel

theorem witness_ChatterHoldsLineAtBaseLevel :
    let s := calm.setLine 7 { calm.line 7 with chatter := .counting 8000000000 false 9 }
    let h := calm.setLine 7 { calm.line 7 with chatter := .chattering false 8000000000 }
    (2 ≤ (7 : LineId).val % 8 ∧ (s.line 7).role = .event ∧ s.ring.started = true
        ∧ (s.line 7).chatter = .counting 8000000000 false 9
        ∧ s.tb.runClock ≤ 8000000000 + s.settings.atCycle.chatterWindow * 1000000000
        ∧ s.settings.working.chatterLimit ≤ 9 + 1)
      ∧ (h.line 7).role ≠ .spare ∧ (h.line 7).chatter = .chattering false 8000000000 := by
  decide +kernel

/-- A RUNNING line and a TRIP_CAUSE line at the limit. -/
theorem witness_ChatterOnHandsHeldLevel :
    let s (role : Role) : State := calm.setLine 7 { calm.line 7 with
      role := role, filtered := true, chatter := .counting 8000000000 false 9 }
    let met (x : State) : Prop := 2 ≤ (7 : LineId).val % 8 ∧ x.ring.started = true
      ∧ (x.line 7).filtered = true ∧ (x.line 7).chatter = .counting 8000000000 false 9
      ∧ x.tb.runClock ≤ 8000000000 + x.settings.atCycle.chatterWindow * 1000000000
      ∧ x.settings.working.chatterLimit ≤ 9 + 1
    (met (s .running) ∧ levelOfRole ((s .running).line 7).role = some .running
        ∧ ((s .running).line 7).role ≠ .breaker)
      ∧ met (s .tripCause) ∧ ((s .tripCause).line 7).role = .tripCause := by decide +kernel

theorem witness_ChatterEndsAfterQuietWindow :
    let h := calm.setLine 7 { calm.line 7 with chatter := .chattering false 8000000000 }
    (h.line 7).chatter = .chattering false 8000000000
      ∧ 8000000000 + h.settings.atCycle.chatterWindow * 1000000000 ≤ h.tb.runClock
      ∧ h.ring.started = true
      ∧ (clock h 9999999999).tb.runClock
        < 8000000000 + h.settings.atCycle.chatterWindow * 1000000000
      ∧ (h.setLine 7 { h.line 7 with filtered := true }).line 7
        = { h.line 7 with filtered := true } := by decide +kernel

/-- A settle time written up from 3000 to 3001 in the present cycle holds the end of the old one back, and
one written down to 2999 is not yet the cycle's. A start and a settling that is none, a count below its cap and
one at it, a running summary. -/
theorem witness_CandidateSettlesAfterSettleTime :
    let s := calm.setMode 0 { calm.modeOf 0 with
      settled := some .stand, candidate := some ⟨.spin, stampAt 7000000000⟩ }
    let w (working atCycle : Nat) : State := { s with settings := { s.settings with
      working := { s.settings.working with settleTime := working }
      atCycle := { s.settings.atCycle with settleTime := atCycle } } }
    let passed (x : State) (y : Settings) : Prop :=
      7000000000 + y.settleTime * 1000000 ≤ x.tb.runClock
    (s.modeOf 0).candidate = some ⟨.spin, stampAt 7000000000⟩
      ∧ passed s s.settings.working ∧ passed s s.settings.atCycle ∧ s.ring.started = true
      ∧ (clock s 9999999999).tb.runClock < 7000000000 + s.settings.working.settleTime * 1000000
      ∧ ((s.modeOf 0).settled = some .stand ∧ Mode.spin ≠ .stand)
      ∧ (s.tallyOf 0).starts < 9999999 ∧ s.shift.running = some summary
      ∧ ¬ ((s.setTally 0 { s.tallyOf 0 with starts := 9999999 }).tallyOf 0).starts < 9999999
      ∧ ((s.setMode 0 { s.modeOf 0 with settled := some .gen }).modeOf 0).settled ≠ some .stand
      ∧ ¬ passed (w 3001 3000) (w 3001 3000).settings.working
      ∧ ¬ passed (w 2999 3001) (w 2999 3001).settings.atCycle := by
  decide +kernel

theorem witness_ModeIsDerivedByTable :
    (⟨false, true, true, true⟩ : ModeLevels).derived = .stand
      ∧ (⟨true, false, true, true⟩ : ModeLevels).derived = .spin
      ∧ (⟨true, true, true, true⟩ : ModeLevels).derived = .cond
      ∧ (⟨true, true, true, false⟩ : ModeLevels).derived = .pump
      ∧ (⟨true, true, false, false⟩ : ModeLevels).derived = .gen := by decide

/-- Without a candidate and with one still standing, a level now and one whose settle time has passed,
which replaces a candidate of another mode too; a breaker that closes. -/
theorem witness_LevelDerivesModeOutsideTestOnly :
    let t := calm.setMode 0 { calm.modeOf 0 with test := some ⟨stampAt 1, 20000000000⟩ }
    let c := calm.setMode 0 { calm.modeOf 0 with
      settled := some .stand, candidate := some ⟨.spin, stampAt 7000000001⟩ }
    let late (x : Stamp) : Prop :=
      x.runClock + calm.settings.working.settleTime * 1000000 ≤ calm.tb.runClock
    (t.modeOf 0).test.isSome = true ∧ (calm.modeOf 0).test = none ∧ (calm.modeOf 0).candidate = none
      ∧ ¬ late (stampAt 10000000000)
      ∧ ((c.modeOf 0).test = none ∧ (c.modeOf 0).candidate = some ⟨.spin, stampAt 7000000001⟩
        ∧ ¬ late (stampAt 7000000001))
      ∧ (late (stampAt 7000000000)
        ∧ (calm.modeOf 0).settled ≠ some ((calm.modeOf 0).levels.set .running true).derived)
      ∧ ((c.modeOf 0).settled ≠ some (ModeLevels.set ⟨true, false, false, false⟩ .breaker true).derived
        ∧ Mode.spin ≠ (ModeLevels.set ⟨true, false, false, false⟩ .breaker true).derived
        ∧ (c.modeOf 0).settled = some .stand ∧ (c.modeOf 0).levels.breaker = false) := by
  decide +kernel

def tested : State := calm.setMode 0 { calm.modeOf 0 with test := some ⟨stampAt 1, 10000000000⟩ }

theorem witness_SetTestPutsUnitInTest :
    ((asked calm .g (.setTest 1)).port .g).waits (.setTest 1) = true
      ∧ (calm.modeOf 0).test = none ∧ (1 : Byte).toNat = (0 : UnitId).val + 1
      ∧ ((asked tested .g (.setTest 1)).port .g).waits (.setTest 1) = true
      ∧ (tested.modeOf 0).test.isSome = true
      ∧ ((asked calm .g (.setTest 7)).port .g).waits (.setTest 7) = true
      ∧ 6 < (7 : Byte).toNat := by decide +kernel

theorem witness_TestEndsWithFreshDerivation :
    ((asked tested .g (.endTest 1)).port .g).waits (.endTest 1) = true
      ∧ ((asked calm .g (.endTest 0)).port .g).waits (.endTest 0) = true
      ∧ (tested.modeOf 0).test = some ⟨stampAt 1, 10000000000⟩
      ∧ 10000000000 ≤ tested.tb.runClock ∧ tested.ring.started = true
      ∧ (clock tested 9999999999).tb.runClock < 10000000000
      ∧ 0 < tested.settings.working.settleTime ∧ (tested.modeOf 0).candidate = none := by
  decide +kernel

theorem witness_RecordTakesNextSequence :
    ring3.started = true
      ∧ 1024 ≤ { ring3 with records := List.replicate 1024 (record 0) }.records.length := by
  decide +kernel

theorem witness_ReadEventsReturnsRecordsFromCursor :
    let s := asked { calm with ring := ring3 } .p (.readEvents 9)
    (s.port .p).waits (.readEvents 9) = true
      ∧ (s.ring.cursors.get .p - (s.ring.next - BitVec.ofNat 32 s.ring.records.length)).toNat = 0 := by
  decide +kernel

/-- One past the newest, the youngest and the oldest discarded, and the first value that is neither. -/
theorem witness_SeekEventsJudgesByPosition :
    let s (selector : Byte) (seq : EventSeq) : State :=
      asked { calm with ring := ring3 } .s (.seekEvents selector seq)
    let oldest : EventSeq := 3
    ring3.next - BitVec.ofNat 32 ring3.records.length = oldest
      ∧ ((s 0 0).port .s).waits (.seekEvents 0 0) = true
      ∧ ((s 1 0).port .s).waits (.seekEvents 1 0) = true
      ∧ (((s 2 6).port .s).waits (.seekEvents 2 6) = true
        ∧ ((6 : EventSeq) - oldest).toNat ≤ ring3.records.length)
      ∧ (((s 2 2).port .s).waits (.seekEvents 2 2) = true
        ∧ ring3.records.length < ((2 : EventSeq) - oldest).toNat
        ∧ (oldest - 2).toNat ≤ 2147483648)
      ∧ (ring3.records.length < ((2147483651 : EventSeq) - oldest).toNat
        ∧ (oldest - 2147483651).toNat ≤ 2147483648)
      ∧ (((s 2 2147483650).port .s).waits (.seekEvents 2 2147483650) = true
        ∧ ring3.records.length < ((2147483650 : EventSeq) - oldest).toNat
        ∧ 2147483648 < (oldest - 2147483650).toNat)
      ∧ ((s 3 0).port .s).waits (.seekEvents 3 0) = true ∧ 2 < (3 : Byte).toNat := by decide +kernel

theorem witness_RingStaysSound :
    ring3.sound ∧ ∃ t, step { calm with ring := ring3, pending := [.readTime .g] } = .next t := by
  refine ⟨⟨by decide, by decide, fun q => ?_, fun i x h => ?_⟩, _, rfl⟩
  · cases q <;> decide
  · rcases i with _ | _ | _ | i
    · cases h; decide
    · cases h; decide
    · cases h; decide
    · cases h

theorem witness_FlashStaysCanonical :
    let s : State := { calm with
      flash := ⟨[(0, 0x5C), (7, 0)], .erase 0, false⟩, pending := [.eraseEnd []] }
    s.flash.sound ∧ ∃ t, step s = .next t := ⟨by unfold Flash.sound; decide, _, rfl⟩

theorem witness_TimebaseStaysInRange :
    calm.tb.sound ∧ ∃ t, step { calm with pending := [.oscillatorCycle] } = .next t := by
  refine ⟨?_, _, rfl⟩
  unfold Timebase.sound
  decide

theorem witness_TripOpensFile :
    let full (state : FileState) : State := { calm with
      trips := ⟨Table.fill 16 (some { openFile with state := state, unit := 1 }), []⟩ }
    ((0 : LineId).val = 8 * (0 : UnitId).val ∧ calm.openSlot 0 = none ∧ calm.ring.started = true
        ∧ calm.file 0 = none)
      ∧ ((full .acknowledged).openSlot 0 = none
        ∧ (full .acknowledged).file 0
          = some { openFile with state := .acknowledged, unit := 1 })
      ∧ (full .closed).openSlot 0 = none
      ∧ (full .closed).file 15 = some { openFile with state := .closed, unit := 1 }
      ∧ (calm.modeOf 0).test = none ∧ (calm.tallyOf 0).trips < 9999999
      ∧ calm.shift.running = some summary := by
  decide +kernel

/-- The trip count and the summary's at their caps and below, out of test and in test (R134, R178). -/
theorem test_tripIsCountedAndTold :
    let trip (s : State) : State := s.tripsTake .masterTrip ⟨0, true, stampAt 9⟩
    let capped := calm.setTally 0 { calm.tallyOf 0 with trips := 9999999 }
    let tested := calm.setMode 0 { calm.modeOf 0 with test := some ⟨stampAt 1, 20000000000⟩ }
    let told (s : State) : Bool × Bool :=
      ((trip s).journal.countChanged, (trip s).journal.pending.getLsbD 1)
    told calm = (true, true) ∧ told (clock calm 9999999999) = (true, false)
      ∧ told capped = (false, false) ∧ told tested = (false, false) := by decide +kernel

/-- A start in the same settling as a rise of its count (R82, R134, R178). -/
theorem test_startIsCountedInTallyAndSummary :
    let s := calm.setMode 0 { calm.modeOf 0 with
      settled := some .stand, candidate := some ⟨.spin, stampAt 7000000000⟩ }
    let t := s.settle 0
    (t.tallyOf 0).starts = 1 ∧ t.journal.pending = 2#6
      ∧ t.shift.running.map (fun m => (m.units.get 0).starts) = some 1 := by decide +kernel

/-- The lookback limit itself is offered, one nanosecond earlier is not. -/
theorem witness_OperateTakesItsPlace :
    LineId.scanned 5 = true
      ∧ (stampAt 9980000000).runClock + openFile.lookback * 1000000 = openFile.runClock
      ∧ (stampAt 9979999999).runClock + openFile.lookback * 1000000 < openFile.runClock
      ∧ openFile.operates.length < 16
      ∧ (∀ x ∈ [operate 9990000000], (stampAt 9980000000).runClock < x.runClock)
      ∧ (List.replicate 16 (operate 9990000000)).length = 16
      ∧ (∀ x ∈ List.replicate 16 (operate 9990000000), x.runClock < (stampAt 9990000001).runClock) := by
  decide

/-- Operates as early as the new one on a lower, the same and a higher line, in a list with room and in a
full one; a repeat MASTER_TRIP. -/
theorem witness_TiedOperatesKeepLineOrder :
    let f : TripFile := { openFile with operates := [operate 9990000000, operate 9990000001] }
    let full : TripFile := { openFile with operates := List.replicate 16 (operate 9990000000) }
    let met (g : TripFile) : Bool := decide (g.runClock ≤ 9990000000 + g.lookback * 1000000
      ∧ g.operates.length ≤ 16
      ∧ g.operates.Pairwise fun a b =>
        a.runClock < b.runClock ∨ (a.runClock = b.runClock ∧ a.line ≤ b.line))
    met f = true ∧ met full = true
      ∧ (f.offer ⟨4, true, stampAt 9990000000⟩).operates.map Operate.line = [4, 5, 5]
      ∧ (f.offer ⟨6, true, stampAt 9990000000⟩).operates.map Operate.line = [5, 6, 5]
      ∧ (f.offer ⟨5, true, stampAt 9990000000⟩).operates.map Operate.line = [5, 5, 5]
      ∧ (f.offer ⟨0, true, stampAt 9990000001⟩).operates.map Operate.scanned = [true, false, true]
      ∧ (full.offer ⟨4, true, stampAt 9990000000⟩).overflow = 1 := by decide +kernel

/-- One line at the earliest place, two there, and a repeat MASTER_TRIP alone there. -/
theorem witness_FirstOutIsLowestCauseAtEarliestPlace :
    let f : TripFile := { openFile with operates := [operate 9990000000] }
    let repeated : TripFile := { openFile with operates := [⟨0, 0, false, 9990000000⟩] }
    let met (g : TripFile) : Bool := decide (g.runClock ≤ 9990000000 + g.lookback * 1000000
      ∧ g.operates.length ≤ 16
      ∧ g.operates.Pairwise fun a b =>
        a.runClock < b.runClock ∨ (a.runClock = b.runClock ∧ a.line ≤ b.line))
    let out (g : TripFile) : Option LineId × Bool := (g.firstOut, g.ambiguous)
    met f = true ∧ met repeated = true
      ∧ out (f.offer ⟨4, true, stampAt 9990000001⟩) = (some 5, false)
      ∧ out (f.offer ⟨4, true, stampAt 9990000000⟩) = (some 4, true)
      ∧ out (repeated.offer ⟨4, true, stampAt 9990000001⟩) = (none, false) := by decide +kernel

/-- The breaker's release at the lookback's own instant, one nanosecond before it, and a second one. -/
theorem witness_OpenFileTakesOperatesAndFirstRelease :
    let o := { calm.setSlot 3 (some openFile) with
      trips := { (calm.setSlot 3 (some openFile)).trips with order := [3] } }
    let released := o.setSlot 3 (some { openFile with breakerOpen := some 5 })
    (5 : LineId).val / 8 = (0 : UnitId).val ∧ o.openSlot 0 = some 3 ∧ o.file 3 = some openFile
      ∧ openFile.breakerOpen = none
      ∧ openFile.runClock ≤ (stampAt 9980000000).runClock + openFile.lookback * 1000000
      ∧ (stampAt 9979999999).runClock + openFile.lookback * 1000000 < openFile.runClock
      ∧ released.openSlot 0 = some 3
      ∧ released.file 3 = some { openFile with breakerOpen := some 5 }
      ∧ calm.openSlot 0 = none := by decide +kernel

theorem witness_WindowEndClosesFile :
    let s := clock (calm.setSlot 3 (some openFile)) 12000000000
    s.file 3 = some openFile ∧ openFile.state = .opened ∧ openFile.windowEnd ≤ s.tb.runClock
      ∧ s.ring.started = true ∧ (clock s 11999999999).tb.runClock < openFile.windowEnd
      ∧ (openFile.test = false ∧ openFile.breakerClosed = true ∧ openFile.breakerOpen = none)
      ∧ { openFile with breakerOpen := some 5 }.breakerOpen ≠ none := by decide +kernel

theorem witness_TripFileIsAcknowledgedThenCleared :
    let s (state : FileState) (r : Request) : State :=
      asked (calm.setSlot 15 (some { openFile with state := state })) .s r
    (((s .closed (.acknowledgeTripFile 15 1000)).port .s).waits (.acknowledgeTripFile 15 1000) = true
        ∧ (s .closed .nop).file 15 = some { openFile with state := .closed })
      ∧ (((s .acknowledged (.clearTripFile 15 1000)).port .s).waits (.clearTripFile 15 1000) = true
        ∧ (s .acknowledged .nop).file 15 = some { openFile with state := .acknowledged })
      ∧ ((s .closed (.clearTripFile 16 1000)).port .s).waits (.clearTripFile 16 1000) = true
      ∧ 15 < (16 : Byte).toNat := by decide +kernel

theorem witness_MillisecondCountsEveryUnit :
    let s : State := { calm with due := ⟨false, true, false⟩ }
    let u := s.setTally 0 { s.tallyOf 0 with
      counted := some .gen, tallies := { PerMode.all 0 with gen := 3599999999998 } }
    calm.due.millisecond = false ∧ u.due.millisecond = true ∧ (u.tallyOf 0).counted = some .gen
      ∧ (u.tallyOf 1).counted = none ∧ u.shift.running = some summary := by decide +kernel

theorem witness_PermitIsGrantedAndLapses :
    let p := calm.setTally 2 { calm.tallyOf 2 with permit := some 1000000000 }
    ((asked calm .s (.permitPreset 6)).port .s).waits (.permitPreset 6) = true
      ∧ calm.tally.locked = false ∧ (6 : Byte).toNat = (5 : UnitId).val + 1
      ∧ 6 < (7 : Byte).toNat
      ∧ (p.tallyOf 2).permit = some 1000000000
      ∧ 1000000000 + 600000000000 ≤ (clock p 601000000000).tb.runClock
      ∧ (clock p 600999999999).tb.runClock < 1000000000 + 600000000000 := by decide +kernel

/-- The highest values in range with every gate open, then each gate closed in the order they are
judged in; a permit past its life that no PERMIT_LAPSE has removed still stands. -/
theorem witness_PresetTallyIsJudgedInOrder :
    let b := presetBody 1
    let s := asked ((calm.setTally 0 { calm.tallyOf 0 with permit := some 1 }).setMode 0
      { calm.modeOf 0 with settled := some .stand }) .g (.presetTally b)
    (s.port .g).waits (.presetTally b) = true ∧ b.unit.toNat = (0 : UnitId).val + 1
      ∧ (b.spin.hours.toNat ≤ 999999 ∧ b.spin.millis.toNat ≤ 3599999 ∧ b.starts.toNat ≤ 9999999)
      ∧ s.tally.locked = false ∧ s.journal.state ≠ .failed
      ∧ (s.tallyOf 0).permit = some 1
      ∧ ((clock s 600000000001).tallyOf 0).permit = some 1
      ∧ (s.modeOf 0).settled = some .stand ∧ s.ring.started = true
      ∧ (calm.tallyOf 0).permit = none ∧ (calm.modeOf 0).settled ≠ some .stand
      ∧ ((asked calm .g (.presetTally (presetBody 7))).port .g).waits (.presetTally (presetBody 7))
        = true := by decide +kernel

theorem witness_LockPresetsRemovesPermits :
    ((asked calm .g .lockPresets).port .g).waits .lockPresets = true ∧ calm.tally.locked = false
      ∧ calm.ring.started = true
      ∧ ({ asked calm .g .lockPresets with tally := { calm.tally with locked := true } }.port
        .g).waits .lockPresets = true := by decide +kernel

/-- Six minutes after recovery, a nanosecond before, and an interval written down from 7 minutes in the
present cycle. -/
theorem witness_IntervalAndPaceRequestCheckpoints :
    let j (mark : Bool) : State := calm.withJournal { calm.journal with countChanged := mark }
    let w : Settings := { calm.settings.working with checkpointInterval := 7 }
    let passed (s : State) (x : Settings) : Prop :=
      s.journal.recoveredAt + x.checkpointInterval * 60 * 1000000000 ≤ s.tb.runClock
    calm.phase = .running ∧ calm.journal.state ≠ .failed ∧ calm.journal.lastCapture = none
      ∧ passed (clock calm 360000000000) calm.settings.working
      ∧ passed (clock calm 360000000000) calm.settings.atCycle
      ∧ ¬ passed (clock calm 359999999999) calm.settings.working
      ∧ ¬ passed (clock calm 360000000000) w
      ∧ (j true).journal.recoveredAt + 10000000000 ≤ (j true).tb.runClock
      ∧ (j true).journal.countChanged = true ∧ (j false).journal.countChanged = false := by
  decide +kernel

theorem witness_CheckpointCapturesPresentValues :
    let s := calm.withJournal { calm.journal with pending := 1 }
    (s.phase = .running ∧ s.journal.pending ≠ 0 ∧ s.journal.state ≠ .failed ∧ s.flash.op = .none
        ∧ s.journal.taken = false ∧ s.journal.reErase = none ∧ s.journal.owedErase = none
        ∧ s.journal.retry = none)
      ∧ calm.journal.pending = 0
      ∧ (s.withJournal { s.journal with taken := true }).journal.taken = true
      ∧ (s.withJournal { s.journal with retry := some journalRecord }).journal.retry ≠ none := by
  decide +kernel

/-- A journal whose program of `journalRecord` into a slot of sector 0 is in flight. -/
def programming (slot : Fin 8) (j : Journal) : State := { calm with
  journal := { j with sector := 0, slot := slot }
  flash := ⟨[], .program 0 slot journalRecord, false⟩ }

/-- The programmed bytes read back in an erased slot, and not in one that is left as zeros. -/
theorem witness_ProgramIsVerifiedOrRetried :
    let s (slot : Fin 8) : State := programming slot calm.journal
    ((s 0).flash.op = .program (s 0).journal.sector (s 0).journal.slot journalRecord
        ∧ (s 0).journal.state = .normal ∧ (s 0).journal.retired = 0 ∧ (s 0).journal.taken = false
        ∧ (s 0).journal.stage ≠ .waiting
        ∧ (s 0).journal.reErase = none ∧ (s 0).journal.owedErase = none
        ∧ (s 0).journal.retry = none ∧ (s 0).settings.save = none
        ∧ (s 0).journal.retireOnLeave = false ∧ (s 0).journal.slot ≠ 7)
      ∧ (s 7).journal.slot = 7 ∧ (s 7).flash.op = .program 0 7 journalRecord
      ∧ journalRecord.bytes.length = 512 := by decide +kernel

theorem witness_ProgramIsVerifiedOrRetried_bytes :
    (Memory.replace [] 0 journalRecord.bytes.length journalRecord.bytes).slice 0
        journalRecord.bytes.length = journalRecord.bytes
      ∧ ((Memory.replace [] 0 512 (List.replicate 512 0)).slice 0 512).head?
        ≠ journalRecord.bytes.head? :=
  ⟨Memory.slice_replace (by decide) _ _, by decide +kernel⟩

/-- A program whose read-back alone differed fails and is retried in the next slot (R153). -/
theorem test_failedProgramIsRetried :
    let t := (programming 6 calm.journal).programEnd (some journalRecord.bytes)
    t.journal.newest = none ∧ t.journal.slot = 7 ∧ t.journal.programFailures = 1
      ∧ t.flash.op = .program 0 7 journalRecord := by decide +kernel

/-- Its slot holds a valid copy of the record (R153). -/
theorem test_failedProgramLeavesValidCopy :
    (Memory.afterProgram [] (slotAddress 0 6) journalRecord.bytes (some journalRecord.bytes)).slotKind 0 6
      = .valid (journalRecordOf journalRecord.bytes) :=
  Memory.slotKind_afterProgram_copy (by decide) 0 6 (by decide +kernel)
    (recordSound_sealRecord _ (by decide +kernel))

/-- Seven, eight and 28 retired sectors. -/
theorem witness_FirstVerifiedCheckpointEndsEmpty :
    let s (retired : BitVec 32) : State :=
      programming 6 { calm.journal with state := .empty, retired := retired }
    let count (r : BitVec 32) : Nat := (List.range 32).countP fun i => r.getLsbD i
    ((s 0).flash.op = .program (s 0).journal.sector (s 0).journal.slot journalRecord
        ∧ (s 0).journal.slot ≠ 7 ∧ (s 0).journal.state = .empty ∧ (s 0).journal.taken = false
        ∧ (s 0).journal.stage ≠ .waiting ∧ (s 0).journal.reErase = none
        ∧ (s 0).journal.owedErase = none ∧ (s 0).journal.retry = none ∧ (s 0).settings.save = none)
      ∧ count (s 0x7F).journal.retired = 7 ∧ count (s 0xFF).journal.retired = 8
      ∧ count (s 0x0FFFFFFF).journal.retired = 28 := by decide +kernel

/-- Each stage of the power-fail checkpoint, in a slot that is not the last and in the last one, whose
next sector may be marked or owed. -/
theorem witness_ProgramEndsUnderWarning :
    let s (stage : PowerFailStage) (slot : Fin 8) (mark : Option (Fin 32)) : State :=
      programming slot { calm.journal with
        taken := true, warning := true, stage := stage, reErase := mark }
    (∀ stage ∈ [PowerFailStage.waiting, .firstTry, .secondTry], ∀ slot ∈ [(3 : Fin 8), 7],
      let x := s stage slot none
      x.flash.op = .program x.journal.sector x.journal.slot journalRecord
        ∧ x.journal.state = .normal ∧ x.journal.retired = 0 ∧ x.journal.taken = true
        ∧ x.journal.retireOnLeave = false ∧ x.journal.stage = stage ∧ x.journal.slot = slot)
      ∧ (s .firstTry 7 (some 1)).journal.reErase = some ((s .firstTry 7 (some 1)).journal.sector + 1)
      ∧ (s .firstTry 7 none).journal.owedErase = none := by decide +kernel

theorem witness_ProgramOutlivesWarning :
    ∀ slot ∈ [(3 : Fin 8), 7],
      let s := programming slot { calm.journal with stage := .waiting }
      s.flash.op = .program s.journal.sector s.journal.slot journalRecord
        ∧ s.journal.state = .normal ∧ s.journal.retired = 0 ∧ s.journal.taken = false
        ∧ s.journal.stage = .waiting ∧ s.journal.reErase = none ∧ s.journal.owedErase = none
        ∧ s.journal.retry = none ∧ s.journal.slot = slot := by decide +kernel

/-- The sector ahead, and the current one. -/
theorem witness_ErasedSectorIsVerifiedOrRetired :
    let s (sector : Fin 32) : State := { calm with flash := ⟨[], .erase sector, false⟩ }
    ((s 1).flash.op = .erase 1 ∧ (s 1).phase = .running ∧ (s 1).journal.state = .normal
        ∧ (s 1).journal.retired = 0 ∧ (s 1).journal.taken = false ∧ (s 1).journal.reErase = none
        ∧ (s 1).journal.owedErase = none ∧ (s 1).journal.retry = none
        ∧ (s 1).settings.save = none)
      ∧ ((s 1).flash.mem.replace 4096 4096 []).blank 4096 4096 = true
      ∧ ((s 1).flash.mem.replace 4096 4096 [0]).blank 4096 4096 = false
      ∧ (s 1).journal.sector + 1 = 1 ∧ (s 1).journal.sector ≠ 1
      ∧ (s 0).journal.sector = 0 ∧ (s 0).flash.op = .erase 0 := by decide +kernel

/-- 28 sectors are retired; the last retirement is that of the erased sector 30, or of the current one. -/
theorem witness_LastRetirementFailsJournal :
    let j : Journal := { calm.journal with sector := 30, slot := 7, retired := 0x0FFFFFFF }
    let e : State := { calm with journal := j, flash := ⟨[], .erase 30, false⟩ }
    let p : State := { calm with journal := j, flash := ⟨[], .program 30 7 journalRecord, false⟩ }
    let met (s : State) : Prop := s.phase = .running ∧ s.journal.state ≠ .failed
      ∧ ((List.range 32).countP fun i => s.journal.retired.getLsbD i) = 28
      ∧ s.journal.retired.getLsbD (30 : Fin 32).val = false ∧ s.journal.taken = false
      ∧ s.settings.save = none
    (met e ∧ e.flash.op = .erase 30
        ∧ (e.flash.mem.replace (30 * 4096) 4096 [0]).blank (30 * 4096) 4096 = false)
      ∧ met p ∧ p.flash.op = .program 30 7 journalRecord ∧ p.journal.sector = 30
      ∧ p.journal.slot = 7 ∧ p.journal.stage ≠ .waiting
      ∧ ((p.flash.mem.replace (30 * 4096 + 3584) 512 (List.replicate 512 0)).slice
          (30 * 4096 + 3584) 512).head? ≠ journalRecord.bytes.head? := by decide +kernel

/-- Sector 5 is erased, or programmed in its last slot, with its own mark held. -/
theorem witness_RetiredSectorIsNotErased :
    let j : Journal := { calm.journal with sector := 5, slot := 7, reErase := some 5 }
    let s (op : FlashOp) : State := { calm with journal := j, flash := ⟨[], op, false⟩ }
    ((6 : Fin 32) ≠ 5 ∧ j.retired.getLsbD (6 : Fin 32).val = false)
      ∧ (s (.erase 5)).flash.op = .erase 5
      ∧ ((s (.erase 5)).flash.mem.replace (5 * 4096) 4096 [0]).blank (5 * 4096) 4096 = false
      ∧ (s (.program 5 7 journalRecord)).journal.sector = 5
      ∧ (s (.program 5 7 journalRecord)).journal.slot = 7
      ∧ (s (.program 5 7 journalRecord)).flash.op = .program 5 7 journalRecord
      ∧ ((Memory.replace [] (5 * 4096 + 3584) 512 (List.replicate 512 0)).slice
          (5 * 4096 + 3584) 512).head? ≠ journalRecord.bytes.head? := by decide +kernel

theorem test_retired_sector_loses_its_mark :
    let j : Journal := { calm.journal with reErase := some 5, owedErase := some 5 }
    let t := (calm.withJournal j).retire 5
    t.journal.reErase = none ∧ t.journal.owedErase = none ∧ t.journal.retired = 32 := by
  decide +kernel

theorem witness_RecoveryEraseGoesOnOrRetires :
    let s : State := { calm with
      phase := .recovering, flash := ⟨[], .erase 0, false⟩, ring := Ring.powerOn }
    (s.flash.op = .erase 0 ∧ s.phase = .recovering ∧ s.journal.retired = 0
        ∧ s.journal.sector = 0 ∧ s.journal.slot = 0 ∧ s.journal.reErase = none
        ∧ s.journal.taken = false ∧ s.ring.started = false)
      ∧ (s.flash.mem.replace 0 4096 []).blank 0 4096 = true
      ∧ (s.flash.mem.replace 0 4096 [0xFF, 0]).blank 0 4096 = false := by decide +kernel

theorem witness_WarningBeginsPowerFailCheckpoint :
    let s (op : FlashOp) : State := { calm with flash := ⟨[], op, false⟩ }
    let taken := calm.withJournal { calm.journal with taken := true }
    (∀ op ∈ [FlashOp.none, .erase 5, .program 0 0 journalRecord],
      (s op).phase = .running ∧ (s op).journal.taken = false ∧ (s op).journal.state ≠ .failed
        ∧ (s op).settings.save = none ∧ (s op).flash.op = op ∧ Memory.wf (s op).flash.mem = true)
      ∧ (calm.withJournal { calm.journal with state := .failed }).journal.state = .failed
      ∧ taken.journal.taken = true := by
  decide +kernel

/-- A save whose erase runs, whose program runs, and which waits between the two; the request still waits
on port G, or no more. -/
theorem witness_WarningAbandonsSave :
    let waiting := calm.setPort .g { calm.port .g with slotA := .building ⟨.saveSettings, true, none⟩ }
    let s (x : State) (op : FlashOp) (stage : SaveStage) : State := { x with
      flash := ⟨[], op, false⟩
      settings := { x.settings with save := some ⟨stage, Config.defaults⟩ } }
    (∀ x ∈ [s calm .settingsErase .erasing, s waiting .settingsProgram .programming,
        s waiting .none .waitProgram],
      x.phase = .running ∧ x.journal.taken = false ∧ x.journal.state ≠ .failed
        ∧ x.settings.save.isSome = true ∧ Memory.wf x.flash.mem = true)
      ∧ (waiting.port .g).builds.any Build.awaitsSave = true
      ∧ (calm.port .g).builds.any Build.awaitsSave = false := by decide +kernel

theorem witness_ReleaseServesOwedEraseFirst :
    let s (owed mark : Option (Fin 32)) : State := calm.withJournal { calm.journal with
      taken := true, warning := true, stage := .done, owedErase := owed, reErase := mark }
    let p (stage : PowerFailStage) : State :=
      programming 0 { calm.journal with taken := true, stage := stage }
    ((s none none).phase = .running ∧ (s none none).journal.taken = true
        ∧ (s none none).flash.op = .none ∧ (s none none).journal.state ≠ .failed
        ∧ (s none none).journal.retry = none ∧ (s none none).settings.save = none)
      ∧ (s (some 3) (some 4)).journal.owedErase = some 3
      ∧ (s none (some 4)).journal.owedErase = none ∧ (s none (some 4)).journal.reErase = some 4
      ∧ calm.journal.taken = false
      ∧ (p .waiting).journal.taken = true ∧ (p .waiting).journal.stage = .waiting
      ∧ (p .firstTry).flash.op = .program 0 0 journalRecord
      ∧ (p .firstTry).journal.stage ≠ .waiting := by
  decide +kernel

theorem witness_JournalRecordReadsBackAsWritten :
    let r := journalRecord
    r.cls < 256 ∧ -2147483648 ≤ r.integral ∧ r.integral < 2147483648
      ∧ ∀ u, let x := r.units.get u
        (∀ m, x.tallies.get m < 2 ^ 48) ∧ x.starts < 2 ^ 24 ∧ x.trips < 2 ^ 24
          ∧ x.closings < 2 ^ 24 ∧ ∀ y, x.lastTrip = some y → y.cls < 256 := by
  refine ⟨by decide, by decide, by decide, fun u => ?_⟩
  have h : journalRecord.units.get u = ⟨PerMode.all 281474976710655, 16777215, 16777215, 16777215,
      some ⟨5, 255, some 47⟩⟩ := by revert u; decide +kernel
  simp only [h]
  refine ⟨fun m => ?_, by decide, by decide, by decide, fun y e => ?_⟩
  · cases m <;> decide
  · cases e; decide

/-- The default instants, from the second of an instant and from the last one a day has. -/
theorem witness_NextInstantIsTheFirstAfter :
    let instants := Config.defaults.instants
    instants ≠ [] ∧ instants.Pairwise (· < ·) ∧ (∀ m ∈ instants, m < 1440)
      ∧ (21600 : Second).toNat + 172800 < 2 ^ 32
      ∧ firstInstantAfter instants 21600 = 50400 ∧ firstInstantAfter instants 79200 = 108000 := by
  decide +kernel

/-- In each state that can fall due and in DUE with a passed instant; in HOLDOVER, and at class 7. -/
theorem witness_BoundaryMakesHandoverDue :
    let s (state : ShiftState) (watch : Option Second) (due : Second) : State := { calm with
      due := ⟨true, false, false⟩
      shift := { calm.shift with
        state := state, missedWatch := watch, identity := ⟨1, 4, 0, due⟩ } }
    let past (x : Second) : Prop := (calm.tb.second - x).toNat ≤ 2147483647
    ((s .onShift none 1000).due.second = true
        ∧ ((s .onShift none 1000).withTb { calm.tb with state := .holdover }).tb.state = .holdover
        ∧ (s .onShift none 1000).tb.unset = false ∧ past 1000 ∧ ¬ past 1001)
      ∧ ((s .offered none 1000).shift.state = .offered ∧ (s .offered none 1000).shift.dueStart = none)
      ∧ ((s .due (some 1000) 0).shift.state = .due
        ∧ (s .due (some 1000) 0).shift.missedWatch = some 1000
        ∧ (s .due (some 1000) 0).shift.running = some summary)
      ∧ (s .due (some 1001) 0).shift.missedWatch = some 1001
      ∧ Timebase.powerOn.unset = true := by decide +kernel

theorem witness_GraceEndsAndOffersLapse :
    let s := calm.withShift { calm.shift with dueStart := some 0, offer := some ⟨4, 0⟩ }
    (s.shift.dueStart = some 0 ∧ s.shift.overdueSince = none ∧ s.ring.started = true
        ∧ 0 + s.settings.atCycle.grace * 60 * 1000000000 ≤ (clock s 1800000000000).tb.runClock
        ∧ (clock s 1799999999999).tb.runClock < 0 + s.settings.atCycle.grace * 60 * 1000000000)
      ∧ s.shift.offer = some ⟨4, 0⟩ ∧ 0 + 600000000000 ≤ (clock s 600000000000).tb.runClock
      ∧ (clock s 599999999999).tb.runClock < 0 + 600000000000 := by decide +kernel

/-- The early margin's last second before the due one and its first; the due second itself, before its
boundary is taken. -/
theorem witness_HandOverOffersAndWithdrawRemoves :
    let s (state : ShiftState) (due : Second) (r : Request) : State :=
      asked (calm.withShift { calm.shift with
        state := state, offer := some ⟨4, 0⟩, identity := ⟨1, 4, 0, due⟩ }) .s r
    let crossing : State := { s .onShift 1000 (.handOver 4) with due := ⟨true, false, false⟩ }
    let ahead (due : Second) : Nat := (due - calm.tb.second).toNat
    ((s .onShift 1001 (.handOver 4)).port .s).waits (.handOver 4) = true
      ∧ (s .onShift 1001 .nop).cls ≠ 7 ∧ (1 ≤ ahead 1001
        ∧ ahead 2800 ≤ 60 * calm.settings.working.earlyMargin)
      ∧ ¬ ahead 2801 ≤ 60 * calm.settings.working.earlyMargin ∧ ahead 1000 = 0
      ∧ ((crossing.port .s).waits (.handOver 4) = true ∧ crossing.due.second = true
        ∧ (crossing.shift.identity.nextDue - (crossing.tb.second - 1)).toNat = 1)
      ∧ ((s .due 0 (.handOver 5)).port .s).waits (.handOver 5) = true
      ∧ ((s .due 0 (.handOver 0)).port .s).waits (.handOver 0) = true
      ∧ ((s .offered 0 .withdraw).port .s).waits .withdraw = true
      ∧ (s .offered 0 .withdraw).shift.offer = some ⟨4, 0⟩ := by decide +kernel

theorem witness_TakeShiftNamesTheCrew :
    ((asked calm .p (.takeShift 4)).port .p).waits (.takeShift 4) = true ∧ (4 : Byte) ≠ 0
      ∧ calm.shift.identity.crew = 0 ∧ calm.shift.state ≠ .offered ∧ calm.ring.started = true
      ∧ (calm.withShift { calm.shift with identity := ⟨1, 4, 0, 0⟩ }).shift.identity.crew ≠ 0 := by
  decide +kernel

theorem witness_AcceptCutsTheShift :
    let s (crew : Byte) : State := asked ((calm.setSlot 3 (some { openFile with
      state := .closed })).withShift { calm.shift with
      state := .offered, offer := some ⟨4, 0⟩, overdueSince := some 9000000000
      identity := ⟨1, 4, 0, 0⟩, log := List.replicate 12 summary }) .p (.accept crew)
    ((s 5).port .p).waits (.accept 5) = true ∧ (5 : Byte) ≠ 0 ∧ (s 5).shift.state = .offered
      ∧ (s 5).shift.offer = some ⟨4, 0⟩ ∧ (5 : Byte) ≠ 4 ∧ (s 5).shift.running = some summary
      ∧ (s 5).ring.started = true ∧ (s 5).journal.state ≠ .failed
      ∧ ((s 5).file 3).map TripFile.state = some .closed ∧ ¬ (s 5).shift.log.length < 12
      ∧ ((s 4).port .p).waits (.accept 4) = true
      ∧ ((asked calm .p (.accept 5)).port .p).waits (.accept 5) = true
      ∧ calm.shift.state ≠ .offered := by decide +kernel

/-- Into slot A of an idle port, and into slot B when the response of slot A has just been sent. -/
theorem witness_WholeFrameHandsItsRequestOn :
    let s (a : Slot) : State := calm.setPort .g { calm.port .g with inFrame := true, slotA := a }
    let r : Request := .setTime 1 2
    (Request.restart ≠ .clearPort ∧ wellSized .restart = true
        ∧ inRole .g Request.restart.code = true ∧ r ≠ .restart)
      ∧ ∀ a ∈ [Slot.empty, .sending ⟨0, .ok, []⟩],
      (s a).phase = .running ∧ wellSized r = true ∧ inRole .g r.code = true ∧ r ≠ .clearPort
        ∧ ((s a).port .g).inFrame = true ∧ ((s a).port .g).busy = false
        ∧ ((s a).port .g).waits .nop = false := by
  decide +kernel

/-- A body of 60 bytes is still read, one of 61 is refused; the frames of the other cases; no request of
the code 0x21 has an empty body. -/
theorem witness_FrameIsRefusedByFirstCase :
    let s := calm.setPort .p { calm.port .p with inFrame := true }
    let sum (b : List Byte) : Nat := (b.map BitVec.toNat).sum % 256
    (s.phase ≠ .off ∧ (s.port .p).inFrame = true ∧ (s.port .p).waits .nop = false
        ∧ s.phase = .running ∧ (s.port .p).busy = false)
      ∧ { s with phase := .baselining }.phase ≠ .running
      ∧ ((asked s .p .readTime).port .p).busy = true
      ∧ (60 < (61 : Byte).toNat ∧ ¬ 60 < (60 : Byte).toNat)
      ∧ sum [0x04, 0, 0] ≠ 0 ∧ sum [0x04, 0, 0xFC] = 0
      ∧ inRole .p 0x80 = false ∧ (∃ r : Request, r.code = 0x80)
      ∧ inRole .p 0x21 = true ∧ (∃ r : Request, r.code = 0x21) := by
  refine ⟨by decide +kernel, by decide, by decide +kernel, by decide, by decide, by decide,
    by decide, ⟨.setTime 0 0, by decide⟩, by decide, .readUnit 0, by decide⟩

theorem witness_FrameIsRefusedByFirstCase_length :
    ∀ r : Request, r.code = 0x21 → wellSized r = true → r.body ≠ [] := by
  intro r h _ e
  cases r <;> revert h e <;> simp [Request.code, Request.body]

theorem witness_FramesBeginAbortAndCollect :
    let x : Response := ⟨0, .ok, []⟩
    let two (n m : Nat) : State := calm.setPort .g { calm.port .g with
      slotA := .finished x n, slotB := .finished x m }
    let built := calm.setPort .g { calm.port .g with
      slotA := .building ⟨.readTime, true, some x⟩
      orphans := [⟨.saveSettings, true, none⟩, ⟨.setTime 0 0, true, some x⟩] }
    let second := calm.setPort .g { calm.port .g with
      slotA := .finished x 0, slotB := .building ⟨.readTime, true, some x⟩ }
    let inside := calm.setPort .g { calm.port .g with inFrame := true }
    (calm.phase ≠ .off ∧ (calm.port .g).inFrame = false ∧ (calm.port .g).waits .nop = false)
      ∧ ((two 0 1).port .g).inFrame = false ∧ ((two 1 0).port .g).waits .nop = false
      ∧ (inside.port .g).inFrame = true ∧ (inside.port .g).waits .nop = false
      ∧ (built.port .g).slotA = .building ⟨.readTime, true, some x⟩
      ∧ (built.port .g).slotB.isBuilding = false
      ∧ (built.port .g).orphans
          = [⟨.saveSettings, true, none⟩] ++ ⟨.setTime 0 0, true, some x⟩ :: []
      ∧ (second.port .g).slotB = .building ⟨.readTime, true, some x⟩
      ∧ (second.port .g).slotA.isBuilding = false
      ∧ (calm.port .g).slotA.isFinished = false ∧ (calm.port .g).slotB.isFinished = false
      ∧ (∀ b ∈ ((asked calm .g .readTime).port .g).slotA.builds, b.answer = none)
      ∧ (calm.port .g).orphans = [] := by decide +kernel

/-- A response in either slot, none, and the bits of a whole request. -/
theorem witness_FrameCarriesBitsInOrder :
    let x : Response := ⟨0x21, .ok, [0x80]⟩
    let a : PortState := { calm.port .g with slotA := .sending x }
    let b : PortState := { calm.port .g with slotB := .sending x }
    let bytes : List Byte := [0x21, 0x01, 0x03, 0xDB]
    let bits := (List.range 32).map (bitOf bytes)
    a.slotA = .sending x ∧ (b.slotA.isSending = false ∧ b.slotB = .sending x)
      ∧ ((calm.port .g).slotA.isSending = false ∧ (calm.port .g).slotB.isSending = false)
      ∧ bits.length = 8 * bytes.length
      ∧ ∀ j ∈ List.range 4, ∀ k ∈ List.range 8,
          bits[8 * j + k]? = (bytes[j]?).map fun y => y.getLsbD (7 - k) := by decide +kernel

/-- Status 0x40, then code, result, length, body and check, and zeros (R183, R184). -/
theorem test_frameCarriesResponseThenZeros :
    let p : PortState := { calm.port .g with status := 0x40, slotB := .sending ⟨0x21, .ok, [0x80]⟩ }
    bytesOfBits ((List.range 72).map p.dataOut) = [0x40, 0x21, 0, 1, 0x80, 0x5E, 0, 0, 0]
      ∧ bytesOfBits [false, false, true, false, false, false, false, true] = [0x21] := by decide +kernel

theorem witness_ClearPortAndNopAnswerOk :
    let s := calm.setPort .g { calm.port .g with
      inFrame := true, slotA := .building ⟨.readTime, false, none⟩ }
    let n := (asked calm .g .nop).setPort .g { (asked calm .g .nop).port .g with
      orphans := [⟨.saveSettings, true, none⟩] }
    (s.phase = .running ∧ (s.port .g).inFrame = true
        ∧ ∀ b ∈ (s.port .g).builds, b.request ≠ .nop ∧ b.request ≠ .clearPort)
      ∧ (n.port .g).slotA = .building ⟨.nop, false, none⟩
      ∧ (n.port .g).slotB.isBuilding = false
      ∧ (n.port .g).orphans.any (Build.waits .nop) = false := by decide +kernel

/-- Every reading request waits; a unit, slot, index or part at the ends of its range and beyond. -/
theorem witness_ReadsAnswerAndChangeNothing :
    let waits (r : Request) : Bool := ((asked calm .g r).port .g).waits r
    (waits .readTime && waits .identify && waits .readReferences && waits .status
      && waits (.readLines 0) && waits (.readLines 6) && waits (.readLines 7)
      && waits (.readUnit 1) && waits (.readUnit 6) && waits (.readUnit 0) && waits (.readUnit 7)
      && waits .listTripFiles && waits (.readTripFile 15) && waits (.readTripFile 16)) = true := by
  decide +kernel

/-- The first and the last byte of a number, the signed range's two ends, the highest tally. -/
theorem witness_FieldTypesHaveTheirLayouts :
    (0 < 4 ∧ 3 < 4) ∧ (-(256 ^ 4 : Nat) : Int) ≤ -1 ∧ (-1 : Int) < (256 ^ 4 : Nat)
      ∧ beInt 4 (-1) = [0xFF, 0xFF, 0xFF, 0xFF] ∧ 3599999999999 < 3600000000000
      ∧ tallyBytes 3599999999999 true = [0x8F, 0x42, 0x3F, 0x36, 0xEE, 0x7F] := by decide

/-- An empty slot, a file as it opened, and a running and a logged summary; an index beyond the log. -/
theorem witness_FilesAndSummariesAreRead :
    let s := (calm.withShift { calm.shift with log := [summary] }).setSlot 3 (some openFile)
    let waits (r : Request) : Bool := ((asked s .g r).port .g).waits r
    (waits .listTripFiles && waits (.readTripFile 3) && waits (.readTripFile 4)
      && waits (.readTripFile 16) && waits (.readSummary 0 0) && waits (.readSummary 0 6)
      && waits (.readSummary 1 0) && waits (.readSummary 1 6) && waits (.readSummary 2 0)
      && waits (.readSummary 13 0) && waits (.readSummary 0 7)) = true
      ∧ s.file 3 = some openFile ∧ s.file 4 = none ∧ s.shift.running = some summary
      ∧ (1 : Byte).toNat ≤ s.shift.log.length ∧ s.shift.log.length < (2 : Byte).toNat
      ∧ s.shift.log[s.shift.log.length - (1 : Byte).toNat]? = some summary := by decide +kernel

theorem witness_JournalAndSettingsAreRead :
    let waits (r : Request) : Bool := ((asked calm .g r).port .g).waits r
    let w := calm.settings.working
    (waits (.readJournal 0) && waits (.readJournal 1) && waits (.readJournal 6)
      && waits (.readJournal 7) && waits (.readSettings 1 0) && waits (.readSettings 0x0A 6)
      && waits (.readSettings 0x0A 7) && waits (.readSettings 0xFF 0)) = true
      ∧ (Settings.valueOf w 1 0).isSome = true ∧ (Settings.valueOf w 0x0A 6).isSome = true
      ∧ Settings.valueOf w 0x0A 7 = none ∧ Settings.valueOf w 0xFF 0 = none := by decide +kernel

theorem witness_WriteSettingsSetsOneItem :
    let w := calm.settings.working
    ((asked calm .g (.writeSettings 3 0 [6])).port .g).waits (.writeSettings 3 0 [6]) = true
      ∧ Settings.put w 3 0 [6] = some { w with alarmClass := 6 }
      ∧ ((asked calm .g (.writeSettings 3 0 [7])).port .g).waits (.writeSettings 3 0 [7]) = true
      ∧ Settings.put w 3 0 [7] = none := by decide +kernel

/-- The ends of the ranges, and the values next to them. -/
theorem witness_SettingsHaveTheirRanges :
    let w := Config.defaults
    ofBe [0x01, 0x86, 0xA0] = 100000
      ∧ Settings.put w 0x01 0 [0x01, 0x86, 0xA0] = some { w with stepThreshold := 100000 }
      ∧ Settings.put w 0x01 0 [0x01, 0x86, 0xA1] = none
      ∧ Settings.put w 0x0C 0 [0x00, 0xFA] = some { w with scanPeriod := 250 }
      ∧ Settings.put w 0x0C 0 [0x00, 0xFB] = none
      ∧ Settings.put w 0x0D 0 [0x00, 0x31] = none := by decide +kernel

/-- A plan with one RUNNING line and one without; 60 and 59 minutes between instants, across midnight too;
a count of five. -/
theorem witness_SettingsOfManyValuesAreJudged :
    let w := Config.defaults
    let plan (a b : Role) : LinePlan := ⟨[a, b, .condenser, .tripCause, .event, .spare], rfl⟩
    let taken (count a b c d : Nat) : Bool := (Settings.put w 0x16 0
      (be 1 count ++ be 2 a ++ be 2 b ++ be 2 c ++ be 2 d)).isSome
    let put (x : LinePlan) : Bool := (Settings.put w 0x0A 6
      (x.list.flatMap fun r => byteOf r.code)).isSome
    put (plan .running .pump) = true ∧ put (plan .pump .pump) = false
      ∧ put (plan .running .running) = false ∧ put (plan .running .condenser) = false
      ∧ (∀ r ∈ (plan .running .pump).list, r ≠ .masterTrip ∧ r ≠ .breaker)
      ∧ taken 2 0 60 0 0 = true ∧ taken 2 0 59 0 0 = false ∧ taken 2 0 1380 0 0 = true
      ∧ taken 2 0 1381 0 0 = false ∧ taken 2 60 1439 0 0 = true ∧ taken 2 0 1440 0 0 = false
      ∧ taken 4 0 60 120 180 = true ∧ taken 5 0 60 120 180 = false ∧ taken 1 0 60 120 180 = false
      ∧ (Settings.put w 0x19 3 (be 2 8191)).isSome = true ∧ Settings.put w 0x19 4 (be 2 0) = none
      ∧ 25 < (0x1A : Byte).toNat := by decide +kernel

theorem witness_SaveErasesThenPrograms :
    let saving (stage : SaveStage) (op : FlashOp) : State := { calm with
      flash := ⟨[], op, false⟩
      settings := { calm.settings with save := some ⟨stage, Config.defaults⟩ } }
    let s := asked calm .g .saveSettings
    let e := saving .erasing .settingsErase
    let p := saving .programming .settingsProgram
    let idle (s : State) : Prop := s.journal.taken = false ∧ s.journal.reErase = none
      ∧ s.journal.owedErase = none ∧ s.journal.retry = none ∧ s.journal.pending = 0
    ((s.port .g).waits .saveSettings = true ∧ s.settings.save = none ∧ idle s
        ∧ s.flash.op = .none ∧ ∀ b ∈ (s.port .g).builds, b.taken = false → b.answer = none)
      ∧ (e.flash.op = .settingsErase ∧ e.settings.save = some ⟨.erasing, Config.defaults⟩ ∧ idle e
        ∧ (e.flash.mem.replace (32 * 4096) 4096 []).blank (32 * 4096) 4096 = true
        ∧ (e.flash.mem.replace (32 * 4096) 4096 [0]).blank (32 * 4096) 4096 = false)
      ∧ (p.flash.op = .settingsProgram ∧ p.settings.save = some ⟨.programming, Config.defaults⟩
        ∧ idle p) := by decide +kernel

/-- A save already in progress; the flash held by an erase; the power-fail state TAKEN. -/
theorem witness_SaveErasesThenPrograms_waits :
    let s := asked calm .g .saveSettings
    let going : State := { s with settings := { s.settings with
      save := some ⟨.waitErase, Config.defaults⟩ } }
    (going.port .g).waits .saveSettings = true ∧ going.settings.save.isSome = true
      ∧ ({ s with flash := ⟨[], .erase 3, false⟩ } : State).flash.op ≠ .none
      ∧ (s.withJournal { s.journal with taken := true }).journal.taken = true := by decide +kernel

theorem settingsRecord_length : (Settings.record Config.defaults).length = 512 :=
  sealRecord_length _ (by decide +kernel)

theorem settingsRecord_sound :
    recordSound Config.settingsMarker (Settings.record Config.defaults) = true :=
  recordSound_sealRecord _ (by decide +kernel)

theorem settingsRecord_read :
    readSettingsRecord (Settings.record Config.defaults) = some Config.defaults := by
  rw [readSettingsRecord, settingsRecord_sound]
  decide +kernel

/-- The bytes of the record left in the sector, and other ones. -/
theorem witness_SaveErasesThenPrograms_record :
    (Memory.replace [] (32 * 4096) 512 (Settings.record Config.defaults)).slice (32 * 4096) 512
        = Settings.record Config.defaults
      ∧ ((Memory.replace [] (32 * 4096) 512 (List.replicate 512 0)).slice (32 * 4096) 512).head?
        ≠ (Settings.record Config.defaults).head? := by
  have h := Memory.slice_replace (m := []) (by decide) (32 * 4096) (Settings.record Config.defaults)
  rw [settingsRecord_length] at h
  exact ⟨h, by decide +kernel⟩

/-- An array that holds a stored copy, one that holds a journal record, and an erased one. -/
theorem witness_PowerOnBeginsRecovery :
    let stored := Memory.replace [] settingsAddress 512 (Settings.record Config.defaults)
    let kept := Memory.replace [] (slotAddress 3 5) 512 journalRecord.bytes
    calm.flash.op = .none ∧ calm.journal.warning = false
      ∧ (⟨stored, .none, false⟩ : Flash).storedSettings = some Config.defaults
      ∧ (∃ x, kept.newestRecord = some x)
      ∧ calm.flash.storedSettings = none ∧ calm.flash.mem.newestRecord = none := by
  refine ⟨by decide, by decide, ?_, ?_, by decide +kernel, by decide +kernel⟩
  · have h := Memory.slice_replace (m := []) (by decide) settingsAddress
      (Settings.record Config.defaults)
    rw [settingsRecord_length] at h
    simp only [Flash.storedSettings, Config.recordSize, h, settingsRecord_read]
    rfl
  · exact Option.isSome_iff_exists.1 (Memory.newestRecord_isSome (Memory.slotKind_replace (by decide) 3 5
      (sealRecord_length _ (by decide +kernel)) (recordSound_sealRecord _ (by decide +kernel))))

/-- A record of a sequence, captured when sector 5 was the only retired one. -/
def captured (sequence : BitVec 32) : JournalRecord :=
  { journalRecord with seq := sequence, retired := sectorFlag 5 }

/-- The verified retry in 7.0 of a record whose failed program left a valid copy in 4.7: sector 5 was retired
at its capture, sector 6 after it (R153's worked case, with the copies R159 speaks of). -/
theorem test_lastCopy_passes_sectors_retired_since_capture :
    lastCopy [⟨captured 6, 4, 6⟩, ⟨captured 7, 4, 7⟩, ⟨captured 7, 7, 0⟩] ⟨captured 7, 4, 7⟩
      = ⟨captured 7, 7, 0⟩ := by decide +kernel

/-- The retry in 0.0 of a record whose failed program left a copy in 31.7 (R147, R159). -/
theorem test_lastCopy_follows_rotation_past_sector_31 :
    lastCopy [⟨captured 7, 0, 0⟩, ⟨captured 6, 31, 6⟩, ⟨captured 7, 31, 7⟩] ⟨captured 7, 0, 0⟩
      = ⟨captured 7, 0, 0⟩ := by decide +kernel

/-- The record of a sequence as it is read back from its bytes. -/
def readBack (sequence : BitVec 32) : JournalRecord := journalRecordOf (captured sequence).bytes

theorem readBack_seq : (readBack 6).seq = 6 ∧ (readBack 7).seq = 7 := by decide +kernel

/-- An array with the bytes of the record of a sequence in a slot. -/
def withRecord (m : Memory) (a : Fin 32) (b : Fin 8) (sequence : BitVec 32) : Memory :=
  m.replace (slotAddress a b) 512 (captured sequence).bytes

theorem withRecord_wf {m : Memory} (h : Memory.wf m = true) (a : Fin 32) (b : Fin 8) (n : BitVec 32) :
    Memory.wf (withRecord m a b n) = true := Memory.replace_wf h _ _ _

theorem slotKind_withRecord {m : Memory} (h : Memory.wf m = true) (a c : Fin 32) (b d : Fin 8)
    {n : BitVec 32} (hn : n = 6 ∨ n = 7) :
    (withRecord m c d n).slotKind a b = if a = c ∧ b = d then .valid (readBack n) else m.slotKind a b := by
  have hb : (captured n).bytes.length = 512
      ∧ recordSound Config.journalMarker (captured n).bytes = true := by
    rcases hn with rfl | rfl <;>
      exact ⟨sealRecord_length _ (by decide +kernel), recordSound_sealRecord _ (by decide +kernel)⟩
  unfold withRecord
  split_ifs with hp
  · obtain ⟨rfl, rfl⟩ := hp
    exact Memory.slotKind_replace h a b hb.1 hb.2
  · exact Memory.slotKind_replace_other h hp _

/-- The copies of sequence 7 in 4.7 and 7.0 of an array. -/
def withCopies (m : Memory) : Memory := withRecord (withRecord m 4 7 7) 7 0 7

theorem slotKind_withCopies {m : Memory} (h : Memory.wf m = true) (a : Fin 32) (b : Fin 8) :
    (withCopies m).slotKind a b
      = if a = 7 ∧ b = 0 then .valid (readBack 7)
        else if a = 4 ∧ b = 7 then .valid (readBack 7) else m.slotKind a b := by
  rw [withCopies, slotKind_withRecord (withRecord_wf h _ _ _) _ _ _ _ (Or.inr rfl),
    slotKind_withRecord h _ _ _ _ (Or.inr rfl)]

/-- A record in such an array is one of the copies or the array's own. -/
theorem withCopies_record {m : Memory} (h : Memory.wf m = true) {a : Fin 32} {b : Fin 8}
    {p : JournalRecord} (hp : (withCopies m).slotKind a b = .valid p) :
    p = readBack 7 ∨ m.slotKind a b = .valid p := by
  rw [slotKind_withCopies h] at hp
  split_ifs at hp
  · exact Or.inl (SlotKind.valid.inj hp).symm
  · exact Or.inl (SlotKind.valid.inj hp).symm
  · exact Or.inr hp

/-- The copies are the newest record of an array with none of a higher sequence. -/
theorem withCopies_newest {m : Memory} (h : Memory.wf m = true)
    (hm : ∀ a b p, m.slotKind a b = .valid p → p.seq.toNat ≤ (readBack 7).seq.toNat) :
    ∃ x, (withCopies m).newestRecord = some x ∧ x.record.seq = (readBack 7).seq := by
  obtain ⟨hread, hmax⟩ := Memory.newestRecord_spec (withCopies m)
  obtain ⟨x, hx, hle⟩ := hmax 7 0 (readBack 7) (by rw [slotKind_withCopies h, if_pos ⟨rfl, rfl⟩])
  refine ⟨x, hx, ?_⟩
  rcases withCopies_record h (hread x hx).1 with e | e
  · rw [e]
  · exact BitVec.eq_of_toNat_eq (le_antisymm (hm _ _ _ e) hle)

/-- The only record of the array is the older one in 4.6. -/
theorem olderAlone_record {a : Fin 32} {b : Fin 8} {p : JournalRecord}
    (hp : (withRecord [] 4 6 6).slotKind a b = .valid p) : (a = 4 ∧ b = 6) ∧ p = readBack 6 := by
  rw [slotKind_withRecord (by decide) _ _ _ _ (Or.inl rfl)] at hp
  split_ifs at hp with h
  · exact ⟨h, (SlotKind.valid.inj hp).symm⟩
  · cases hp

theorem readBack_older : (readBack 6).seq.toNat < (readBack 7).seq.toNat := by
  rw [readBack_seq.1, readBack_seq.2]
  decide

/-- The two copies after an older record in 4.6, the one record with the next lower sequence, and the two
copies in an array with no other record. -/
theorem witness_LastCopyIsTaken :
    let m := withCopies (withRecord [] 4 6 6)
    let old := readBack 6
    let new := readBack 7
    (calm.flash.op = .none ∧ calm.journal.warning = false)
      ∧ (m.slotKind 4 6 = .valid old ∧ m.slotKind 4 7 = .valid new ∧ m.slotKind 7 0 = .valid new
        ∧ old.seq.toNat < new.seq.toNat
        ∧ (∀ e f p, m.slotKind e f = .valid p → p.seq.toNat < new.seq.toNat →
            p.seq.toNat < old.seq.toNat ∨ (e = 4 ∧ f = 6))
        ∧ ∃ x, m.newestRecord = some x ∧ x.record.seq = new.seq)
      ∧ ((withCopies []).slotKind 4 7 = .valid new
        ∧ (∀ c d o, (withCopies []).slotKind c d = .valid o → ¬ o.seq.toNat < new.seq.toNat)
        ∧ ∃ x, (withCopies []).newestRecord = some x ∧ x.record.seq = new.seq) := by
  have h0 : Memory.wf [] = true := by decide
  have h := withRecord_wf h0 4 6 6
  refine ⟨by decide +kernel, ⟨?_, ?_, ?_, readBack_older, fun e f p hp hlt => ?_, ?_⟩,
    ?_, fun c d o ho => ?_, ?_⟩
  · rw [slotKind_withCopies h, if_neg (by decide), if_neg (by decide),
      slotKind_withRecord h0 _ _ _ _ (Or.inl rfl), if_pos ⟨rfl, rfl⟩]
  · rw [slotKind_withCopies h, if_neg (by decide), if_pos ⟨rfl, rfl⟩]
  · rw [slotKind_withCopies h, if_pos ⟨rfl, rfl⟩]
  · rcases withCopies_record h hp with rfl | hp
    · exact absurd hlt (lt_irrefl _)
    · exact Or.inr (olderAlone_record hp).1
  · exact withCopies_newest h fun a b p hp => by
      rw [(olderAlone_record hp).2]
      exact readBack_older.le
  · rw [slotKind_withCopies h0, if_neg (by decide), if_pos ⟨rfl, rfl⟩]
  · rcases withCopies_record h0 ho with rfl | ho
    · exact lt_irrefl _
    · cases ho
  · exact withCopies_newest h0 fun a b p hp => by cases hp

theorem witness_EndOfRecoveryHandsValuesOver :
    let s (newest : Option NewestRecord) (retired : BitVec 32) : State := { calm with
      phase := .recovering, ring := Ring.powerOn
      journal := { calm.journal with newest := newest, retired := retired } }
    let met (s : State) : Prop := s.phase = .recovering ∧ s.flash.op = .none
      ∧ s.journal.taken = false ∧ s.recoveryErase = none ∧ s.ring.started = false
    let count (r : BitVec 32) : Nat := (List.range 32).countP fun i => r.getLsbD i
    met (s none 0) ∧ met (s (some ⟨journalRecord, 0, 0⟩) 0xFF) ∧ count 0xFF = 8
      ∧ met (s none 0x1FFFFFFF) ∧ count 0x1FFFFFFF = 29 ∧ count 0x0FFFFFFF = 28 := by
  decide +kernel

/-- With an OPEN file and without, with an erase in flight and without, by the line and by the request. -/
theorem witness_RestartReloadsAndRestartsBlocks :
    let o := { calm.setSlot 3 (some openFile) with
      trips := { (calm.setSlot 3 (some openFile)).trips with order := [3] } }
    let e : State := { asked o .s .restart with flash := ⟨[], .erase 5, false⟩ }
    let f := o.setPort .g { o.port .g with inFrame := true, slotA := .sending ⟨0, .ok, []⟩ }
    ((f.port .g).inFrame = true ∧ (f.port .g).busy = false ∧ (f.port .g).waits .nop = false
        ∧ (f.port .g).waits .restart = false ∧ f.phase = .running ∧ f.ring.deferred = []
        ∧ f.ring.records.length ≤ 1024)
      ∧ (o.phase = .running ∧ o.ring.deferred = [] ∧ o.ring.records.length ≤ 1024
        ∧ 3 ∈ o.trips.order ∧ o.file 3 = some openFile ∧ openFile.state = .opened
        ∧ openFile.test = false
        ∧ ∀ j ∈ o.trips.order, ∀ g ∈ o.file j, g.state = .opened → g.unit = openFile.unit → j = 3)
      ∧ (calm.ref .ref1).state ≠ .listen
      ∧ (let x := calm.withSel { calm.sel with selected := some .ref1, disagree := true }
        x.sel.selected ≠ none ∧ x.sel.disagree = true ∧ x.phase = .running ∧ x.ring.deferred = [])
      ∧ (let x := calm.withTb { calm.tb with alarm := true }
        x.restart.tb.alarm ≠ x.tb.alarm ∧ x.phase = .running)
      ∧ (e.port .s).waits .restart = true ∧ e.phase = .running ∧ e.flash.op = .erase 5
      ∧ Memory.wf e.flash.mem = true ∧ o.flash.op = .none ∧ calm.trips.order = []
      ∧ o.shift.running = some summary ∧ Shift.powerOn.running = none
      ∧ (tested.modeOf 0).test.isSome = true ∧ (o.modeOf 0).test = none
      ∧ { calm with phase := .baselining }.phase ≠ .running := by decide +kernel

set_option synthInstance.maxSize 10000 in
set_option synthInstance.maxHeartbeats 400000 in
/-- The defaults lie in their ranges, and so do values at the ends of theirs. -/
theorem witness_StoredSettingsCopyIsJudged :
    Settings.InRanges Config.defaults
      ∧ Settings.InRanges { Config.defaults with
        stepThreshold := 100000, scanPeriod := 1000, instants := [0, 60, 120, 1380] }
      ∧ (⟨[], .none, false⟩ : Flash).spoiled = false := by
  unfold Settings.InRanges
  decide +kernel

theorem witness_FrameWithoutBytesIsJudged :
    let s := calm.setPort .g { calm.port .g with inFrame := true }
    let b := calm.setPort .g { calm.port .g with
      inFrame := true, slotA := .building ⟨.readTime, false, none⟩ }
    (calm.port .g).inFrame = false
      ∧ (s.phase ≠ .off ∧ (s.port .g).inFrame = true ∧ (s.port .g).waits .nop = false
        ∧ s.phase = .running ∧ (s.port .g).busy = false)
      ∧ ((b.port .g).busy = true ∧ (b.port .g).waits .nop = false ∧ (b.port .g).inFrame = true)
      ∧ ({ s with phase := .baselining }.port .g).inFrame = true := by decide +kernel

/-- Every role; a fast line, and a scanned one at the last instant of its window and one past it. -/
theorem witness_AcceptedChangeIsHandedOn :
    let at_ (l : LineId) (r : Role) (c : Chatter) : State :=
      calm.setLine l { calm.line l with role := r, chatter := c }
    let now := calm.tb.runClock
    let window := calm.settings.atCycle.chatterWindow * 1000000000
    ((at_ 2 .spare .quiet).line 2).role = .spare
      ∧ (∀ r ∈ [Role.masterTrip, .breaker], ((at_ 0 r .quiet).line 0).chatter = .quiet)
      ∧ (∀ r ∈ [Role.running, .pump, .condenser, .tripCause, .event],
        ((at_ 2 r .quiet).line 2).role ≠ .spare)
      ∧ 1 < calm.settings.working.chatterLimit ∧ now ≤ (now - window) + window
      ∧ 8 + 1 < calm.settings.working.chatterLimit ∧ (now - window - 1) + window < now := by
  decide +kernel

theorem witness_PowerLossKeepsFlashAlone :
    ∀ op ∈ [FlashOp.none, .erase 5, .settingsErase, .settingsProgram, .program 0 0 journalRecord],
      let s : State := { calm with flash := ⟨[], op, false⟩ }
      s.flash.op = op ∧ Memory.wf s.flash.mem = true := by decide +kernel

theorem witness_PortsKeepOneBuild :
    let s : State := { asked calm .g .readTime with pending := [.readTime .g] }
    (∀ q : Port, (((s.port q).slotA.isBuilding && (s.port q).slotB.isBuilding) = false))
      ∧ ∃ t, step s = .next t := by
  refine ⟨fun q => by cases q <;> decide, _, rfl⟩

/-- A shift of number 1 whose log holds summary 0. -/
theorem witness_ShiftLogStaysInOrder :
    let s : State := { calm with
      shift := { calm.shift with
        identity := ⟨1, 4, 0, 0⟩, log := [summary], running := some { summary with number := 1 } }
      pending := [.secondBoundary] }
    s.summariesSound ∧ ∃ t, step s = .next t := by
  refine ⟨⟨⟨by decide, fun i m n h k => ?_, fun m h => ?_, fun m h => ?_⟩, fun h => ?_⟩, _, rfl⟩
  · rcases i with _ | i <;> cases k
  · cases h; decide
  · cases h; decide
  · exact absurd rfl h

end Sys2Proof.Tests
end

section
/-! SUPPORT. The operations that leave the Timebase alone: one lemma for each, in the order of the model's
files, so that a statement about the Timebase looks only at the operations that move it. -/

namespace Sys2Proof.Machine

variable (s : State)

/-- A walk whose steps leave the Timebase alone leaves it alone. -/
theorem State.forEach_tb {ι : Type} (xs : List ι) (f : ι → State → State)
    (h : ∀ x t, (f x t).tb = t.tb) : (s.forEach xs f).tb = s.tb :=
  State.forEach_same State.tb xs f h s

/-! ### Shift Controller -/

@[simp] theorem State.noteHandover_tb (k : Subkind) (crew : Byte) :
    (s.noteHandover k crew).tb = s.tb := by simp [State.noteHandover]

@[simp] theorem State.modSummary_tb (f : Summary → Summary) : (s.modSummary f).tb = s.tb := rfl

@[simp] theorem State.fallDue_tb : s.fallDue.tb = s.tb := by simp [State.fallDue]

@[simp] theorem State.missInstant_tb : s.missInstant.tb = s.tb := by simp [State.missInstant]

@[simp] theorem State.evaluateSchedule_tb : s.evaluateSchedule.tb = s.tb := by
  unfold State.evaluateSchedule
  repeat' split
  all_goals simp

@[simp] theorem State.shiftStepKnown_tb : s.shiftStepKnown.tb = s.tb := by simp [State.shiftStepKnown]

@[simp] theorem State.shiftSeesClass_tb : s.shiftSeesClass.tb = s.tb := rfl

@[simp] theorem State.endGrace_tb : s.endGrace.tb = s.tb := by
  unfold State.endGrace; split <;> simp

@[simp] theorem State.closeOverdue_tb : s.closeOverdue.tb = s.tb := rfl

@[simp] theorem State.lapseOffer_tb : s.lapseOffer.tb = s.tb := by
  unfold State.lapseOffer
  repeat' split
  all_goals simp

@[simp] theorem State.summaryMillisecond_tb : s.summaryMillisecond.tb = s.tb := rfl

@[simp] theorem State.modSummaryUnit_tb (u : UnitId) (f : SummaryUnit → SummaryUnit) :
    (s.modSummaryUnit u f).tb = s.tb := rfl

@[simp] theorem State.shiftTakesMode_tb (u : UnitId) (k : Mode) (b : Bool) :
    (s.shiftTakesMode u k b).tb = s.tb := by
  unfold State.shiftTakesMode; split <;> simp

@[simp] theorem State.shiftTakesTrip_tb (u : UnitId) : (s.shiftTakesTrip u).tb = s.tb := rfl

@[simp] theorem State.shiftTakesTest_tb (u : UnitId) (b : Bool) :
    (s.shiftTakesTest u b).tb = s.tb := rfl

@[simp] theorem State.cutShift_tb (crew : Byte) : (s.cutShift crew).tb = s.tb := by simp [State.cutShift]

/-! ### Tally Unit -/

@[simp] theorem State.millisecondBoundary_tb : s.millisecondBoundary.tb = s.tb := by
  unfold State.millisecondBoundary; split <;> simp

@[simp] theorem State.noteRise_tb (n : Nat) : (s.noteRise n).tb = s.tb := by
  unfold State.noteRise; split <;> simp

@[simp] theorem State.tallyTakesMode_tb (u : UnitId) (k : Mode) (b : Bool) :
    (s.tallyTakesMode u k b).tb = s.tb := by
  unfold State.tallyTakesMode; split <;> simp

@[simp] theorem State.tallyTakesClosing_tb (u : UnitId) :
    (s.tallyTakesClosing u).tb = s.tb := by simp [State.tallyTakesClosing]

@[simp] theorem State.tallyTakesTrip_tb (u : UnitId) (x : Second) (c : Nat) :
    (s.tallyTakesTrip u x c).tb = s.tb := by simp [State.tallyTakesTrip]

@[simp] theorem State.tallyTakesFirstOut_tb (u : UnitId) (l : Option LineId) :
    (s.tallyTakesFirstOut u l).tb = s.tb := rfl

@[simp] theorem State.lapsePermit_tb (u : UnitId) : (s.lapsePermit u).tb = s.tb := by
  unfold State.lapsePermit; split <;> simp

/-! ### Trip File Table -/

@[simp] theorem State.modFile_tb (i : SlotId) (f : TripFile → TripFile) :
    (s.modFile i f).tb = s.tb := rfl

@[simp] theorem State.openFile_tb (i : SlotId) (u : UnitId) (t : Stamp) :
    (s.openFile i u t).tb = s.tb := rfl

@[simp] theorem State.openSomeFile_tb (u : UnitId) (t : Stamp) :
    (s.openSomeFile u t).1.tb = s.tb := by
  unfold State.openSomeFile
  repeat' split
  all_goals simp

@[simp] theorem State.countTrip_tb (u : UnitId) (t : Stamp) (b : Bool) :
    (s.countTrip u t b).tb = s.tb := by
  unfold State.countTrip; split <;> simp

@[simp] theorem State.trip_tb (u : UnitId) (t : Stamp) : (s.trip u t).tb = s.tb := by
  unfold State.trip
  simp only
  repeat' split
  all_goals simp

@[simp] theorem State.tripsTake_tb (r : Role) (c : Change) : (s.tripsTake r c).tb = s.tb := by
  unfold State.tripsTake
  simp only
  repeat' split
  all_goals simp

@[simp] theorem State.closeFile_tb (i : SlotId) (f : TripFile) (b : Bool) :
    (s.closeFile i f b).tb = s.tb := by
  unfold State.closeFile; split <;> simp

@[simp] theorem State.judgeBreaker_tb (i : SlotId) (f : TripFile) :
    (s.judgeBreaker i f).tb = s.tb := by
  unfold State.judgeBreaker; split <;> simp

@[simp] theorem State.windowEnd_tb (i : SlotId) : (s.windowEnd i).tb = s.tb := by
  unfold State.windowEnd
  repeat' split
  all_goals simp

@[simp] theorem State.cutFile_tb (i : SlotId) : (s.cutFile i).tb = s.tb := by
  unfold State.cutFile
  repeat' split
  all_goals simp

@[simp] theorem State.restartTrips_tb : s.restartTrips.tb = s.tb := s.forEach_tb _ _ fun i t => t.cutFile_tb i

/-! ### Mode Detector -/

@[simp] theorem State.settleOn_tb (u : UnitId) (c : Candidate) :
    (s.settleOn u c).tb = s.tb := by simp [State.settleOn]

@[simp] theorem State.settle_tb (u : UnitId) : (s.settle u).tb = s.tb := by
  unfold State.settle
  repeat' split
  all_goals simp

@[simp] theorem State.settleFormed_tb (u : UnitId) : (s.settleFormed u).tb = s.tb := by
  unfold State.settleFormed
  repeat' split
  all_goals simp

@[simp] theorem State.derive_tb (u : UnitId) (t : Stamp) : (s.derive u t).tb = s.tb := by
  unfold State.derive
  simp only
  repeat' split
  all_goals simp

@[simp] theorem State.handLevel_tb (u : UnitId) (k : LevelName) (b : Bool) (t : Stamp) :
    (s.handLevel u k b t).tb = s.tb := by
  unfold State.handLevel
  simp only
  repeat' split
  all_goals simp

@[simp] theorem State.closeTest_tb (u : UnitId) (n : Nat) : (s.closeTest u n).tb = s.tb := by simp [State.closeTest]

@[simp] theorem State.expireTest_tb (u : UnitId) : (s.expireTest u).tb = s.tb := by
  unfold State.expireTest; split <;> simp

@[simp] theorem State.baselineUnit_tb (u : UnitId) (x : ModeLevels) :
    (s.baselineUnit u x).tb = s.tb := by
  unfold State.baselineUnit
  simp only
  repeat' split
  all_goals simp

@[simp] theorem State.restartUnit_tb (u : UnitId) : (s.restartUnit u).tb = s.tb := by
  unfold State.restartUnit; split <;> simp

@[simp] theorem State.restartModes_tb : s.restartModes.tb = s.tb := s.forEach_tb _ _ fun u t => t.restartUnit_tb u

/-! ### Line Scanner -/

@[simp] theorem State.noteLevel_tb (l : LineId) (b : Bool) (t : Stamp) (c d : Bool) :
    (s.noteLevel l b t c d).tb = s.tb := by simp [State.noteLevel]

@[simp] theorem State.noteChatter_tb (l : LineId) (k : Kind) (t : Stamp) (n : Nat) (b : Bool) :
    (s.noteChatter l k t n b).tb = s.tb := by simp [State.noteChatter]

@[simp] theorem State.handModeLevel_tb (l : LineId) (b : Bool) (t : Stamp) :
    (s.handModeLevel l b t).tb = s.tb := by
  unfold State.handModeLevel; split <;> simp

@[simp] theorem State.passOn_tb (l : LineId) (b : Bool) (t : Stamp) :
    (s.passOn l b t).tb = s.tb := by simp [State.passOn]

@[simp] theorem State.beginChatter_tb (l : LineId) (b : Bool) (t : Stamp) :
    (s.beginChatter l b t).tb = s.tb := by
  unfold State.beginChatter
  simp only
  repeat' split
  all_goals simp

@[simp] theorem State.countChatter_tb (l : LineId) (b : Bool) (t : Stamp) :
    (s.countChatter l b t).tb = s.tb := by
  unfold State.countChatter
  simp only
  repeat' split
  all_goals simp

@[simp] theorem State.acceptChange_tb (l : LineId) (b : Bool) (t : Stamp) :
    (s.acceptChange l b t).tb = s.tb := by
  unfold State.acceptChange
  simp only
  repeat' split
  all_goals simp

@[simp] theorem State.resolve_tb (l : LineId) (c : PendingChange) :
    (s.resolve l c).tb = s.tb := by
  unfold State.resolve; split <;> simp

@[simp] theorem State.closeChatterWindow_tb (l : LineId) :
    (s.closeChatterWindow l).tb = s.tb := by
  unfold State.closeChatterWindow; split <;> simp

@[simp] theorem State.leaveChatter_tb (l : LineId) : (s.leaveChatter l).tb = s.tb := by
  unfold State.leaveChatter
  simp only
  repeat' split
  all_goals simp

@[simp] theorem State.endChatter_tb (l : LineId) : (s.endChatter l).tb = s.tb := by
  unfold State.endChatter; split <;> simp

@[simp] theorem State.fastEdge_tb (l : LineId) (b : Bool) : (s.fastEdge l b).tb = s.tb := by
  unfold State.fastEdge
  simp only
  repeat' split
  all_goals simp

@[simp] theorem State.endFastDebounce_tb (l : LineId) : (s.endFastDebounce l).tb = s.tb := by
  unfold State.endFastDebounce
  repeat' split
  all_goals simp

@[simp] theorem State.sampleLine_tb (t : Stamp) (l : LineId) :
    (s.sampleLine t l).tb = s.tb := by
  unfold State.sampleLine
  simp only
  repeat' split
  all_goals simp

@[simp] theorem State.pinsOfScan_tb (pins : BitVec 48) : (s.pinsOfScan pins).tb = s.tb := rfl

@[simp] theorem State.scan_tb (pins : BitVec 48) : (s.scan pins).tb = s.tb := by
  unfold State.scan
  split
  · exact (State.forEach_tb _ _ _ fun l t => t.sampleLine_tb _ l).trans (by simp)
  · rfl

@[simp] theorem State.takeBaseline_tb (pins : BitVec 48) :
    (s.takeBaseline pins).tb = s.tb := by
  unfold State.takeBaseline
  exact State.forEach_tb _ _ _ fun u t => t.baselineUnit_tb u _

@[simp] theorem State.awaitBaseline_tb : s.awaitBaseline.tb = s.tb := rfl

/-! ### Distribution Driver -/

@[simp] theorem State.beginStrobe_tb : s.beginStrobe.tb = s.tb := rfl

@[simp] theorem State.clockWord_tb : s.clockWord.tb = s.tb := by
  unfold State.clockWord; split <;> simp

@[simp] theorem State.endWord_tb : s.endWord.tb = s.tb := by
  unfold State.endWord; split <;> simp

@[simp] theorem State.releaseStrobe_tb : s.releaseStrobe.tb = s.tb := by
  unfold State.releaseStrobe; split <;> simp

@[simp] theorem State.judgeEcho_tb (b : Bool) : (s.judgeEcho b).tb = s.tb := by
  unfold State.judgeEcho
  simp only
  repeat' split
  all_goals simp

@[simp] theorem State.checkEcho_tb (b : Bool) : (s.checkEcho b).tb = s.tb := by
  unfold State.checkEcho; split <;> simp

@[simp] theorem State.setReadsBack_tb (b : Bool) : (s.setReadsBack b).tb = s.tb := rfl

@[simp] theorem State.makeStepKnown_tb : s.makeStepKnown.tb = s.tb := by simp [State.makeStepKnown]

/-! ### Reference Monitor -/

@[simp] theorem State.setLost_tb : s.setLost.tb = s.tb := rfl

@[simp] theorem State.clearLost_tb (q : Port) : (s.clearLost q).tb = s.tb := rfl

@[simp] theorem State.recordSelection_tb (x : Option RefId) :
    (s.recordSelection x).tb = s.tb := by simp [State.recordSelection]

@[simp] theorem State.moveDisagree_tb (b : Bool) : (s.moveDisagree b).tb = s.tb := by simp [State.moveDisagree]

@[simp] theorem State.recordRefState_tb (r : RefId) (x : RefState) :
    (s.recordRefState r x).tb = s.tb := by simp [State.recordRefState]

@[simp] theorem State.takeMessage_tb (r : RefId) (m : Arrived) :
    (s.takeMessage r m).tb = s.tb := rfl

@[simp] theorem State.takeArrived_tb (r : RefId) : (s.takeArrived r).tb = s.tb := by
  unfold State.takeArrived; split <;> simp

@[simp] theorem State.wholeMessage_tb (r : RefId) (b : List Byte) :
    (s.wholeMessage r b).tb = s.tb := by
  unfold State.wholeMessage; split <;> simp

@[simp] theorem State.timeMessage_tb (r : RefId) (b : List Byte) :
    (s.timeMessage r b).tb = s.tb := by
  unfold State.timeMessage
  repeat' split
  all_goals simp

@[simp] theorem State.messageByte_tb (r : RefId) (b : Byte) (h : Bool) (n : Nat) :
    (s.messageByte r b h n).tb = s.tb := by simp [State.messageByte]

@[simp] theorem State.dropPartial_tb (r : RefId) : (s.dropPartial r).tb = s.tb := by
  unfold State.dropPartial; split <;> simp

@[simp] theorem State.restartRef_tb (r : RefId) : (s.restartRef r).tb = s.tb := by
  unfold State.restartRef
  simp only
  repeat' split
  all_goals simp

@[simp] theorem State.restartSelection_tb : s.restartSelection.tb = s.tb := by
  unfold State.restartSelection; split <;> simp

@[simp] theorem State.restartComparison_tb : s.restartComparison.tb = s.tb := by
  unfold State.restartComparison; split <;> simp

@[simp] theorem State.restartReferences_tb : s.restartReferences.tb = s.tb := by simp [State.restartReferences]

/-! ### Settings Store -/

@[simp] theorem State.loadSettings_tb : s.loadSettings.tb = s.tb := by
  unfold State.loadSettings; split <;> simp

@[simp] theorem State.reloadSettings_tb : s.reloadSettings.tb = s.tb := rfl

@[simp] theorem State.readIdentity_tb : s.readIdentity.tb = s.tb := rfl

/-! ### Tally Journal and flash -/

@[simp] theorem State.noteJournal_tb (a b : Nat) : (s.noteJournal a b).tb = s.tb := by simp [State.noteJournal]

@[simp] theorem State.enterJournalState_tb (x : JournalState) :
    (s.enterJournalState x).tb = s.tb := by simp [State.enterJournalState]

@[simp] theorem State.reviewJournal_tb (b : Bool) : (s.reviewJournal b).tb = s.tb := by
  unfold State.reviewJournal
  simp only
  repeat' split
  all_goals simp

@[simp] theorem State.retire_tb (x : Fin 32) : (s.retire x).tb = s.tb := by
  unfold State.retire; split <;> simp

@[simp] theorem State.endSave_tb (o : SaveOutcome) : (s.endSave o).tb = s.tb := by
  unfold State.endSave
  repeat' split
  all_goals simp

@[simp] theorem State.beginSettingsWork_tb : s.beginSettingsWork.tb = s.tb := by
  unfold State.beginSettingsWork; split <;> simp

@[simp] theorem State.beginErase_tb (x : Fin 32) : (s.beginErase x).tb = s.tb := rfl

@[simp] theorem State.beginProgram_tb (r : JournalRecord) : (s.beginProgram r).tb = s.tb := rfl

@[simp] theorem State.beginCheckpoint_tb : s.beginCheckpoint.tb = s.tb := rfl

@[simp] theorem State.grantFlash_tb : s.grantFlash.tb = s.tb := by
  unfold State.grantFlash
  simp only
  repeat' split
  all_goals simp

@[simp] theorem State.checkpointBegin_tb : s.checkpointBegin.tb = s.tb := by
  unfold State.checkpointBegin; split <;> simp

@[simp] theorem State.intervalRequest_tb : s.intervalRequest.tb = s.tb := by
  unfold State.intervalRequest; split <;> simp

@[simp] theorem State.paceRequest_tb : s.paceRequest.tb = s.tb := by
  unfold State.paceRequest; split <;> simp

@[simp] theorem State.leaveSector_tb (x : Fin 32) : (s.leaveSector x).tb = s.tb := by
  unfold State.leaveSector; split <;> simp

@[simp] theorem State.eraseAhead_tb : s.eraseAhead.tb = s.tb := by
  unfold State.eraseAhead
  repeat' split
  all_goals simp

@[simp] theorem State.moveOn_tb : s.moveOn.tb = s.tb := by
  unfold State.moveOn
  simp only
  repeat' split
  all_goals simp

@[simp] theorem State.beginPowerFail_tb : s.beginPowerFail.tb = s.tb := by
  unfold State.beginPowerFail; split <;> simp

@[simp] theorem State.retryPowerFail_tb (r : JournalRecord) :
    (s.retryPowerFail r).tb = s.tb := by
  unfold State.retryPowerFail; split <;> simp

@[simp] theorem State.beginReleasedPowerFail_tb : s.beginReleasedPowerFail.tb = s.tb := by
  unfold State.beginReleasedPowerFail
  simp only
  repeat' split
  all_goals simp

@[simp] theorem State.afterTakenProgram_tb (r : JournalRecord) (b : Bool) :
    (s.afterTakenProgram r b).tb = s.tb := by
  unfold State.afterTakenProgram
  repeat' split
  all_goals simp

@[simp] theorem State.programVerified_tb (x : Fin 32) (y : Fin 8) (r : JournalRecord) :
    (s.programVerified x y r).tb = s.tb := by simp [State.programVerified]

@[simp] theorem State.programFailed_tb (r : JournalRecord) :
    (s.programFailed r).tb = s.tb := by
  unfold State.programFailed
  simp only
  repeat' split
  all_goals simp

@[simp] theorem State.endProgram_tb (x : Fin 32) (y : Fin 8) (r : JournalRecord) (l : Option (List Byte)) :
    (s.endProgram x y r l).tb = s.tb := by
  unfold State.endProgram
  simp only
  repeat' split
  all_goals simp

@[simp] theorem State.programEnd_tb (l : Option (List Byte)) : (s.programEnd l).tb = s.tb := by
  unfold State.programEnd; split <;> simp

@[simp] theorem State.scanJournal_tb : s.scanJournal.tb = s.tb := by
  unfold State.scanJournal; split <;> simp

@[simp] theorem State.continueRecovery_tb : s.continueRecovery.tb = s.tb := by
  unfold State.continueRecovery
  repeat' split
  all_goals simp

@[simp] theorem State.leaveRetired_tb (x : Fin 32) : (s.leaveRetired x).tb = s.tb := by
  unfold State.leaveRetired; split <;> simp

@[simp] theorem State.countEraseFailure_tb : s.countEraseFailure.tb = s.tb := rfl

@[simp] theorem State.recoveryEraseFailed_tb (x : Fin 32) :
    (s.recoveryEraseFailed x).tb = s.tb := by simp [State.recoveryEraseFailed]

@[simp] theorem State.eraseFailed_tb (x : Fin 32) : (s.eraseFailed x).tb = s.tb := by simp [State.eraseFailed]

@[simp] theorem State.endErase_tb (x : Fin 32) (l : List Byte) :
    (s.endErase x l).tb = s.tb := by
  unfold State.endErase
  simp only
  repeat' split
  all_goals simp

@[simp] theorem State.eraseEnd_tb (l : List Byte) : (s.eraseEnd l).tb = s.tb := by
  unfold State.eraseEnd; split <;> simp

@[simp] theorem State.settingsEraseEnd_tb (l : List Byte) :
    (s.settingsEraseEnd l).tb = s.tb := by
  unfold State.settingsEraseEnd
  simp only
  repeat' split
  all_goals simp

@[simp] theorem State.settingsProgramEnd_tb (l : Option (List Byte)) :
    (s.settingsProgramEnd l).tb = s.tb := by
  unfold State.settingsProgramEnd; split <;> simp

@[simp] theorem State.abandonErase_tb (x : Fin 32) : (s.abandonErase x).tb = s.tb := rfl

@[simp] theorem State.abandonSettingsWork_tb : s.abandonSettingsWork.tb = s.tb := by
  simp [State.abandonSettingsWork, State.freeBytes]

@[simp] theorem State.abandonWaitingSave_tb : s.abandonWaitingSave.tb = s.tb := by
  unfold State.abandonWaitingSave; split <;> simp

@[simp] theorem State.stopFlash_tb : s.stopFlash.tb = s.tb := by
  unfold State.stopFlash; split <;> simp

@[simp] theorem State.takeWarning_tb : s.takeWarning.tb = s.tb := by
  unfold State.takeWarning
  simp only
  repeat' split
  all_goals simp

@[simp] theorem State.powerFailWarning_tb : s.powerFailWarning.tb = s.tb := by
  unfold State.powerFailWarning
  repeat' split
  all_goals simp

@[simp] theorem State.powerFailRelease_tb : s.powerFailRelease.tb = s.tb := by
  unfold State.powerFailRelease
  repeat' split
  all_goals simp

@[simp] theorem State.restartJournal_tb : s.restartJournal.tb = s.tb := by
  unfold State.restartJournal; split <;> simp

/-! ### Start-up and ports -/

@[simp] theorem State.announceJournal_tb : s.announceJournal.tb = s.tb := by
  unfold State.announceJournal
  simp only
  repeat' split
  all_goals simp

@[simp] theorem State.start_tb (d : BitVec 16) : (s.start d).tb = s.tb := by
  unfold State.start
  exact (State.forEach_tb _ _ _ fun e t => t.complete_tb e).trans (by simp)

@[simp] theorem State.endSequence_tb : s.endSequence.tb = s.tb := by simp [State.endSequence]

@[simp] theorem State.baseline_tb (pins : BitVec 48) : (s.baseline pins).tb = s.tb := by
  unfold State.baseline
  repeat' split
  all_goals simp

@[simp] theorem State.restartPorts_tb : s.restartPorts.tb = s.tb := rfl

@[simp] theorem State.endFrame_tb (q : Port) (b : List Byte) : (s.endFrame q b).tb = s.tb := by
  unfold State.endFrame; split <;> simp

@[simp] theorem State.responseFinished_tb (q : Port) (b : Bool) :
    (s.responseFinished q b).tb = s.tb := rfl
/-! ### What the owners make of requests -/

@[simp] theorem State.ok_state : s.ok.state = s := rfl

@[simp] theorem State.gives_state (body : List Byte) : (s.gives body).state = s := rfl

@[simp] theorem State.refuse_state (r : Result) : (s.refuse r).state = s := rfl

@[simp] theorem State.status_tb (q : Port) : (s.status q).state.tb = s.tb := rfl

@[simp] theorem State.identify_tb (q : Port) : (s.identify q).state.tb = s.tb := rfl

@[simp] theorem State.readTime_tb : s.readTime.state.tb = s.tb := rfl

@[simp] theorem State.readReferences_tb (q : Port) : (s.readReferences q).state.tb = s.tb := rfl

@[simp] theorem State.readLines_tb (unit : Byte) : (s.readLines unit).state.tb = s.tb := by
  unfold State.readLines
  repeat' split
  all_goals simp

@[simp] theorem State.readUnit_tb (unit : Byte) : (s.readUnit unit).state.tb = s.tb := by
  unfold State.readUnit; split <;> simp

@[simp] theorem State.readEvents_tb (q : Port) (count : Byte) :
    (s.readEvents q count).state.tb = s.tb := rfl

@[simp] theorem State.seekEvents_tb (q : Port) (selector : Byte) (seq : EventSeq) :
    (s.seekEvents q selector seq).state.tb = s.tb := by
  unfold State.seekEvents; split <;> simp

@[simp] theorem State.listTripFiles_tb : s.listTripFiles.state.tb = s.tb := rfl

@[simp] theorem State.readTripFile_tb (slot : Byte) :
    (s.readTripFile slot).state.tb = s.tb := by
  unfold State.readTripFile; split <;> simp

@[simp] theorem State.readSummary_tb (index part : Byte) :
    (s.readSummary index part).state.tb = s.tb := by
  unfold State.readSummary
  repeat' split
  all_goals simp

@[simp] theorem State.readJournal_tb (part : Byte) : (s.readJournal part).state.tb = s.tb := by
  unfold State.readJournal
  repeat' split
  all_goals simp

@[simp] theorem State.readSettings_tb (item qual : Byte) :
    (s.readSettings item qual).state.tb = s.tb := by
  unfold State.readSettings
  simp only
  repeat' split
  all_goals simp

@[simp] theorem State.clearTripFile_tb (slot : Byte) (x : Second) :
    (s.clearTripFile slot x).state.tb = s.tb := by
  unfold State.clearTripFile
  repeat' split
  all_goals simp

@[simp] theorem State.presetTally_tb (b : PresetBody) : (s.presetTally b).state.tb = s.tb := by
  unfold State.presetTally
  repeat' split
  all_goals simp

@[simp] theorem State.lockPresets_tb : s.lockPresets.state.tb = s.tb := by
  unfold State.lockPresets; split <;> simp

@[simp] theorem State.saveSettings_tb : s.saveSettings.state.tb = s.tb := by
  unfold State.saveSettings; split <;> simp

@[simp] theorem State.setTest_tb (unit : Byte) : (s.setTest unit).state.tb = s.tb := by
  unfold State.setTest
  repeat' split
  all_goals simp

@[simp] theorem State.endTest_tb (unit : Byte) : (s.endTest unit).state.tb = s.tb := by
  unfold State.endTest
  repeat' split
  all_goals simp

@[simp] theorem State.takeShift_tb (crew : Byte) : (s.takeShift crew).state.tb = s.tb := by
  unfold State.takeShift
  repeat' split
  all_goals simp

@[simp] theorem State.handOver_tb (crew : Byte) : (s.handOver crew).state.tb = s.tb := by
  unfold State.handOver
  repeat' split
  all_goals simp

@[simp] theorem State.accept_tb (crew : Byte) : (s.accept crew).state.tb = s.tb := by
  unfold State.accept
  repeat' split
  all_goals simp

@[simp] theorem State.withdraw_tb : s.withdraw.state.tb = s.tb := by
  unfold State.withdraw; split <;> simp

@[simp] theorem State.acknowledgeTripFile_tb (slot : Byte) (x : Second) :
    (s.acknowledgeTripFile slot x).state.tb = s.tb := by
  unfold State.acknowledgeTripFile
  repeat' split
  all_goals simp

@[simp] theorem State.permitPreset_tb (unit : Byte) :
    (s.permitPreset unit).state.tb = s.tb := by
  unfold State.permitPreset
  repeat' split
  all_goals simp

end Sys2Proof.Machine
end

section
/-! The ranges of the Timebase (R2, R3, R12, R19, R20): each operation that moves it keeps them, and so does
every step. -/

namespace Sys2Proof.Machine

/-! ### What the Timebase's own functions make of a sound one -/

section
variable {t : Timebase}

theorem Timebase.grown_sound (h : t.sound) (drift : Nat) : (t.grown drift).sound := by
  unfold Timebase.grown
  split
  · obtain ⟨nanos, -, outliers, clock⟩ := h
    exact ⟨nanos, Nat.min_le_left _ _, outliers, clock⟩
  · exact h

theorem Timebase.slewed_sound (h : t.sound) (e : Int) (claim : Nat) : (t.slewed e claim).sound := by
  obtain ⟨nanos, -, -, clock⟩ := h
  exact ⟨nanos, Nat.min_le_left _ _, by simp [Timebase.slewed], clock⟩

theorem Timebase.outlier_sound (h : t.sound) (e : Int) (claim : Nat) (few : t.outliers + 1 < 3) :
    (t.outlier e claim).sound := by
  obtain ⟨nanos, -, -, clock⟩ := h
  exact ⟨nanos, Nat.min_le_left _ _, few, clock⟩

/-- A step leaves N the remainder by a second (R14). -/
theorem Timebase.shiftBy_nanos_lt (t : Timebase) (e : Int) : (t.shiftBy e).nanos < Config.second := by
  simp only [Timebase.shiftBy, Config.second]
  omega

theorem Timebase.stepped_sound (h : t.sound) (e : Int) (claim : Nat) : (t.stepped e claim).sound := by
  obtain ⟨-, -, -, clock⟩ := h
  exact ⟨t.shiftBy_nanos_lt e, Nat.min_le_left _ _, by simp [Timebase.stepped], clock⟩

theorem Timebase.setTo_sound (h : t.sound) (second : Second) {micros : Nat} (range : micros ≤ 999999) :
    (t.setTo second micros).sound := by
  obtain ⟨-, -, outliers, clock⟩ := h
  refine ⟨?_, le_refl _, outliers, clock⟩
  simp only [Timebase.setTo, Config.second]
  omega

theorem Timebase.holdOver_sound (h : t.sound) : t.holdOver.sound := by
  obtain ⟨nanos, uncertainty, -, clock⟩ := h
  exact ⟨nanos, uncertainty, by simp [Timebase.holdOver], clock⟩

theorem Timebase.start_sound (h : t.sound) (second : Second) (integral : Int) :
    (t.start second integral).sound := by
  obtain ⟨-, -, -, clock⟩ := h
  exact ⟨by simp [Timebase.start, Config.second], le_refl _, by simp [Timebase.start], clock⟩

theorem Timebase.powerOn_sound : Timebase.powerOn.sound := by
  unfold Timebase.sound
  decide

theorem Timebase.advance_le (t : Timebase) : t.advance ≤ 101 := by
  unfold Timebase.advance
  simp only
  repeat' split
  all_goals omega

/-- The advance carries into S what N would hold beyond a second (R2). -/
theorem Timebase.nextNanos_lt (h : t.nanos < Config.second) : t.nextNanos < Config.second := by
  have step := t.advance_le
  unfold Timebase.nextNanos
  unfold Config.second at h ⊢
  split
  · split
    · omega
    · rename_i running low
      have low : ¬ 1000000000 ≤ t.nanos + t.advance := fun reaches =>
        low (by simp only [Timebase.crossesSecond, running, Bool.true_and]; exact decide_eq_true reaches)
      omega
  · exact h

theorem Timebase.cycle_sound (h : t.sound) (drift : Nat) : (t.cycle drift).sound := by
  obtain ⟨nanos, uncertainty, outliers, -⟩ := h
  exact ⟨Timebase.nextNanos_lt nanos, uncertainty, outliers, Nat.mod_lt _ (by norm_num)⟩

end

/-! ### Boundaries, steps and the servo -/

section
variable {s : State}

theorem State.reviewAlarm_tb_sound (h : s.tb.sound) (old : Nat) : (s.reviewAlarm old).tb.sound := by
  obtain ⟨a, r, p, e⟩ := s.reviewAlarm_frame old
  rw [e]
  exact h

theorem State.classMoved_tb_sound (h : s.tb.sound) (old : Nat) : (s.classMoved old).tb.sound := by
  obtain ⟨a, x, r, p, e⟩ := s.classMoved_frame old
  rw [e]
  exact h

theorem State.growUncertainty_tb_sound (h : s.tb.sound) : s.growUncertainty.tb.sound :=
  State.classMoved_tb_sound (Timebase.grown_sound h _) _

theorem State.secondBoundary_tb_sound (h : s.tb.sound) : s.secondBoundary.tb.sound := by
  unfold State.secondBoundary
  split
  · rw [State.evaluateSchedule_tb, State.beginStrobe_tb]
    exact State.growUncertainty_tb_sound h
  · exact h

theorem State.handStepOff_tb_sound {t : Timebase} (h : t.sound) (kind : Kind) (datum : BitVec 16) :
    (s.handStepOff t kind datum).tb.sound := by
  obtain ⟨a, e⟩ := s.handStepOff_tb t kind datum
  rw [e]
  exact h

theorem State.stepTime_tb_sound (h : s.tb.sound) (e : Int) (claim : Nat) :
    (s.stepTime e claim).tb.sound :=
  State.handStepOff_tb_sound (Timebase.stepped_sound (State.secondBoundary_tb_sound h) e claim) _ _

theorem State.slew_tb_sound (h : s.tb.sound) (e : Int) (claim : Nat) : (s.slew e claim).tb.sound :=
  State.classMoved_tb_sound (Timebase.slewed_sound h e claim) _

theorem State.pulseReport_tb_sound (h : s.tb.sound) (capture : Capture) (second : Second) (claim : Nat) :
    (s.pulseReport capture second claim).tb.sound := by
  unfold State.pulseReport
  simp only
  split
  case h_1 => exact h
  case h_2 => exact State.stepTime_tb_sound h _ _
  case h_3 =>
    split
    · exact State.slew_tb_sound h _ _
    · split
      · rename_i few
        exact State.classMoved_tb_sound (Timebase.outlier_sound h _ _ few) _
      · exact State.stepTime_tb_sound h _ _
  case h_4 =>
    split
    · exact State.slew_tb_sound h _ _
    · exact State.stepTime_tb_sound h _ _

theorem State.setTime_tb_sound (h : s.tb.sound) (second : Second) (micros : BitVec 24) :
    (s.setTime second micros).state.tb.sound := by
  unfold State.setTime
  split
  · exact h
  · split
    · exact h
    · exact State.handStepOff_tb_sound
        (Timebase.setTo_sound (State.secondBoundary_tb_sound h) second (by omega)) _ _

/-! ### Changes of selection and what leads to them -/

theorem State.selectionMoved_tb_sound (h : s.tb.sound) (old new : Option RefId) :
    (s.selectionMoved old new).tb.sound := by
  obtain ⟨nanos, uncertainty, outliers, clock⟩ := h
  unfold State.selectionMoved
  repeat' split
  all_goals exact ⟨nanos, uncertainty, by simp_all [Timebase.holdOver], clock⟩

theorem State.evaluateSelection_tb_sound (h : s.tb.sound) : s.evaluateSelection.tb.sound := by
  unfold State.evaluateSelection
  split
  · exact h
  · exact State.selectionMoved_tb_sound (by simpa using h) _ _

theorem State.selectReference_tb_sound (h : s.tb.sound) (mode : Byte) :
    (s.selectReference mode).state.tb.sound := by
  unfold State.selectReference
  split
  · exact h
  · exact State.evaluateSelection_tb_sound h

theorem State.judgePair_tb_sound (h : s.tb.sound) (agrees naming : Bool) :
    (s.judgePair agrees naming).tb.sound := by
  unfold State.judgePair
  repeat' split
  case isTrue.isTrue.isTrue => exact State.evaluateSelection_tb_sound (by simpa using h)
  all_goals simpa using h

theorem State.dropUnpaired_tb_sound (h : s.tb.sound) : s.dropUnpaired.tb.sound :=
  State.judgePair_tb_sound (by exact h) _ _

theorem State.expireUnpaired_tb_sound (h : s.tb.sound) : s.expireUnpaired.tb.sound := by
  unfold State.expireUnpaired
  split
  · exact State.dropUnpaired_tb_sound h
  · exact h

theorem State.comparePulse_tb_sound (h : s.tb.sound) (m : Mark) : (s.comparePulse m).tb.sound := by
  unfold State.comparePulse
  repeat' split
  case h_2.isTrue => exact State.judgePair_tb_sound (by exact h) _ _
  case h_2.isFalse => exact State.dropUnpaired_tb_sound h
  all_goals exact h

theorem State.dropComparison_tb_sound (h : s.tb.sound) : s.dropComparison.tb.sound := by
  unfold State.dropComparison
  simp only
  split
  · exact State.evaluateSelection_tb_sound (by simpa using h)
  · exact h

theorem State.moveRef_tb_sound (h : s.tb.sound) (r : RefId) (new : RefState) :
    (s.moveRef r new).tb.sound := by
  have recorded : (s.recordRefState r new).tb.sound := by simpa using h
  unfold State.moveRef
  simp only
  split
  · exact h
  · split
    · refine State.dropComparison_tb_sound (State.evaluateSelection_tb_sound ?_)
      split
      · exact recorded
      · exact recorded
    · split
      · exact State.evaluateSelection_tb_sound recorded
      · exact recorded

theorem State.failSecond_tb_sound (h : s.tb.sound) (r : RefId) (cause : FailCause) :
    (s.failSecond r cause).tb.sound :=
  State.moveRef_tb_sound (by exact h) _ _

theorem State.expirePulse_tb_sound (h : s.tb.sound) (r : RefId) : (s.expirePulse r).tb.sound := by
  unfold State.expirePulse
  split
  · exact State.moveRef_tb_sound (by exact h) _ _
  · exact h

theorem State.failLate_tb_sound (h : s.tb.sound) (r : RefId) : (s.failLate r).tb.sound := by
  unfold State.failLate
  split
  · exact State.failSecond_tb_sound (by exact h) _ _
  · exact h

theorem State.passSecond_tb_sound (h : s.tb.sound) (r : RefId) (m : MessageInfo) :
    (s.passSecond r m).tb.sound := by
  unfold State.passSecond
  simp only
  split
  · split
    · exact h
    · exact State.evaluateSelection_tb_sound (by exact h)
  · exact State.moveRef_tb_sound (by exact h) _ _

theorem State.reportPulse_tb_sound (h : s.tb.sound) (r : RefId) (edge : Capture) (m : MessageInfo) :
    (s.reportPulse r edge m).tb.sound := by
  unfold State.reportPulse
  split
  · exact State.pulseReport_tb_sound h _ _ _
  · exact h

theorem State.closeSecond_tb_sound (h : s.tb.sound) (r : RefId) (edge : Capture) :
    (s.closeSecond r edge).tb.sound := by
  unfold State.closeSecond
  simp only
  split
  · exact h
  · split
    · exact State.failSecond_tb_sound (by exact h) _ _
    · exact State.comparePulse_tb_sound
        (State.reportPulse_tb_sound (State.passSecond_tb_sound (by exact h) _ _) _ _ _) _
    · exact h

theorem State.placeEdge_tb_sound (h : s.tb.sound) (r : RefId) (edge : Capture) :
    (s.placeEdge r edge).tb.sound := by
  unfold State.placeEdge
  split
  · exact h
  · split
    · split
      · exact h
      · exact State.failSecond_tb_sound (by exact h) _ _
    · exact State.closeSecond_tb_sound h _ _

theorem State.endPeriod_tb_sound (h : s.tb.sound) (r : RefId) (last : SeenEdge) (sh : LevelSpan)
    (edge : Capture) (high : Bool) : (s.endPeriod r last sh edge high).tb.sound := by
  unfold State.endPeriod
  simp only
  split
  · split
    · exact h
    · split
      · exact State.moveRef_tb_sound (by exact h) _ _
      · exact h
  · exact h

theorem State.learn_tb_sound (h : s.tb.sound) (r : RefId) (edge : Capture) (high : Bool) :
    (s.learn r edge high).tb.sound := by
  unfold State.learn
  simp only
  split
  · exact h
  · split
    · exact h
    · exact State.endPeriod_tb_sound (by exact h) _ _ _ _ _

theorem State.pulseEdge_tb_sound (h : s.tb.sound) (r : RefId) (high : Bool) :
    (s.pulseEdge r high).tb.sound := by
  have taken : (s.takeArrived r).tb.sound := by simpa using h
  have late : ((s.takeArrived r).failLate r).tb.sound := State.failLate_tb_sound taken r
  have second (active : Bool) : ((s.takeArrived r).secondEdge r active).tb.sound := by
    unfold State.secondEdge
    split
    · exact State.placeEdge_tb_sound (by exact late) _ _
    · exact taken
  have relisten (active : Bool) : ((s.takeArrived r).relisten r active).tb.sound := by
    unfold State.relisten
    simp only
    split
    · exact State.moveRef_tb_sound (by exact taken) _ _
    · exact taken
  unfold State.pulseEdge
  simp only
  split
  · exact State.moveRef_tb_sound (by exact taken) _ _
  · split
    · exact State.learn_tb_sound taken _ _ _
    · exact relisten _
  all_goals exact second _

/-! ### Settings, start-up and restart -/

theorem State.applySettings_tb_sound (h : s.tb.sound) (w : Settings) : (s.applySettings w).tb.sound := by
  unfold State.applySettings
  simp only
  repeat' split
  case isTrue.isTrue => exact State.reviewAlarm_tb_sound (by exact h) _
  case isTrue.isFalse => exact State.reviewAlarm_tb_sound (by exact h) _
  all_goals exact State.evaluateSelection_tb_sound (State.reviewAlarm_tb_sound (by exact h) _)

theorem State.handOverRecovered_tb_sound (h : s.tb.sound) : s.handOverRecovered.tb.sound := by
  unfold State.handOverRecovered
  split
  all_goals exact Timebase.start_sound h _ _

theorem State.endRecovery_tb_sound (h : s.tb.sound) : s.endRecovery.tb.sound := by
  unfold State.endRecovery
  split
  · simpa using State.handOverRecovered_tb_sound h
  · exact h

theorem State.powerOn_tb (s : State) : s.powerOn.tb = Timebase.powerOn := by
  simp [State.powerOn, State.dark, State.reset]

theorem State.restartTimebase_tb_sound (h : s.tb.sound) : s.restartTimebase.tb.sound := by
  obtain ⟨nanos, uncertainty, -, clock⟩ := h
  unfold State.restartTimebase
  split
  all_goals exact ⟨nanos, uncertainty, by simp [Timebase.holdOver], clock⟩

theorem State.restart_tb_sound (h : s.tb.sound) : s.restart.tb.sound := by
  unfold State.restart
  split
  · simpa [State.restartBlocks] using
      State.reviewAlarm_tb_sound (State.restartTimebase_tb_sound (by simpa using h)) _
  · exact h

/-! ### Requests -/

/-- Of the owners' decisions, those that move the Timebase keep its ranges; the others leave it alone. -/
theorem State.decide_tb_sound (h : s.tb.sound) (q : Port) (r : Request) :
    (s.decide q r).state.tb.sound := by
  cases r
  case setTime second micros => exact State.setTime_tb_sound h second micros
  case selectReference mode => exact State.selectReference_tb_sound h mode
  case restart => exact State.restart_tb_sound h
  case writeSettings item qual value =>
    simp only [State.decide, State.writeSettings]
    split
    · exact State.applySettings_tb_sound h _
    · exact h
  all_goals simpa [State.decide] using h

theorem State.take_tb_sound (h : s.tb.sound) (q : Port) (r : Request) : (s.take q r).tb.sound := by
  unfold State.take
  split
  · exact State.decide_tb_sound h q r
  · exact h

theorem State.frameBegin_tb_sound (h : s.tb.sound) (q : Port) : (s.frameBegin q).tb.sound := by
  unfold State.frameBegin
  split
  · exact h
  · exact State.take_tb_sound h q .nop

theorem State.frameEnd_tb_sound (h : s.tb.sound) (q : Port) (bytes : List Byte) :
    (s.frameEnd q bytes).tb.sound := by
  have ended : ((s.answerNop q).endFrame q bytes).tb.sound := by
    rw [State.endFrame_tb]
    exact State.take_tb_sound h q .nop
  unfold State.frameEnd
  simp only
  split
  · exact h
  · split
    · exact State.take_tb_sound ended q .restart
    · exact ended

theorem State.frameAbort_tb_sound (h : s.tb.sound) (q : Port) : (s.frameAbort q).tb.sound := by
  unfold State.frameAbort
  split
  · exact h
  · exact State.take_tb_sound h q .nop

theorem State.request_tb_sound (h : s.tb.sound) (q : Port) (r : Request) :
    (s.request q r).tb.sound := by
  unfold State.request
  split
  · exact State.take_tb_sound h q r
  · exact State.take_tb_sound (State.frameEnd_tb_sound h q _) q r

/-! ### The oscillator cycle -/

/-- A walk whose steps keep the ranges of the Timebase keeps them. -/
theorem State.forEach_tb_sound {ι : Type} (h : s.tb.sound) (xs : List ι) (f : ι → State → State)
    (keeps : ∀ x t, t.tb.sound → (f x t).tb.sound) : (s.forEach xs f).tb.sound :=
  State.forEach_keeps (fun t => t.tb.sound) xs f keeps h

theorem State.servePrompt_tb_sound (h : s.tb.sound) : s.servePrompt.tb.sound :=
  State.forEach_tb_sound h _ _ fun q _ ht =>
    State.forEach_tb_sound ht _ _ fun b _ hu => State.take_tb_sound hu q b.request

theorem State.serveReferences_tb_sound (h : s.tb.sound) : s.serveReferences.tb.sound :=
  State.expireUnpaired_tb_sound <| State.forEach_tb_sound h _ _ fun r _ ht =>
    State.expirePulse_tb_sound (State.failLate_tb_sound ht r) r

end

variable (s : State)

theorem State.serveMessages_tb : s.serveMessages.tb = s.tb :=
  s.forEach_tb _ _ fun r t => t.takeArrived_tb r

theorem State.serveDriver_tb : s.serveDriver.tb = s.tb := by simp [State.serveDriver]

theorem State.serveScan_tb : s.serveScan.tb = s.tb := by simp [State.serveScan]

theorem State.serveLines_tb : s.serveLines.tb = s.tb := by
  unfold State.serveLines
  simp only
  rw [State.forEach_tb _ _ _ fun l t => by simp, State.serveScan_tb]
  exact State.forEach_tb _ _ _ fun l t => t.endFastDebounce_tb l

theorem State.serveUnits_tb : s.serveUnits.tb = s.tb := by
  unfold State.serveUnits
  simp only
  rw [State.forEach_tb _ _ _ fun u t => t.lapsePermit_tb u,
    State.forEach_tb _ _ _ fun i t => t.windowEnd_tb i,
    State.forEach_tb _ _ _ fun u t => by simp]

theorem State.serveFlash_tb : s.serveFlash.tb = s.tb := by
  unfold State.serveFlash
  simp only
  split <;> simp

variable {s}

theorem State.serveDue_tb_sound (h : s.tb.sound) : s.serveDue.tb.sound := by
  have boundary : s.servePrompt.serveMessages.secondBoundary.tb.sound :=
    State.secondBoundary_tb_sound (by rw [State.serveMessages_tb]; exact State.servePrompt_tb_sound h)
  unfold State.serveDue
  simp only [State.serveFlash_tb, State.lapseOffer_tb, State.endGrace_tb, State.serveUnits_tb,
    State.serveLines_tb]
  exact State.serveReferences_tb_sound (by simpa [State.serveDriver_tb] using boundary)

theorem State.oscillatorCycle_tb_sound (h : s.tb.sound) : s.oscillatorCycle.tb.sound := by
  unfold State.oscillatorCycle
  split
  · exact h
  · exact Timebase.cycle_sound (State.serveDue_tb_sound h) _

/-! ### Every step -/

/-- A watched event keeps what its effect keeps. -/
theorem State.watched_tb_sound (h : s.tb.sound) {t : State} (ht : t.tb.sound) :
    (if s.watching then t else s).tb.sound := by
  split
  · exact ht
  · exact h

/-- The effect of a command on the Timebase: POWER_ON, POWER_LOSS and END_OF_RECOVERY start it afresh,
the boundary, the references, the requests and the cycle move it, and no other command touches it. -/
theorem exec_tb_sound (h : s.tb.sound) (i : Instr) {t : State} (ht : exec i s = .next t) :
    t.tb.sound := by
  cases i
  case powerOn => cases ht; rw [State.powerOn_tb]; exact Timebase.powerOn_sound
  case powerLoss => cases ht; exact Timebase.powerOn_sound
  case endOfRecovery => cases ht; exact State.endRecovery_tb_sound h
  case restartLine => cases ht; exact State.restart_tb_sound h
  case oscillatorCycle => cases ht; exact State.oscillatorCycle_tb_sound h
  case secondBoundary => cases ht; exact State.secondBoundary_tb_sound h
  case pulseEdge r rising =>
    cases ht; exact State.watched_tb_sound h (State.pulseEdge_tb_sound h r rising)
  case timeMessage r bytes => cases ht; exact State.watched_tb_sound h (by simpa using h)
  case messageByte r b stop gap => cases ht; exact State.watched_tb_sound h (by simpa using h)
  case pulseLossTimeout r => cases ht; exact State.expirePulse_tb_sound h r
  case latePulse r => cases ht; exact State.failLate_tb_sound h r
  case unpairedMarkTimeout => cases ht; exact State.expireUnpaired_tb_sound h
  case frameBegin q => cases ht; exact State.frameBegin_tb_sound h q
  case frameEnd q bytes => cases ht; exact State.frameEnd_tb_sound h q bytes
  case frameAbort q => cases ht; exact State.frameAbort_tb_sound h q
  case readLines q look => cases ht; exact State.request_tb_sound (by exact h) q _
  case baseline | powerFailWarning | powerFailRelease | millisecondBoundary |
      messageByteTimeout | strobeRelease | wordEnd | dclkDdataChange | echoCheck |
      fastLineEdge | fastLineDebounceEnd | scanInstant | chatterWindowClose | chatterOff |
      settling | testExpiry | windowEnd | permitLapse | checkpointInterval | countPace |
      checkpointBegin | programEnd | eraseEnd | settingsEraseEnd | settingsProgramEnd |
      graceEnd | offerLapse | responseFinished =>
    cases ht
    simpa using h
  all_goals cases ht; exact State.request_tb_sound h _ _

/-- Settles O44: the empty queue leaves the state alone, and a command taken from the queue keeps the
ranges, since the queue is no part of the Timebase. -/
theorem timebaseStaysInRange : Obligations.TimebaseStaysInRange := by
  intro s t h ht
  unfold step at ht
  split at ht
  · cases ht; exact h
  · exact exec_tb_sound (by exact h) _ ht

end Sys2Proof.Machine
end

section
/-! The tables of the quality class and the modes (R21, R78), the power-on values, and the oscillator
cycle (R1 to R3). -/

namespace Sys2Proof.Machine

/-! ### Class and mode -/

/-- The table of R21, read upwards: the class of U is the first whose limit U does not pass. -/
theorem classOfUncertainty_eq_iff (u : Nat) :
    (classOfUncertainty u = 1 ↔ u ≤ 1000)
      ∧ (classOfUncertainty u = 2 ↔ 1000 < u ∧ u ≤ 10000)
      ∧ (classOfUncertainty u = 3 ↔ 10000 < u ∧ u ≤ 100000)
      ∧ (classOfUncertainty u = 4 ↔ 100000 < u ∧ u ≤ 1000000)
      ∧ (classOfUncertainty u = 5 ↔ 1000000 < u ∧ u ≤ 10000000)
      ∧ (classOfUncertainty u = 6 ↔ 10000000 < u) := by
  unfold classOfUncertainty
  split_ifs <;> omega

theorem Timebase.cls_of_unset {t : Timebase} (h : t.unset = true) : t.cls = 7 := by
  simp [Timebase.cls, h]

theorem Timebase.cls_of_set {t : Timebase} (h : t.unset = false) :
    t.cls = classOfUncertainty t.uncertainty := by
  simp [Timebase.cls, h]

theorem ModeLevels.derived_of_stopped {x : ModeLevels} (h : x.running = false) :
    x.derived = .stand := by
  simp [ModeLevels.derived, h]

theorem ModeLevels.derived_of_open {x : ModeLevels} (running : x.running = true)
    (h : x.breaker = false) : x.derived = .spin := by
  simp [ModeLevels.derived, running, h]

theorem ModeLevels.derived_of_closed {x : ModeLevels} (running : x.running = true)
    (closed : x.breaker = true) :
    x.derived = if x.condenser then .cond else if x.pump then .pump else .gen := by
  simp [ModeLevels.derived, running, closed]

/-- Settles O24: both tables row by row. -/
theorem classAndModeAreReadFromTheirTables : Obligations.ClassAndModeAreReadFromTheirTables := by
  refine ⟨fun t => ⟨Timebase.cls_of_unset, fun set => ?_⟩, fun x => ⟨?_, ?_, ?_, ?_, ?_⟩⟩
  · rw [Timebase.cls_of_set set]
    exact classOfUncertainty_eq_iff t.uncertainty
  · exact ModeLevels.derived_of_stopped
  · exact ModeLevels.derived_of_open
  · intro running closed condenser
    rw [ModeLevels.derived_of_closed running closed, if_pos condenser]
  · intro running closed condenser pump
    rw [ModeLevels.derived_of_closed running closed, condenser, pump]
    rfl
  · intro running closed condenser pump
    rw [ModeLevels.derived_of_closed running closed, condenser, pump]
    rfl

/-! ### Power-on values -/

theorem State.reset_powerOnValues : Claims.PowerOnValuesHoldAtReset := by
  refine ⟨rfl, rfl, rfl, rfl, rfl, rfl, rfl, fun r => ?_, rfl, rfl, rfl, rfl, rfl, rfl, rfl, rfl, rfl,
    fun u => ?_, rfl, rfl, fun i => ?_, rfl, fun u => ?_, rfl, rfl, rfl⟩
  · cases r <;> exact ⟨rfl, rfl, rfl, rfl, rfl, rfl⟩
  · simp [State.reset, UnitMode.powerOn]
  · simp [State.reset]
  · simp [State.reset, State.tallyOf, UnitTally.powerOn]

theorem Ring.powerOn_sound : Ring.powerOn.sound := by
  refine ⟨Nat.zero_le _, by decide, fun q => ?_, fun i x h => ?_⟩
  · cases q <;> decide
  · simp [Ring.powerOn] at h

theorem PortState.powerOn_sound : PortState.powerOn.sound := rfl

/-- A shift without summaries has nothing out of order. -/
theorem Shift.powerOn_logSound : Shift.powerOn.logSound := by
  refine ⟨Nat.zero_le _, fun i m n h _ => ?_, fun m h => ?_, fun m h => ?_⟩
  all_goals simp [Shift.powerOn] at h

theorem State.reset_port (q : Port) : State.reset.port q = PortState.powerOn :=
  PerPort.get_all _ q

theorem Flash.factory_sound : Flash.factory.sound := by
  unfold Flash.sound
  decide +kernel

/-- Settles O45: the values stand in State.reset, and each block's power-on values have the form its
invariant asks for. -/
theorem resetHoldsPowerOnValues : Obligations.ResetHoldsPowerOnValues := by
  refine ⟨State.reset_powerOnValues, Ring.powerOn_sound, Flash.factory_sound,
    Timebase.powerOn_sound, fun q => ?_, Shift.powerOn_logSound, fun _ => ⟨rfl, rfl, fun q => ?_⟩⟩
  · rw [State.reset_port]
    exact PortState.powerOn_sound
  · rw [State.reset_port]
    rfl

/-! ### One oscillator cycle -/

/-- A correction nanosecond keeps the residue below a second's worth of ppb (R1). -/
theorem Timebase.residueAfter_natAbs_lt {t : Timebase} (residue : t.residue.natAbs < 1000000000)
    (rate : t.rate.natAbs ≤ 200000) : t.residueAfter.natAbs < 1000000000 := by
  unfold Timebase.residueAfter
  simp only
  split_ifs <;> omega

theorem Timebase.cls_advanced (t : Timebase) : t.advanced.cls = t.cls := rfl

/-- The class at the start of the next cycle counts the growth of U that the boundary brings (R20). -/
theorem Timebase.nextClass_eq (t : Timebase) (drift : Nat) :
    t.nextClass drift = if t.crossesSecond ∧ t.state = .holdover then
      ({ t with uncertainty := min 1000000000 (t.uncertainty + drift) } : Timebase).cls else t.cls := by
  unfold Timebase.nextClass Timebase.grown
  by_cases crosses : t.crossesSecond = true <;> by_cases held : t.state = .holdover
  · rw [if_pos crosses, if_pos (show t.advanced.state = .holdover from held), if_pos ⟨crosses, held⟩]
    rfl
  · rw [if_pos crosses, if_neg (show ¬ t.advanced.state = .holdover from held), if_neg (held ·.2)]
    rfl
  · rw [if_neg crosses, if_neg (crosses ·.1)]
  · rw [if_neg crosses, if_neg (crosses ·.1)]

theorem Config.second_eq : Config.second = 1000000000 := rfl

theorem Timebase.crossesSecond_eq (t : Timebase) :
    t.crossesSecond = (t.advancing && decide (1000000000 ≤ t.nanos + t.advance)) := by
  rw [Timebase.crossesSecond, Config.second_eq]

/-- S moves on only with station time advancing, so N needs no second look at that (R2, R25). -/
theorem Timebase.nextNanos_eq (t : Timebase) :
    t.nextNanos = if t.crossesSecond then t.nanos + t.advance - 1000000000
      else if t.advancing then t.nanos + t.advance else t.nanos := by
  cases running : t.advancing
  · simp [Timebase.nextNanos, Timebase.crossesSecond, running]
  · rw [Timebase.nextNanos, running, if_pos rfl, if_pos rfl, Config.second_eq]

/-- The Timebase with which the next cycle begins, part by part. -/
theorem Timebase.cycle_eq (t : Timebase) (drift : Nat) :
    t.cycle drift = { t with
      residue := t.residueAfter
      runClock := (t.runClock + t.advance) % 2 ^ 64
      second := if t.crossesSecond then t.second + 1 else t.second
      nanos := if t.crossesSecond then t.nanos + t.advance - 1000000000
        else if t.advancing then t.nanos + t.advance else t.nanos
      cycleSecond := if t.crossesSecond then t.second + 1 else t.second
      cycleNanos := if t.crossesSecond then t.nanos + t.advance - 1000000000
        else if t.advancing then t.nanos + t.advance else t.nanos
      cycleClass := if t.crossesSecond ∧ t.state = .holdover then
        ({ t with uncertainty := min 1000000000 (t.uncertainty + drift) } : Timebase).cls else t.cls
      cycleState := t.state } := by
  simp only [Timebase.cycle, Timebase.readAs, Timebase.nextClass_eq, Timebase.advanced,
    Timebase.nextClock, Timebase.nextSecond, Timebase.nextNanos_eq]

/-- Settles O3: what the present cycle owes is served first, and the rest is the cycle's own effect. -/
theorem cycleAdvancesByCorrectedNanoseconds : Obligations.CycleAdvancesByCorrectedNanoseconds := by
  intro s on
  have run : exec .oscillatorCycle s = .next s.serveDue.cycle := by
    change Host.Outcome.next s.oscillatorCycle = _
    rw [State.oscillatorCycle, if_neg on]
  rw [run]
  generalize s.serveDue = b
  intro b e advance left crosses grown
  have crossing : b.tb.crossesSecond = crosses := b.tb.crossesSecond_eq
  refine ⟨b.cycle, rfl, rfl, ?_, ?_, rfl, rfl, Timebase.residueAfter_natAbs_lt⟩
  · have moved : b.cycle.tb = b.tb.cycle b.settings.working.holdoverDrift := rfl
    rw [← crossing, moved, Timebase.cycle_eq]
    rfl
  · rw [← crossing]
    rfl

end Sys2Proof.Machine
end

section
/-! What a stretch of the model's work tells the Event Ring and the ports: the records it completes, in their
order, and the notices it raises. Each shared operation has one lemma here; the stretches of an obligation
are put together with `State.Tells.trans`. -/

namespace Sys2Proof.Machine

/-! ### Records that entries become (R93, R95) -/

/-- The records that entries handed one after another become, from a sequence on. -/
inductive Entry.Become : EventSeq → List Entry → List Record → Prop
  | nil (seq : EventSeq) : Entry.Become seq [] []
  | cons (seq : EventSeq) (e : Entry) (near : Bool) {es : List Entry} {xs : List Record} :
      Entry.Become (seq + 1) es xs → Entry.Become seq (e :: es) (e.record seq near :: xs)

theorem EventSeq.add_succ (seq : EventSeq) (n : Nat) :
    seq + BitVec.ofNat 32 (n + 1) = seq + 1 + BitVec.ofNat 32 n := by
  rw [BitVec.ofNat_add, BitVec.add_comm (BitVec.ofNat 32 n), ← BitVec.add_assoc]
  rfl

theorem Entry.Become.length_eq {seq : EventSeq} {es : List Entry} {xs : List Record}
    (h : Entry.Become seq es xs) : xs.length = es.length := by
  induction h with
  | nil => rfl
  | cons seq e near _ ih => rw [List.length_cons, List.length_cons, ih]

theorem Entry.Become.append {seq : EventSeq} {es gs : List Entry} {xs ys : List Record}
    (h : Entry.Become seq es xs) (g : Entry.Become (seq + BitVec.ofNat 32 es.length) gs ys) :
    Entry.Become seq (es ++ gs) (xs ++ ys) := by
  induction h with
  | nil seq => simpa using g
  | cons seq e near _ ih =>
    rw [List.length_cons, EventSeq.add_succ] at g
    exact .cons seq e near (ih g)

/-- Each entry becomes the record whose sequence its place gives. -/
theorem Entry.Become.mem {seq : EventSeq} {before after : List Entry} {e : Entry} {xs : List Record}
    (h : Entry.Become seq (before ++ e :: after) xs) :
    ∃ near : Bool, e.record (seq + BitVec.ofNat 32 before.length) near ∈ xs := by
  induction before generalizing seq xs with
  | nil =>
    cases h with
    | cons _ _ near _ => exact ⟨near, by simp⟩
  | cons _ rest ih =>
    cases h with
    | cons _ _ _ tail =>
      obtain ⟨near, found⟩ := ih tail
      rw [List.length_cons, EventSeq.add_succ]
      exact ⟨near, List.mem_cons_of_mem _ found⟩

theorem Entry.Become.kind {seq : EventSeq} {es : List Entry} {xs : List Record}
    (h : Entry.Become seq es xs) {x : Record} (hx : x ∈ xs) : ∃ e ∈ es, x.kind = e.kind := by
  induction h with
  | nil => cases hx
  | cons seq e near _ ih =>
    rcases List.mem_cons.1 hx with rfl | rest
    · exact ⟨e, List.mem_cons_self .., rfl⟩
    · obtain ⟨g, hg, same⟩ := ih rest
      exact ⟨g, List.mem_cons_of_mem _ hg, same⟩

/-! ### The ring (R95, R97, R99) -/

/-- A ring that runs has completed entries: the oldest records are discarded only from a full ring. -/
def Ring.Took (r t : Ring) (es : List Entry) : Prop :=
  ∃ (new : List Record) (lost : Nat), Entry.Become r.next es new
    ∧ t.next = r.next + BitVec.ofNat 32 es.length
    ∧ t.records = (r.records ++ new).drop lost ∧ (0 < lost → 1024 ≤ t.records.length)

/-- What becomes of a ring that is handed entries: completed once START has been, held until then (R110). -/
structure Ring.Gains (r t : Ring) (es : List Entry) : Prop where
  started : t.started = r.started
  held : r.started = false → t.records = r.records
  took : r.started = true → r.Took t es

theorem Ring.Took.trans {r t v : Ring} {es gs : List Entry} (h : r.Took t es) (g : t.Took v gs) :
    r.Took v (es ++ gs) := by
  obtain ⟨xs, k, become, next, records, full⟩ := h
  obtain ⟨ys, m, become', next', records', full'⟩ := g
  have inside : k ≤ (r.records ++ xs).length := by
    by_contra beyond
    have kept := full (by omega)
    rw [records, List.length_drop] at kept
    omega
  have joined : v.records = (r.records ++ (xs ++ ys)).drop (k + m) := by
    rw [records', records, ← List.drop_append_of_le_length inside, List.drop_drop, List.append_assoc]
  refine ⟨xs ++ ys, k + m, become.append (next ▸ become'), ?_, joined, fun some_lost => ?_⟩
  · rw [next', next, List.length_append, BitVec.ofNat_add, BitVec.add_assoc]
  · by_cases more : 0 < m
    · exact full' more
    · have kept := full (by omega)
      rw [records', show m = 0 by omega, List.drop_zero, List.length_append]
      omega

theorem Ring.Gains.refl (r : Ring) : r.Gains r [] :=
  ⟨rfl, fun _ => rfl, fun _ => ⟨[], 0, .nil _, by simp, by simp, by simp⟩⟩

theorem Ring.Gains.trans {r t v : Ring} {es gs : List Entry} (h : r.Gains t es) (g : t.Gains v gs) :
    r.Gains v (es ++ gs) where
  started := g.started.trans h.started
  held off := (g.held (h.started.trans off)).trans (h.held off)
  took on := (h.took on).trans (g.took (h.started.trans on))

/-- Of at most 1024 entries none has been discarded again. -/
theorem Ring.Gains.holds {r t : Ring} {before after : List Entry} {e : Entry}
    (h : r.Gains t (before ++ e :: after)) (on : r.started = true)
    (short : before.length + after.length < 1024) :
    t.holds (r.next + BitVec.ofNat 32 before.length) e := by
  obtain ⟨new, lost, become, -, records, full⟩ := h.took on
  obtain ⟨near, found⟩ := become.mem
  have count := become.length_eq
  rw [List.length_append, List.length_cons] at count
  refine ⟨near, ?_⟩
  have before_new : lost ≤ r.records.length := by
    by_contra beyond
    have kept := full (by omega)
    rw [records, List.length_drop, List.length_append] at kept
    omega
  rw [records, List.drop_append_of_le_length before_new]
  exact List.mem_append_right _ found

/-- The last entry completed has the sequence before the next one. -/
theorem Ring.Gains.holds_last {r t : Ring} {before : List Entry} {e : Entry}
    (h : r.Gains t (before ++ [e])) (on : r.started = true) (short : before.length < 1024) :
    t.holds (t.next - 1) e := by
  have held := h.holds on (by simpa using short)
  obtain ⟨-, -, -, next, -, -⟩ := h.took on
  rw [next, List.length_append, List.length_singleton, BitVec.ofNat_add, ← BitVec.add_assoc,
    show BitVec.ofNat 32 1 = (1 : EventSeq) from rfl, BitVec.add_sub_cancel]
  exact held

/-- A record that the entries did not bring was held before. -/
theorem Ring.Gains.mem_of_kind {r t : Ring} {es : List Entry} (h : r.Gains t es) {x : Record}
    (hx : x ∈ t.records) (foreign : ∀ e ∈ es, x.kind ≠ e.kind) : x ∈ r.records := by
  cases on : r.started with
  | false => rwa [h.held on] at hx
  | true =>
    obtain ⟨new, lost, become, -, records, -⟩ := h.took on
    rw [records] at hx
    rcases List.mem_append.1 (List.mem_of_mem_drop hx) with old | new
    · exact old
    · obtain ⟨e, he, same⟩ := become.kind new
      exact absurd same (foreign e he)

/-! ### The ring and the ports -/

/-- From one state to another the ring has been handed the entries and the ports have been raised the
notices, in these orders, and of the ports nothing but latches has moved. LOSS is left open: a full ring
raises it on ports of its own choice (R99). -/
structure State.Tells (s t : State) (es : List Entry) (ks : List Notice) : Prop where
  ring : s.ring.Gains t.ring es
  ports : t.ports = s.latched t
  latch : ∀ (q : Port) (k : Notice), k ≠ .loss →
    (t.port q).latches.getLsbD k.index = ((s.port q).latches.getLsbD k.index || Decidable.decide (k ∈ ks))

section
variable {s t v : State} {es gs : List Entry} {ks ls : List Notice}

theorem State.Tells.of_eq (ring : t.ring = s.ring) (ports : t.ports = s.ports) : s.Tells t [] [] where
  ring := ring ▸ Ring.Gains.refl _
  ports := by rw [State.latched, ports]; rfl
  latch q k _ := by simp [State.port, ports]

theorem State.Tells.trans (h : s.Tells t es ks) (g : t.Tells v gs ls) :
    s.Tells v (es ++ gs) (ks ++ ls) where
  ring := h.ring.trans g.ring
  ports := State.latched_trans h.ports g.ports
  latch q k hk := by
    rw [g.latch q k hk, h.latch q k hk, Bool.or_assoc, ← Bool.decide_or]
    simp only [List.mem_append]

/-- A change of neither ring nor ports goes before what is told. -/
theorem State.Tells.after_silence (h : t.Tells v es ks) (ring : t.ring = s.ring)
    (ports : t.ports = s.ports) : s.Tells v es ks :=
  (State.Tells.of_eq ring ports).trans h

/-- A change of neither ring nor ports comes after what is told. -/
theorem State.Tells.then_silence (h : s.Tells t es ks) (ring : v.ring = t.ring)
    (ports : v.ports = t.ports) : s.Tells v es ks := by
  simpa using h.trans (State.Tells.of_eq ring ports)

theorem State.Tells.noticed (h : s.Tells t es ks) {k : Notice} (hk : k ∈ ks) (other : k ≠ .loss) :
    t.noticed k := fun q => by
  rw [h.latch q k other, decide_eq_true hk, Bool.or_true]

theorem State.Tells.silent (h : s.Tells t es ks) {k : Notice} (hk : k ∉ ks) (other : k ≠ .loss)
    (q : Port) : (t.port q).latches.getLsbD k.index = (s.port q).latches.getLsbD k.index := by
  rw [h.latch q k other, decide_eq_false hk, Bool.or_false]

/-- The first entry of a stretch takes the next sequence. -/
theorem State.Tells.holds_first {e : Entry} (h : s.Tells t (e :: es) ks) (on : s.ring.started = true)
    (short : es.length < 1024) : t.ring.holds s.ring.next e := by
  simpa using Ring.Gains.holds (before := []) h.ring on (by simpa using short)

end

/-! ### Notices -/

/-- The latch of a notice after another has been raised. -/
theorem Notice.bit_getLsbD (k j : Notice) : (Notice.bit j).getLsbD k.index = Decidable.decide (k = j) := by
  cases k <;> cases j <;> decide

theorem PortState.raise_latch (x : PortState) (j k : Notice) :
    (x.raise j).latches.getLsbD k.index = (x.latches.getLsbD k.index || Decidable.decide (k = j)) := by
  rw [PortState.raise, BitVec.getLsbD_or, Notice.bit_getLsbD]

variable (s : State)

theorem State.raiseAll_tells (j : Notice) : s.Tells (s.raiseAll j) [] [j] where
  ring := Ring.Gains.refl _
  ports := rfl
  latch q k _ := by simp [State.port, PortState.raise_latch]

/-! ### Records -/

/-- Completing an entry: the ring takes it, and LOSS is the only latch that may move (R95, R99). -/
theorem State.complete_took (e : Entry) : s.ring.Took (s.complete e).ring [e] := by
  refine ⟨[e.record s.ring.next (s.stepNear e.stamp.runClock)],
    if s.ring.records.length < 1024 then 0 else 1, .cons _ _ _ (.nil _), s.complete_ring_next e, ?_, ?_⟩
  all_goals unfold State.complete
  all_goals rw [show Config.ringSize = 1024 from rfl]
  all_goals split
  · rfl
  · rename_i full
    simp only [State.withRing, State.discardOldest]
    rw [List.drop_append_of_le_length (by omega)]
  · intro none_lost
    exact absurd none_lost (Nat.lt_irrefl 0)
  · intro _
    simp [State.withRing, State.discardOldest]
    omega

theorem State.complete_latch (e : Entry) (q : Port) (k : Notice) (other : k ≠ .loss) :
    ((s.complete e).port q).latches.getLsbD k.index = (s.port q).latches.getLsbD k.index := by
  rcases s.complete_port e q with same | raised
  · rw [State.port, same, State.port]
  · rw [State.port, raised, PortState.raise_latch, decide_eq_false other, Bool.or_false, State.port]

theorem State.append_tells (e : Entry) : s.Tells (s.append e) [e] [] where
  ring := by
    refine ⟨s.append_ring_started e, fun off => ?_, fun on => ?_⟩
    · rw [s.append_held e off]
      rfl
    · rw [s.append_started e on]
      exact s.complete_took e
  ports := s.append_latched e
  latch q k other := by
    cases on : s.ring.started with
    | false => simp [s.append_held e on, State.port]
    | true => simp [s.append_started e on, s.complete_latch e q k other]

theorem State.note_tells (k : Kind) (d : BitVec 16) : s.Tells (s.note k d) [s.ownRecord k d] [] :=
  s.append_tells _

end Sys2Proof.Machine
end

section
/-! The class and the alarm, the schedule and the hand-offs of a step, each with what it tells the ring and the
ports; from these the statements about second boundaries, pulse reports and SET TIME. -/

namespace Sys2Proof.Machine

variable (s : State)

/-! ### The alarm follows the class (R22) -/

/-- The QUALITY record of a flag that moves from one state to another. -/
def State.qualityEntries (s t : State) (date : Stamp) : List Entry :=
  if t.tb.alarm = s.tb.alarm then []
  else [{ kind := .quality, field := 0xFF, stamp := date
          datum := BitVec.ofNat 16 (s.cls * 256 + t.cls) }]

/-- The notice of a flag that moves. -/
def State.qualityNotices (s t : State) : List Notice :=
  if t.tb.alarm = s.tb.alarm then [] else [.quality]

theorem State.mem_qualityNotices {s t : State} {k : Notice} :
    k ∈ s.qualityNotices t ↔ k = .quality ∧ t.tb.alarm ≠ s.tb.alarm := by
  unfold State.qualityNotices
  split <;> simp_all

/-- A flag that follows the class, told in its place among other records, follows it as R22 says. -/
theorem State.alarmFollows_of_tells {s t : State} {date : Stamp} {before after : List Entry}
    {ks ls : List Notice}
    (alarm : t.tb.alarm = if t.cls = s.cls then s.tb.alarm
      else Decidable.decide (s.settings.working.alarmClass < t.cls))
    (told : s.Tells t (before ++ s.qualityEntries t date ++ after) (ks ++ s.qualityNotices t ++ ls))
    (only : ∀ e ∈ before ++ after, e.kind ≠ .quality) (short : before.length + after.length < 1024)
    (others : Notice.quality ∉ ks ++ ls) :
    s.AlarmFollows t (s.ring.next + BitVec.ofNat 32 before.length) date := by
  refine ⟨alarm, fun moved => ⟨told.noticed ?_ (by decide), fun on => ?_⟩, fun same => ⟨?_, ?_⟩⟩
  · simp [State.mem_qualityNotices, moved]
  · have ring := told.ring
    rw [State.qualityEntries, if_neg moved, List.append_assoc] at ring
    exact ring.holds on short
  · refine told.silent ?_ (by decide)
    simp only [List.mem_append, State.mem_qualityNotices] at others ⊢
    tauto
  · intro x hx quality
    have ring := told.ring
    rw [State.qualityEntries, if_pos same, List.append_nil] at ring
    exact ring.mem_of_kind hx fun e he => by rw [quality]; exact (only e he).symm

/-! ### A change of class (R21, R22, R178) -/

theorem Shift.seeing_same (x : Shift) (c : Nat) : x.seeing c c false = x := by
  cases x
  simp [Shift.seeing]

theorem State.shiftSeesClass_shift (old : Nat) (moved : s.cls ≠ old) :
    s.shiftSeesClass.shift = s.shift.seeing old s.cls false := by
  unfold State.shiftSeesClass State.modSummary Shift.seeing
  simp [moved]

theorem State.reviewAlarm_eq (old : Nat) :
    s.reviewAlarm old
      = if Decidable.decide (s.settings.working.alarmClass < s.cls) = s.tb.alarm then s
        else ((s.withTb { s.tb with
          alarm := Decidable.decide (s.settings.working.alarmClass < s.cls) }).note .quality
            (datumOf old s.cls)).raiseAll .quality := rfl

/-- A review of the alarm writes QUALITY and raises the notice exactly when the flag moves (R22). -/
theorem State.reviewAlarm_tells (old : Nat) :
    s.Tells (s.reviewAlarm old)
      (if (s.reviewAlarm old).tb.alarm = s.tb.alarm then []
        else [s.ownRecord .quality (datumOf old s.cls)])
      (if (s.reviewAlarm old).tb.alarm = s.tb.alarm then [] else [.quality]) := by
  rw [s.reviewAlarm_alarm old, s.reviewAlarm_eq old]
  split
  · exact State.Tells.of_eq rfl rfl
  · exact ((State.note_tells _ .quality _).trans (State.raiseAll_tells _ .quality)).after_silence rfl rfl

theorem State.classMoved_cls (old : Nat) : (s.classMoved old).cls = s.cls := by
  obtain ⟨a, x, r, p, e⟩ := s.classMoved_frame old
  rw [e]
  rfl

theorem State.classMoved_alarm (old : Nat) :
    (s.classMoved old).tb.alarm = if s.cls = old then s.tb.alarm
      else Decidable.decide (s.settings.working.alarmClass < s.cls) := by
  unfold State.classMoved
  split
  · rfl
  · exact s.shiftSeesClass.reviewAlarm_alarm old

theorem State.classMoved_shift (old : Nat) :
    (s.classMoved old).shift = s.shift.seeing old s.cls false := by
  unfold State.classMoved
  split
  · rename_i same
    rw [same, Shift.seeing_same]
  · rename_i moved
    obtain ⟨a, r, p, e⟩ := s.shiftSeesClass.reviewAlarm_frame old
    rw [e]
    exact s.shiftSeesClass_shift old moved

theorem State.classMoved_tells (old : Nat) :
    s.Tells (s.classMoved old)
      (if (s.classMoved old).tb.alarm = s.tb.alarm then []
        else [s.ownRecord .quality (datumOf old s.cls)])
      (if (s.classMoved old).tb.alarm = s.tb.alarm then [] else [.quality]) := by
  unfold State.classMoved
  split
  · rw [if_pos rfl, if_pos rfl]
    exact State.Tells.of_eq rfl rfl
  · exact (s.shiftSeesClass.reviewAlarm_tells old).after_silence rfl rfl

/-- What follows a moved Timebase `t` with the alarm flag as it was, told from the state before it. -/
theorem State.classMoved_tells_from (t : Timebase) (alarm : t.alarm = s.tb.alarm) :
    s.Tells ((s.withTb t).classMoved s.cls)
      (s.qualityEntries ((s.withTb t).classMoved s.cls) (s.withTb t).reading)
      (s.qualityNotices ((s.withTb t).classMoved s.cls)) := by
  have told := (s.withTb t).classMoved_tells s.cls
  unfold State.qualityEntries State.qualityNotices
  rw [State.classMoved_cls, ← alarm]
  exact told.after_silence rfl rfl

/-- A pulse report or a boundary that moves U and leaves the step alone: the Timebase, then the alarm. -/
theorem State.classMoved_alarmFollows (t : Timebase) (alarm : t.alarm = s.tb.alarm)
    (date : (s.withTb t).reading = s.reading) :
    s.AlarmFollows ((s.withTb t).classMoved s.cls) s.ring.next s.reading := by
  have follows : s.AlarmFollows ((s.withTb t).classMoved s.cls)
      (s.ring.next + BitVec.ofNat 32 ([] : List Entry).length) s.reading := by
    refine State.alarmFollows_of_tells (after := []) (ks := []) (ls := []) ?_ ?_ (by simp) (by simp)
      (by simp)
    · rw [State.classMoved_alarm, State.classMoved_cls, ← alarm]
      rfl
    · simpa [date] using s.classMoved_tells_from t alarm
  simpa using follows

theorem State.classMoved_frame_latched (t : Timebase) :
    (s.withTb t).classMoved s.cls = { s with
      tb := ((s.withTb t).classMoved s.cls).tb, shift := ((s.withTb t).classMoved s.cls).shift
      ring := ((s.withTb t).classMoved s.cls).ring
      ports := s.latched ((s.withTb t).classMoved s.cls) } := by
  have ports := ((s.withTb t).classMoved_tells s.cls).ports
  obtain ⟨a, x, r, p, e⟩ := (s.withTb t).classMoved_frame s.cls
  rw [e] at ports ⊢
  exact congrArg (fun p => { s with tb := { t with alarm := a }, shift := x, ring := r, ports := p }) ports

theorem State.classMoved_tb (old : Nat) :
    (s.classMoved old).tb = { s.tb with alarm := (s.classMoved old).tb.alarm } := by
  obtain ⟨a, x, r, p, e⟩ := s.classMoved_frame old
  rw [e]

end Sys2Proof.Machine
end

section
/-! Pulse reports that do not step, second boundaries, and the schedule (R2, R6, R10 to R13, R20, R22, R47,
R166 to R172). -/

namespace Sys2Proof.Machine

/-! ### Pulse reports without a step (R6, R10 to R13, R19) -/

/-- The claim terms that the table of 1.8 lists are the powers of ten from 100 on. -/
theorem claimTerm_eq {claim : Nat} (low : 1 ≤ claim) (high : claim ≤ 5) :
    claimTerm claim = 10 ^ (claim + 1) := by
  have listed : claim = 1 ∨ claim = 2 ∨ claim = 3 ∨ claim = 4 ∨ claim = 5 := by omega
  rcases listed with rfl | rfl | rfl | rfl | rfl <;> rfl

variable (s : State)

theorem State.withinThreshold_iff (e : Int) :
    s.withinThreshold e = true ↔ e.natAbs ≤ s.settings.working.stepThreshold * 1000 := by
  simp [State.withinThreshold]

section
variable {s : State} {capture : Capture} {second : Second} {claim : Nat}

theorem State.pulseReport_of_free (h : s.tb.state = .free) : s.pulseReport capture second claim = s := by
  simp [State.pulseReport, h]

theorem State.pulseReport_of_acquire (h : s.tb.state = .acquire) :
    s.pulseReport capture second claim = s.stepTime (phaseError capture second) claim := by
  simp [State.pulseReport, h]

theorem State.pulseReport_of_within (h : s.tb.state = .locked ∨ s.tb.state = .holdover)
    (near : s.withinThreshold (phaseError capture second) = true) :
    s.pulseReport capture second claim = s.slew (phaseError capture second) claim := by
  rcases h with h | h <;> simp [State.pulseReport, h, near]

theorem State.pulseReport_of_outlier (h : s.tb.state = .locked) (few : s.tb.outliers < 2)
    (far : s.withinThreshold (phaseError capture second) = false) :
    s.pulseReport capture second claim
      = (s.withTb (s.tb.outlier (phaseError capture second) claim)).classMoved s.cls := by
  have third : s.tb.outliers + 1 < 3 := by omega
  simp [State.pulseReport, h, far, third]

theorem State.pulseReport_of_far
    (h : s.tb.state = .holdover ∨ (s.tb.state = .locked ∧ s.tb.outliers = 2))
    (far : s.withinThreshold (phaseError capture second) = false) :
    s.pulseReport capture second claim = s.stepTime (phaseError capture second) claim := by
  rcases h with h | ⟨h, third⟩
  · simp [State.pulseReport, h, far]
  · simp [State.pulseReport, h, far, third]

end

/-- A report within the threshold: a slew, then the alarm. -/
theorem State.pulseReport_slews : Claims.PulseWithinThresholdSlews := by
  intro s capture second claim state low high e near i t
  have slewed : t = (s.withTb (s.tb.slewed e claim)).classMoved s.cls :=
    State.pulseReport_of_within state ((s.withinThreshold_iff e).2 near)
  rw [slewed]
  refine ⟨?_, s.classMoved_alarmFollows _ rfl rfl, s.classMoved_frame_latched _⟩
  rw [State.classMoved_tb, State.withTb_tb, Timebase.slewed, claimTerm_eq low high]
  rfl

/-- An early outlier: U and the count, then the alarm. -/
theorem State.pulseReport_counts : Claims.EarlyOutlierKeepsRate := by
  intro s capture second claim state few low high e far t
  have counted : t = (s.withTb (s.tb.outlier e claim)).classMoved s.cls :=
    State.pulseReport_of_outlier state few
      (Bool.eq_false_iff.2 fun near => by have := (s.withinThreshold_iff e).1 near; omega)
  rw [counted]
  refine ⟨?_, s.classMoved_alarmFollows _ rfl rfl, s.classMoved_frame_latched _⟩
  rw [State.classMoved_tb, State.withTb_tb, Timebase.outlier, claimTerm_eq low high]
  rfl

/-- Settles O6: in each case the report moves U, and the alarm follows the class. -/
theorem pulseReportSlewsCountsOrIsDiscarded : Obligations.PulseReportSlewsCountsOrIsDiscarded :=
  ⟨State.pulseReport_slews, State.pulseReport_counts, fun _ _ _ _ free =>
    State.pulseReport_of_free free⟩

/-! ### The schedule (R166, R167, R169) -/

/-- The class is 7 exactly while the unset flag is set (R21). -/
theorem Timebase.cls_eq_seven_iff (t : Timebase) : t.cls = 7 ↔ t.unset = true := by
  cases set : t.unset with
  | true => simp [Timebase.cls_of_unset set]
  | false =>
    rw [Timebase.cls_of_set set]
    unfold classOfUncertainty
    split_ifs <;> simp

theorem reached_iff (a b : Second) : reached a b = true ↔ (a - b).toNat ≤ 2147483647 := by
  simp [reached]

/-- The handover is still ahead: ON_SHIFT, or OFFERED without a due start (R166). -/
def Shift.Ahead (x : Shift) : Prop := x.state = .onShift ∨ (x.state = .offered ∧ x.dueStart = none)

section
variable {s : State}

theorem State.evaluateSchedule_of_unset (h : s.tb.unset = true) : s.evaluateSchedule = s := by
  rw [State.evaluateSchedule, if_pos (show s.cls = 7 from s.tb.cls_eq_seven_iff.2 h)]

theorem State.evaluateSchedule_of_ahead (h : s.tb.unset = false) (ahead : s.shift.Ahead) :
    s.evaluateSchedule
      = if reached s.tb.second s.shift.identity.nextDue then s.fallDue else s := by
  have dated : ¬ s.cls = 7 := fun seven => by
    rw [s.tb.cls_eq_seven_iff.1 seven] at h; cases h
  rw [State.evaluateSchedule, if_neg dated]
  rcases ahead with on | ⟨offered, undated⟩
  · simp only [on]
  · simp only [offered, undated]

theorem State.evaluateSchedule_of_due (h : s.tb.unset = false) (due : ¬ s.shift.Ahead) :
    s.evaluateSchedule = match s.shift.missedWatch with
      | some w => if reached s.tb.second w then s.missInstant else s
      | none => s := by
  have dated : ¬ s.cls = 7 := fun seven => by
    rw [s.tb.cls_eq_seven_iff.1 seven] at h; cases h
  rw [State.evaluateSchedule, if_neg dated]
  unfold Shift.Ahead at due
  split
  · rename_i on
    exact absurd (.inl on) due
  · rename_i offered undated
    exact absurd (.inr ⟨offered, undated⟩) due
  · rfl

end

/-- What falling due tells: HANDOVER and the DUE notice (R167). -/
theorem State.fallDue_tells :
    s.Tells s.fallDue [s.ownRecord .handover (datumOf 1 s.shift.identity.crew.toNat)] [.due] :=
  ((State.note_tells _ _ _).trans (State.raiseAll_tells _ _)).after_silence rfl rfl

/-- What a missed instant tells: HANDOVER and the OVERDUE notice (R169). -/
theorem State.missInstant_tells :
    s.Tells s.missInstant [s.ownRecord .handover (datumOf 8 s.shift.identity.crew.toNat)] [.overdue] :=
  ((State.note_tells _ _ _).trans (State.raiseAll_tells _ _)).after_silence rfl rfl

/-- An evaluation of the schedule does one of three things (R166). -/
theorem State.evaluateSchedule_cases :
    s.evaluateSchedule = s ∨ s.evaluateSchedule = s.fallDue ∨ s.evaluateSchedule = s.missInstant := by
  unfold State.evaluateSchedule
  repeat' split
  all_goals simp

/-- What an evaluation of the schedule tells: nothing, or one HANDOVER with its notice. -/
theorem State.evaluateSchedule_tells :
    ∃ (es : List Entry) (ks : List Notice), s.Tells s.evaluateSchedule es ks ∧ es.length ≤ 1
      ∧ (∀ e ∈ es, e.kind = .handover) ∧ ∀ k ∈ ks, k = .due ∨ k = .overdue := by
  rcases s.evaluateSchedule_cases with h | h | h <;> rw [h]
  · exact ⟨[], [], State.Tells.of_eq rfl rfl, by simp, by simp, by simp⟩
  · exact ⟨_, _, s.fallDue_tells, by simp, by simp [State.ownRecord], by simp⟩
  · exact ⟨_, _, s.missInstant_tells, by simp, by simp [State.ownRecord], by simp⟩

theorem State.fallDue_shift : s.fallDue.shift = { s.shift with
    state := if s.shift.state = .onShift then .due else s.shift.state
    dueStart := some s.tb.runClock
    missedWatch := some (firstInstantAfter s.settings.working.instants s.tb.second) } := by
  simp [State.fallDue, State.noteHandover, State.instantAfter]

theorem State.missInstant_shift : s.missInstant.shift = { s.shift with
    missedWatch := some (firstInstantAfter s.settings.working.instants s.tb.second)
    running := s.shift.running.map fun m => { m with missed := min 65535 (m.missed + 1) } } := by
  simp [State.missInstant, State.noteHandover, State.modSummary, State.instantAfter, satAdd,
    Config.smallCap]

@[simp] theorem State.evaluateSchedule_settings : s.evaluateSchedule.settings = s.settings := by
  obtain ⟨x, r, p, e⟩ := s.evaluateSchedule_frame
  rw [e]

/-- One evaluation of the schedule, in the state it leaves (R166, R167, R169). -/
theorem State.evaluateSchedule_evaluated :
    s.shift.Evaluated s.ring.started s.reading s.evaluateSchedule := by
  unfold Shift.Evaluated
  intro reachedNow next recorded ahead
  have reaches (y : Second) : reachedNow y ↔ reached s.tb.second y = true := by
    rw [reached_iff]
    simp only [reachedNow, State.evaluateSchedule_tb]
  have instant : next = firstInstantAfter s.settings.working.instants s.tb.second := by
    simp only [next, State.evaluateSchedule_settings, State.evaluateSchedule_tb]
  simp only [State.evaluateSchedule_tb, instant, reaches]
  refine ⟨fun unset => ?_, fun set isAhead due => ?_, fun isAhead early => ?_,
    fun watch set isDue watching missed => ?_, fun isDue none_missed => ?_⟩
  · rw [State.evaluateSchedule_of_unset unset]
  · have falls : s.evaluateSchedule = s.fallDue := by
      rw [State.evaluateSchedule_of_ahead set isAhead, if_pos due]
    rw [falls]
    refine ⟨s.fallDue_shift, s.fallDue_tells.noticed (by simp) (by decide), fun on => ?_⟩
    rw [falls]
    exact s.fallDue_tells.ring.holds_last (before := []) on (by simp)
  · cases set : s.tb.unset with
    | true => rw [State.evaluateSchedule_of_unset set]
    | false => rw [State.evaluateSchedule_of_ahead set isAhead, if_neg early]
  · have misses : s.evaluateSchedule = s.missInstant := by
      rw [State.evaluateSchedule_of_due set isDue, watching]
      exact if_pos missed
    rw [misses]
    refine ⟨s.missInstant_shift, s.missInstant_tells.noticed (by simp) (by decide), fun on => ?_⟩
    rw [misses]
    exact s.missInstant_tells.ring.holds_last (before := []) on (by simp)
  · cases set : s.tb.unset with
    | true => rw [State.evaluateSchedule_of_unset set]
    | false =>
      rw [State.evaluateSchedule_of_due set isDue]
      cases watching : s.shift.missedWatch with
      | none => rfl
      | some watch => simp only [none_missed watch watching, Bool.false_eq_true, if_false]

end Sys2Proof.Machine
end

section
/-! Second boundaries (R2, R20, R47, R166), the grace and the life of an offer (R168, R172). -/

namespace Sys2Proof.Machine

variable (s : State)

/-! ### The parts of a second boundary -/

/-- At a boundary U grows by H in HOLDOVER and nothing else moves (R20). -/
theorem Timebase.grown_eq (t : Timebase) (drift : Nat) :
    t.grown drift = { t with uncertainty :=
      if t.state = .holdover then min 1000000000 (t.uncertainty + drift) else t.uncertainty } := by
  unfold Timebase.grown satAdd
  split
  · rfl
  · rfl

/-- The state between the growth of U and the evaluation of the schedule. -/
def State.boundaryBegun (s : State) : State :=
  (s.withDue { s.due with second := false }).growUncertainty.beginStrobe

theorem State.secondBoundary_of_due (h : s.due.second = true) :
    s.secondBoundary = s.boundaryBegun.evaluateSchedule := by
  rw [State.secondBoundary, if_pos h]
  rfl

theorem State.secondBoundary_of_not_due (h : s.due.second = false) : s.secondBoundary = s := by
  rw [State.secondBoundary, h]
  rfl

theorem State.growUncertainty_eq :
    s.growUncertainty
      = (s.withTb (s.tb.grown s.settings.working.holdoverDrift)).classMoved s.cls := rfl

theorem State.withTb_grown_reading (drift : Nat) :
    (s.withTb (s.tb.grown drift)).reading = s.reading := by
  simp [State.reading]

theorem Timebase.grown_alarm (t : Timebase) (drift : Nat) : (t.grown drift).alarm = t.alarm := by
  rw [Timebase.grown_eq]

theorem State.growUncertainty_frame :
    s.growUncertainty = { s with
      tb := s.growUncertainty.tb, shift := s.growUncertainty.shift, ring := s.growUncertainty.ring
      ports := s.latched s.growUncertainty } :=
  s.classMoved_frame_latched _

theorem State.growUncertainty_tells :
    s.Tells s.growUncertainty (s.qualityEntries s.growUncertainty s.reading)
      (s.qualityNotices s.growUncertainty) := by
  rw [← s.withTb_grown_reading s.settings.working.holdoverDrift]
  exact s.classMoved_tells_from _ (s.tb.grown_alarm _)

theorem State.growUncertainty_tb :
    s.growUncertainty.tb = { s.tb with
      uncertainty := if s.tb.state = .holdover then
          min 1000000000 (s.tb.uncertainty + s.settings.working.holdoverDrift) else s.tb.uncertainty
      alarm := s.growUncertainty.tb.alarm } := by
  rw [State.growUncertainty_eq, State.classMoved_tb, State.withTb_tb, Timebase.grown_eq]

theorem State.growUncertainty_alarm :
    s.growUncertainty.tb.alarm = if s.growUncertainty.cls = s.cls then s.tb.alarm
      else Decidable.decide (s.settings.working.alarmClass < s.growUncertainty.cls) := by
  rw [State.growUncertainty_eq, State.classMoved_alarm, State.classMoved_cls, State.withTb_tb,
    Timebase.grown_alarm]
  rfl

theorem State.growUncertainty_shift :
    s.growUncertainty.shift = s.shift.seeing s.cls s.growUncertainty.cls false := by
  rw [State.growUncertainty_eq, State.classMoved_shift, State.classMoved_cls]
  rfl

/-- Two states with one Timebase have the same QUALITY record to tell. -/
theorem State.qualityEntries_congr {t v : State} (h : t.tb = v.tb) (date : Stamp) :
    s.qualityEntries t date = s.qualityEntries v date := by
  unfold State.qualityEntries State.cls
  rw [h]

theorem State.qualityNotices_congr {t v : State} (h : t.tb = v.tb) :
    s.qualityNotices t = s.qualityNotices v := by
  unfold State.qualityNotices
  rw [h]

theorem State.cls_congr {t v : State} (h : t.tb = v.tb) : t.cls = v.cls := by
  unfold State.cls
  rw [h]

theorem State.boundaryBegun_tb :
    s.boundaryBegun.tb = (s.withDue { s.due with second := false }).growUncertainty.tb := rfl

theorem State.boundaryBegun_shift :
    s.boundaryBegun.shift = s.shift.seeing s.cls s.boundaryBegun.cls false :=
  (s.withDue { s.due with second := false }).growUncertainty_shift

theorem State.boundaryBegun_tells :
    s.Tells s.boundaryBegun (s.qualityEntries s.boundaryBegun s.reading)
      (s.qualityNotices s.boundaryBegun) := by
  have grown := (s.withDue { s.due with second := false }).growUncertainty_tells
  have told := State.Tells.after_silence (s := s) grown rfl rfl
  exact told.then_silence (v := s.boundaryBegun) rfl rfl

theorem State.boundaryBegun_reading : s.boundaryBegun.reading = s.reading :=
  (s.withDue { s.due with second := false }).growUncertainty_readings.1

/-- A second boundary moves the Timebase, its mark, the Driver, the shift, the ring and latches. -/
theorem State.boundaryBegun_frame :
    ∃ (t : Timebase) (d : Distribution) (x : Shift) (r : Ring) (p : PerPort PortState),
      s.boundaryBegun = { s with
        tb := t, due := { s.due with second := false }, dist := d, shift := x, ring := r, ports := p } := by
  obtain ⟨a, x, r, p, e⟩ := ((s.withDue { s.due with second := false }).withTb
    (s.tb.grown s.settings.working.holdoverDrift)).classMoved_frame s.cls
  exact ⟨_, _, x, r, p, congrArg State.beginStrobe e⟩

theorem State.boundary_frame :
    ∃ (t : Timebase) (d : Distribution) (x : Shift) (r : Ring) (p : PerPort PortState),
      s.boundaryBegun.evaluateSchedule = { s with
        tb := t, due := { s.due with second := false }, dist := d, shift := x, ring := r, ports := p } := by
  obtain ⟨t, d, x, r, p, e⟩ := s.boundaryBegun_frame
  obtain ⟨y, g, o, e'⟩ := s.boundaryBegun.evaluateSchedule_frame
  exact ⟨t, d, y, g, o, by rw [e', e]⟩

/-! ### What a second boundary does -/

/-- Settles O4: U grows first, the alarm follows, and of what the strobe and the schedule do nothing
touches the Timebase or writes QUALITY. -/
theorem secondBoundaryGrowsUncertaintyInHoldover :
    Obligations.SecondBoundaryGrowsUncertaintyInHoldover := by
  refine ⟨fun s undue => congrArg Host.Outcome.next (s.secondBoundary_of_not_due undue),
    fun s due => ?_⟩
  intro u
  have run : exec .secondBoundary s = .next s.boundaryBegun.evaluateSchedule :=
    congrArg Host.Outcome.next (s.secondBoundary_of_due due)
  refine ⟨_, run, ?_, ?_, ?_⟩
  · rw [State.evaluateSchedule_tb, State.boundaryBegun_tb]
    exact State.growUncertainty_tb _
  · obtain ⟨es, ks, told, short, kinds, notices⟩ := s.boundaryBegun.evaluateSchedule_tells
    have tb := s.boundaryBegun.evaluateSchedule_tb
    have follows : s.AlarmFollows s.boundaryBegun.evaluateSchedule
        (s.ring.next + BitVec.ofNat 32 ([] : List Entry).length) s.reading := by
      refine State.alarmFollows_of_tells (after := es) (ks := []) (ls := ks) ?_ ?_ ?_ ?_ ?_
      · rw [State.cls_congr tb, tb]
        exact (s.withDue { s.due with second := false }).growUncertainty_alarm
      · rw [s.qualityEntries_congr tb, s.qualityNotices_congr tb]
        exact s.boundaryBegun_tells.trans told
      · intro e he
        rw [kinds e he]
        decide
      · simp only [List.length_nil]
        omega
      · intro told_quality
        rcases notices _ told_quality with h | h <;> cases h
    simpa using follows
  · obtain ⟨es, ks, told, -, -, -⟩ := s.boundaryBegun.evaluateSchedule_tells
    have ports := (s.boundaryBegun_tells.trans told).ports
    obtain ⟨t, d, x, r, p, e⟩ := s.boundary_frame
    rw [← ports, e]

/-! ### The strobe and the word of the second just begun (R47 to R50, R54) -/

/-- The byte with the class and the four flags (R207). -/
theorem TimeWord.classByte_eq (w : TimeWord) :
    w.classByte = BitVec.ofNat 8 (w.cls * 16 + w.invalid.toNat * 8 + w.stepped.toNat * 4
      + w.holdover.toNat * 2 + w.testAny.toNat) := by
  unfold TimeWord.classByte
  congr 1
  simp only [packFlags, List.foldl_cons, List.foldl_nil]
  ring

/-- The check of the word: the two's complement of the sum of its first five bytes (R50). -/
theorem TimeWord.checkByte_head (w : TimeWord) :
    checkByte w.head = - (BitVec.ofNat 8 (w.second.toNat / 2 ^ 24)
      + BitVec.ofNat 8 (w.second.toNat / 2 ^ 16) + BitVec.ofNat 8 (w.second.toNat / 2 ^ 8)
      + BitVec.ofNat 8 w.second.toNat + w.classByte) := by
  simp [checkByte, TimeWord.head, secondBytes, be]

/-- The word is made of the cycle's reading, the Driver's own marks and the tests (R47, R48, R50). -/
theorem State.newWord_spec :
    s.newWord.second = s.reading.second ∧ s.newWord.cls = s.reading.cls
      ∧ (s.newWord.invalid = true ↔ 0 < s.dist.latency) ∧ s.newWord.stepped = s.dist.stepPending
      ∧ (s.newWord.holdover = true ↔ s.tb.cycleState = .holdover)
      ∧ (s.newWord.testAny = true ↔ ∃ u, (s.modes.get u).test.isSome = true)
      ∧ s.newWord.check = checkByte s.newWord.head := by
  refine ⟨rfl, rfl, ?_, rfl, ?_, ?_, rfl⟩
  · simp [State.newWord]
  · simp [State.newWord]
  · simp [State.newWord, State.inTest, allUnits]

/-- A strobe of a minute is twice as wide (R49). -/
theorem strobeWidthFor_eq (x : Settings) (second : Second) :
    strobeWidthFor x second = if second.toNat % 60 = 0 then 2 * (x.strobeWidth * 1000000)
      else x.strobeWidth * 1000000 := by
  unfold strobeWidthFor
  split
  · exact Nat.mul_comm _ _
  · exact Nat.mul_one _

@[simp] theorem Timebase.grown_cycleState (t : Timebase) (drift : Nat) :
    (t.grown drift).cycleState = t.cycleState := by
  rw [Timebase.grown_eq]

@[simp] theorem State.evaluateSchedule_dist : s.evaluateSchedule.dist = s.dist := by
  obtain ⟨x, r, p, e⟩ := s.evaluateSchedule_frame
  rw [e]

/-- What the growth of U leaves for the strobe and the word to read. -/
theorem State.growUncertainty_keeps :
    s.growUncertainty.dist = s.dist ∧ s.growUncertainty.settings = s.settings
      ∧ s.growUncertainty.modes = s.modes ∧ s.growUncertainty.tb.cycleState = s.tb.cycleState
      ∧ s.growUncertainty.tb.runClock = s.tb.runClock := by
  obtain ⟨a, x, r, p, e⟩ :=
    (s.withTb (s.tb.grown s.settings.working.holdoverDrift)).classMoved_frame s.cls
  rw [State.growUncertainty_eq, e]
  exact ⟨rfl, rfl, rfl, Timebase.grown_cycleState _ _, Timebase.grown_runClock _ _⟩

/-- Settles O15: the strobe and the word are those of the state in which U has grown, and its reading is
the cycle's. -/
theorem boundaryBeginsStrobeAndWord : Obligations.BoundaryBeginsStrobeAndWord := by
  intro s due x
  have run : exec .secondBoundary s = .next s.boundaryBegun.evaluateSchedule :=
    congrArg Host.Outcome.next (s.secondBoundary_of_due due)
  obtain ⟨dist, settings, modes, state, clock⟩ :=
    (s.withDue { s.due with second := false }).growUncertainty_keeps
  have reading := (s.withDue { s.due with second := false }).growUncertainty_readings.1
  have word := (s.withDue { s.due with second := false }).growUncertainty.newWord_spec
  refine ⟨_, run, (s.withDue { s.due with second := false }).growUncertainty.newWord, ?_⟩
  rw [State.evaluateSchedule_dist, State.boundaryBegun]
  generalize (s.withDue { s.due with second := false }).growUncertainty = g at *
  obtain ⟨second, cls, invalid, stepped, holdover, testAny, check⟩ := word
  refine ⟨?_, second.trans (congrArg Stamp.second reading), cls.trans (congrArg Stamp.cls reading),
    by rw [invalid, dist]; rfl, by rw [stepped, dist]; rfl, by rw [holdover, state]; rfl,
    by rw [testAny, modes]; rfl, ?_⟩
  · rw [State.beginStrobe, State.withDist_dist, strobeWidthFor_eq, reading, dist, settings, clock]
    rfl
  · rw [check, TimeWord.checkByte_head, TimeWord.classByte_eq]

/-! ### The schedule at a boundary, the grace and the offer (R166, R168, R172) -/

theorem State.boundary_makesHandoverDue : Claims.BoundaryMakesHandoverDue := by
  intro s due
  have run : exec .secondBoundary s = .next s.boundaryBegun.evaluateSchedule :=
    congrArg Host.Outcome.next (s.secondBoundary_of_due due)
  have evaluated := s.boundaryBegun.evaluateSchedule_evaluated
  rw [State.boundaryBegun_shift, State.boundaryBegun_reading, s.boundaryBegun_tells.ring.started,
    ← State.cls_congr s.boundaryBegun.evaluateSchedule_tb] at evaluated
  exact ⟨_, run, evaluated⟩

/-- The end of the grace: the flag, HANDOVER and the OVERDUE notice (R168). -/
theorem State.endGrace_of_due (h : s.graceDue = true) :
    s.endGrace = ((s.withShift { s.shift with overdueSince := some s.tb.runClock }).noteHandover
      .overdue s.shift.identity.crew).raiseAll .overdue := by
  rw [State.endGrace, if_pos h]

theorem State.graceDue_iff {due : Nat} (h : s.shift.dueStart = some due)
    (fresh : s.shift.overdueSince = none) :
    s.graceDue = true ↔ due + s.settings.atCycle.grace * 60 * 1000000000 ≤ s.tb.runClock := by
  rw [State.graceDue, h]
  simp only [fresh, Option.isNone_none, Bool.true_and]
  exact decide_eq_true_iff

theorem State.offerDue_iff {o : Offer} (h : s.shift.offer = some o) :
    s.offerDue = true ↔ o.start + 600000000000 ≤ s.tb.runClock := by
  rw [State.offerDue, h]
  exact decide_eq_true_iff

theorem State.graceEnd_setsOverdue {due : Nat} (h : s.shift.dueStart = some due)
    (fresh : s.shift.overdueSince = none)
    (passed : due + s.settings.atCycle.grace * 60 * 1000000000 ≤ s.tb.runClock)
    (on : s.ring.started = true) :
    s.endGrace = { s with
        shift := { s.shift with overdueSince := some s.tb.runClock }
        ring := s.endGrace.ring, ports := s.latched s.endGrace }
      ∧ s.endGrace.noticed .overdue
      ∧ s.endGrace.ring.holds s.ring.next (s.ownRecord .handover
          (BitVec.ofNat 16 (5 * 256 + s.shift.identity.crew.toNat))) := by
  rw [s.endGrace_of_due ((s.graceDue_iff h fresh).2 passed), State.noteHandover]
  generalize told_by : s.withShift _ = u
  have told : s.Tells ((u.note .handover _).raiseAll .overdue) _ _ :=
    ((u.note_tells .handover (datumOf Subkind.overdue.code s.shift.identity.crew.toNat)).trans
      (State.raiseAll_tells _ .overdue)).after_silence (by rw [← told_by]; rfl) (by rw [← told_by]; rfl)
  refine ⟨?_, told.noticed (by simp) (by decide), ?_⟩
  · obtain ⟨r, p, e⟩ := u.note_frame .handover (datumOf Subkind.overdue.code s.shift.identity.crew.toNat)
    rw [← told.ports, e, ← told_by]
    rfl
  · have held := told.holds_first on (by simp)
    rw [← told_by] at held ⊢
    exact held

theorem State.offerLapse_removesOffer {o : Offer} (h : s.shift.offer = some o)
    (passed : o.start + 600000000000 ≤ s.tb.runClock) (on : s.ring.started = true) :
    s.lapseOffer = { s with
        shift := { s.shift with
          offer := none, state := if s.shift.dueStart.isSome then .due else .onShift }
        ring := s.lapseOffer.ring, ports := s.latched s.lapseOffer }
      ∧ s.lapseOffer.ring.holds s.ring.next (s.ownRecord .handover
          (BitVec.ofNat 16 (4 * 256 + o.crewOut.toNat))) := by
  have lapses : s.lapseOffer = (s.withShift s.shift.withoutOffer).noteHandover .lapsed o.crewOut := by
    rw [State.lapseOffer, h]
    exact if_pos ((s.offerDue_iff h).2 passed)
  rw [lapses, State.noteHandover]
  generalize told_by : s.withShift _ = u
  have told : s.Tells (u.note .handover _) _ _ :=
    (u.note_tells .handover (datumOf Subkind.lapsed.code o.crewOut.toNat)).after_silence
      (by rw [← told_by]; rfl) (by rw [← told_by]; rfl)
  constructor
  · obtain ⟨r, p, e⟩ := u.note_frame .handover (datumOf Subkind.lapsed.code o.crewOut.toNat)
    rw [← told.ports, e, ← told_by]
    rfl
  · have held := told.holds_first on (by simp)
    rw [← told_by] at held ⊢
    exact held

/-- Settles O47: the schedule is evaluated after the growth of U, and the two ends come at their run-clock
values and not before. -/
theorem handoverFallsDueOverdueAndLapses : Obligations.HandoverFallsDueOverdueAndLapses := by
  refine ⟨State.boundary_makesHandoverDue, ?_, ?_⟩
  · intro s due h fresh grace
    refine ⟨fun passed on => ⟨_, rfl, s.graceEnd_setsOverdue h fresh passed on⟩, fun early => ?_⟩
    have undue : ¬ s.graceDue = true := fun due =>
      absurd ((s.graceDue_iff h fresh).1 due) (Nat.not_le_of_lt early)
    exact congrArg Host.Outcome.next (if_neg undue)
  · intro s o h
    refine ⟨fun passed on => ⟨_, rfl, s.offerLapse_removesOffer h passed on⟩, fun early => ?_⟩
    have undue : ¬ s.offerDue = true := fun due =>
      absurd ((s.offerDue_iff h).1 due) (Nat.not_le_of_lt early)
    have stays : s.lapseOffer = s := by
      rw [State.lapseOffer, h]
      exact if_neg undue
    exact congrArg Host.Outcome.next stays

end Sys2Proof.Machine
end

section
/-! Steps of station time: the hand-offs that a step from a pulse report and SET TIME share (R14, R15, R17, R22,
R54, R55, R166, R178). -/

namespace Sys2Proof.Machine

variable (s : State)

/-! ### The hand-offs of a step, one after another -/

/-- The reading that a step hands on: the moved time and the new class (R15, log 45). -/
def Timebase.stepStamp (t : Timebase) : Stamp := ⟨t.second, t.nanos / 1000, t.cls, t.runClock⟩

/-- The step's own record and notice. -/
def State.stepNoted (s : State) (t : Timebase) (kind : Kind) (datum : BitVec 16) : State :=
  ((s.withTb (t.readAs t.cls)).note kind datum).raiseAll .step

/-- The record, the notice and what follows the class. -/
def State.stepDated (s : State) (t : Timebase) (kind : Kind) (datum : BitVec 16) : State :=
  (s.stepNoted t kind datum).classMoved s.cls

theorem State.stepNoted_tb (t : Timebase) (kind : Kind) (datum : BitVec 16) :
    (s.stepNoted t kind datum).tb = t.readAs t.cls := by
  simp [State.stepNoted]

theorem State.stepNoted_frame (t : Timebase) (kind : Kind) (datum : BitVec 16) :
    ∃ (r : Ring) (p : PerPort PortState),
      s.stepNoted t kind datum = { s with tb := t.readAs t.cls, ring := r, ports := p } := by
  obtain ⟨r, p, e⟩ := (s.withTb (t.readAs t.cls)).note_frame kind datum
  exact ⟨r, _, by rw [State.stepNoted, e]; rfl⟩

theorem State.stepNoted_tells (t : Timebase) (kind : Kind) (datum : BitVec 16) :
    s.Tells (s.stepNoted t kind datum)
      [{ kind := kind, field := 0xFF, stamp := t.stepStamp, datum := datum }] [.step] :=
  ((State.note_tells _ kind datum).trans (State.raiseAll_tells _ .step)).after_silence rfl rfl

theorem State.stepDated_tb (t : Timebase) (kind : Kind) (datum : BitVec 16) :
    (s.stepDated t kind datum).tb
      = { t.readAs t.cls with alarm := (s.stepDated t kind datum).tb.alarm } := by
  rw [State.stepDated, State.classMoved_tb, State.stepNoted_tb]

theorem State.stepDated_cls (t : Timebase) (kind : Kind) (datum : BitVec 16) :
    (s.stepDated t kind datum).cls = t.cls := by
  rw [State.cls, State.stepDated_tb]
  rfl

theorem State.stepDated_reading (t : Timebase) (kind : Kind) (datum : BitVec 16) :
    (s.stepDated t kind datum).reading = t.stepStamp := by
  rw [State.reading, State.stepDated_tb]
  rfl

theorem State.stepDated_frame (t : Timebase) (kind : Kind) (datum : BitVec 16) :
    ∃ (a : Timebase) (x : Shift) (r : Ring) (p : PerPort PortState),
      s.stepDated t kind datum = { s with tb := a, shift := x, ring := r, ports := p } := by
  obtain ⟨r, p, e⟩ := s.stepNoted_frame t kind datum
  obtain ⟨a, x, g, o, e'⟩ := (s.stepNoted t kind datum).classMoved_frame s.cls
  exact ⟨_, x, g, o, by rw [State.stepDated, e', e]⟩

theorem State.stepDated_alarm (t : Timebase) (kind : Kind) (datum : BitVec 16)
    (alarm : t.alarm = s.tb.alarm) :
    (s.stepDated t kind datum).tb.alarm = if t.cls = s.cls then s.tb.alarm
      else Decidable.decide (s.settings.working.alarmClass < t.cls) := by
  have cls : (s.stepNoted t kind datum).cls = t.cls := by
    rw [State.cls, State.stepNoted_tb]
    rfl
  obtain ⟨r, p, e⟩ := s.stepNoted_frame t kind datum
  rw [State.stepDated, State.classMoved_alarm, cls, ← alarm, e]
  rfl

theorem State.stepDated_shift (t : Timebase) (kind : Kind) (datum : BitVec 16) :
    (s.stepDated t kind datum).shift = s.shift.seeing s.cls t.cls false := by
  have cls : (s.stepNoted t kind datum).cls = t.cls := by
    rw [State.cls, State.stepNoted_tb]
    rfl
  obtain ⟨r, p, e⟩ := s.stepNoted_frame t kind datum
  rw [State.stepDated, State.classMoved_shift, cls, e]

theorem State.stepDated_tells (t : Timebase) (kind : Kind) (datum : BitVec 16)
    (alarm : t.alarm = s.tb.alarm) :
    s.Tells (s.stepDated t kind datum)
      ([{ kind := kind, field := 0xFF, stamp := t.stepStamp, datum := datum }]
        ++ s.qualityEntries (s.stepDated t kind datum) t.stepStamp)
      ([.step] ++ s.qualityNotices (s.stepDated t kind datum)) := by
  have first := s.stepNoted_tells t kind datum
  have second := (s.stepNoted t kind datum).classMoved_tells s.cls
  have cls : (s.stepNoted t kind datum).cls = t.cls := by
    rw [State.cls, State.stepNoted_tb]
    rfl
  have before : (s.stepNoted t kind datum).tb.alarm = s.tb.alarm := by
    rw [State.stepNoted_tb, ← alarm]
    rfl
  have date : (s.stepNoted t kind datum).ownRecord .quality (datumOf s.cls t.cls)
      = { kind := .quality, field := 0xFF, stamp := t.stepStamp
          datum := BitVec.ofNat 16 (s.cls * 256 + t.cls) } := by
    rw [State.ownRecord, State.reading, State.stepNoted_tb]
    rfl
  rw [cls, before, date] at second
  unfold State.qualityEntries State.qualityNotices
  rw [State.stepDated_cls]
  exact first.trans second

/-! ### The whole step -/

theorem Shift.seeing_counted (x : Shift) (old new : Nat) :
    { x.seeing old new false with
      running := (x.seeing old new false).running.map fun m =>
        { m with timeSteps := satAdd Config.smallCap m.timeSteps 1 } } = x.seeing old new true := by
  cases x
  simp [Shift.seeing, Function.comp_def, satAdd, Config.smallCap]

/-- The hand-off to the Driver and the count of the step, before the schedule is evaluated. -/
def State.stepCounted (s : State) (t : Timebase) (kind : Kind) (datum : BitVec 16) : State :=
  ((s.stepDated t kind datum).withDist (s.dist.stepKnown t.runClock t.nanos)).withShift
    (s.shift.seeing s.cls t.cls true)

theorem State.stepDated_makeStepKnown (t : Timebase) (kind : Kind) (datum : BitVec 16) :
    (s.stepDated t kind datum).makeStepKnown = (s.stepCounted t kind datum).evaluateSchedule := by
  have shift := s.stepDated_shift t kind datum
  have tb := s.stepDated_tb t kind datum
  obtain ⟨a, x, r, p, e⟩ := s.stepDated_frame t kind datum
  unfold State.makeStepKnown State.shiftStepKnown State.modSummary State.stepCounted
  rw [← Shift.seeing_counted, ← shift]
  congr 1
  rw [tb]
  rw [e]
  rfl

theorem State.handStepOff_eq (t : Timebase) (kind : Kind) (datum : BitVec 16) :
    ∃ c : Timebase, c.alarm = (s.stepDated t kind datum).tb.alarm
      ∧ s.handStepOff t kind datum = ((s.stepCounted t kind datum).evaluateSchedule).withTb c := by
  rw [← State.stepDated_makeStepKnown]
  refine ⟨{ (s.stepDated t kind datum).makeStepKnown.tb with
    cycleSecond := t.cycleSecond, cycleNanos := t.cycleNanos
    cycleClass := t.cycleClass, cycleState := t.cycleState }, ?_, rfl⟩
  rw [State.makeStepKnown_tb]

theorem State.handStepOff_cls (t : Timebase) (kind : Kind) (datum : BitVec 16) :
    (s.handStepOff t kind datum).cls = t.cls := by
  obtain ⟨a, e⟩ := s.handStepOff_tb t kind datum
  rw [State.cls, e]
  rfl

/-- The cycle fields that a step hands over are put back, so readings stay as they were (log 45). -/
theorem State.handStepOff_reading (t : Timebase) (kind : Kind) (datum : BitVec 16) :
    (s.handStepOff t kind datum).reading = (s.withTb t).reading := by
  obtain ⟨a, e⟩ := s.handStepOff_tb t kind datum
  rw [State.reading, e]
  rfl

theorem State.handStepOff_tb_eq (t : Timebase) (kind : Kind) (datum : BitVec 16) :
    (s.handStepOff t kind datum).tb
      = { t with alarm := (s.handStepOff t kind datum).tb.alarm } := by
  obtain ⟨a, e⟩ := s.handStepOff_tb t kind datum
  rw [e]

theorem State.handStepOff_alarm (t : Timebase) (kind : Kind) (datum : BitVec 16) :
    (s.handStepOff t kind datum).tb.alarm = (s.stepDated t kind datum).tb.alarm := by
  obtain ⟨c, alarm, e⟩ := s.handStepOff_eq t kind datum
  rw [e]
  exact alarm

theorem State.handStepOff_dist (t : Timebase) (kind : Kind) (datum : BitVec 16) :
    (s.handStepOff t kind datum).dist = s.dist.stepKnown t.runClock t.nanos := by
  obtain ⟨c, -, e⟩ := s.handStepOff_eq t kind datum
  rw [e, State.withTb_dist, State.evaluateSchedule_dist]
  rfl

theorem State.handStepOff_frame (t : Timebase) (kind : Kind) (datum : BitVec 16) :
    ∃ (c : Timebase) (d : Distribution) (x : Shift) (r : Ring) (p : PerPort PortState),
      s.handStepOff t kind datum
        = { s with tb := c, dist := d, shift := x, ring := r, ports := p } := by
  obtain ⟨c, -, e⟩ := s.handStepOff_eq t kind datum
  obtain ⟨x, r, p, e'⟩ := (s.stepCounted t kind datum).evaluateSchedule_frame
  obtain ⟨a, y, g, o, e''⟩ := s.stepDated_frame t kind datum
  exact ⟨c, _, x, r, p, by rw [e, e', State.stepCounted, e'']; rfl⟩

/-- What a whole step tells: its own record first, QUALITY of a moved flag next, and at most one HANDOVER. -/
theorem State.handStepOff_tells (t : Timebase) (kind : Kind) (datum : BitVec 16)
    (alarm : t.alarm = s.tb.alarm) :
    ∃ (es : List Entry) (ks : List Notice),
      s.Tells (s.handStepOff t kind datum)
        ([{ kind := kind, field := 0xFF, stamp := t.stepStamp, datum := datum }]
          ++ s.qualityEntries (s.handStepOff t kind datum) t.stepStamp ++ es)
        ([.step] ++ s.qualityNotices (s.handStepOff t kind datum) ++ ks)
      ∧ es.length ≤ 1 ∧ (∀ e ∈ es, e.kind = .handover) ∧ ∀ k ∈ ks, k = .due ∨ k = .overdue := by
  have told := s.stepDated_tells t kind datum alarm
  obtain ⟨es, ks, evaluated, rest⟩ := (s.stepCounted t kind datum).evaluateSchedule_tells
  obtain ⟨c, -, e⟩ := s.handStepOff_eq t kind datum
  refine ⟨es, ks, ?_, rest⟩
  unfold State.qualityEntries State.qualityNotices at told ⊢
  rw [State.handStepOff_alarm, State.handStepOff_cls]
  rw [State.stepDated_cls] at told
  rw [e]
  exact ((told.then_silence (v := s.stepCounted t kind datum) rfl rfl).trans evaluated).then_silence rfl rfl

/-- Everything that R15 and R17 hand on after station time has moved to `t`, the alarm flag as it was. -/
theorem State.handStepOff_spec (t : Timebase) (kind : Kind) (datum : BitVec 16)
    (alarm : t.alarm = s.tb.alarm) (other : kind ≠ .quality) :
    (s.ring.started = true → (s.handStepOff t kind datum).ring.holds s.ring.next
        { kind := kind, field := 0xFF, stamp := t.stepStamp, datum := datum })
      ∧ (s.handStepOff t kind datum).noticed .step
      ∧ s.AlarmFollows (s.handStepOff t kind datum) (s.ring.next + 1) t.stepStamp
      ∧ (s.handStepOff t kind datum).ports = s.latched (s.handStepOff t kind datum) := by
  obtain ⟨es, ks, told, short, kinds, notices⟩ := s.handStepOff_tells t kind datum alarm
  have few : (s.qualityEntries (s.handStepOff t kind datum) t.stepStamp).length ≤ 1 := by
    unfold State.qualityEntries
    split <;> simp
  refine ⟨fun on => ?_, told.noticed (by simp) (by decide), ?_, told.ports⟩
  · rw [List.append_assoc, List.singleton_append] at told
    refine told.holds_first on ?_
    rw [List.length_append]
    omega
  · refine State.alarmFollows_of_tells ?_ told ?_ ?_ ?_
    · rw [State.handStepOff_alarm, State.handStepOff_cls]
      exact s.stepDated_alarm t kind datum alarm
    · intro e he
      rcases List.mem_append.1 he with own | handover
      · rw [List.mem_singleton.1 own]
        exact other
      · rw [kinds e handover]
        decide
    · simp only [List.length_singleton]
      omega
    · intro told_quality
      rcases List.mem_append.1 told_quality with own | later
      · simp at own
      · rcases notices _ later with h | h <;> cases h

theorem Shift.evaluated_congr {x : Shift} {on : Bool} {date : Stamp} {t v : State}
    (h : x.Evaluated on date t) (second : v.tb.second = t.tb.second) (unset : v.tb.unset = t.tb.unset)
    (clock : v.tb.runClock = t.tb.runClock) (settings : v.settings = t.settings)
    (shift : v.shift = t.shift) (ring : v.ring = t.ring)
    (latches : ∀ q, (v.port q).latches = (t.port q).latches) :
    x.Evaluated on date v := by
  unfold Shift.Evaluated State.noticed at h ⊢
  simp only [latches]
  rw [second, unset, clock, settings, shift, ring]
  exact h

/-- The schedule is evaluated with the moved time, once the step has been counted (R166, R178). -/
theorem State.handStepOff_evaluated (t : Timebase) (kind : Kind) (datum : BitVec 16) :
    (s.shift.seeing s.cls t.cls true).Evaluated s.ring.started t.stepStamp
      (s.handStepOff t kind datum) := by
  have evaluated := (s.stepCounted t kind datum).evaluateSchedule_evaluated
  have date : (s.stepCounted t kind datum).reading = t.stepStamp := s.stepDated_reading t kind datum
  have tb : (s.stepCounted t kind datum).tb = { t.readAs t.cls with
      alarm := (s.stepDated t kind datum).tb.alarm } := s.stepDated_tb t kind datum
  have on : (s.stepCounted t kind datum).ring.started = s.ring.started := by
    have classed := ((s.stepNoted t kind datum).classMoved_tells s.cls).ring.started
    have noted := (s.stepNoted_tells t kind datum).ring.started
    exact classed.trans noted
  rw [date, on] at evaluated
  obtain ⟨c, -, e⟩ := s.handStepOff_eq t kind datum
  have own := s.handStepOff_tb_eq t kind datum
  refine Shift.evaluated_congr evaluated ?_ ?_ ?_ (by rw [e]; rfl) (by rw [e]; rfl) (by rw [e]; rfl)
    (fun _ => by rw [e]; rfl)
  all_goals rw [own, State.evaluateSchedule_tb, tb]
  all_goals rfl

theorem State.handStepOff_frame_latched (t : Timebase) (kind : Kind) (datum : BitVec 16)
    (alarm : t.alarm = s.tb.alarm) :
    s.handStepOff t kind datum = { s with
      tb := (s.handStepOff t kind datum).tb, dist := (s.handStepOff t kind datum).dist
      shift := (s.handStepOff t kind datum).shift, ring := (s.handStepOff t kind datum).ring
      ports := s.latched (s.handStepOff t kind datum) } := by
  obtain ⟨es, ks, told, -⟩ := s.handStepOff_tells t kind datum alarm
  obtain ⟨c, d, x, r, p, e⟩ := s.handStepOff_frame t kind datum
  rw [← told.ports, e]

theorem Distribution.stepKnown_stepPending (d : Distribution) (runClock nanos : Nat) :
    (d.stepKnown runClock nanos).stepPending = true := by
  unfold Distribution.stepKnown Distribution.endWord
  simp only
  repeat' split
  all_goals rfl

/-- The stamp of a step, read from the state after it. -/
theorem State.handStepOff_stamp (t : Timebase) (kind : Kind) (datum : BitVec 16) :
    (⟨(s.handStepOff t kind datum).tb.second, (s.handStepOff t kind datum).tb.nanos / 1000,
      (s.handStepOff t kind datum).cls, t.runClock⟩ : Stamp) = t.stepStamp := by
  rw [State.handStepOff_cls, State.handStepOff_tb_eq]
  rfl

/-- The Timebase after a step: 100 ns and the claim term lie below the ceiling of U (R14, R15, R19). -/
theorem Timebase.stepped_eq (t : Timebase) (e : Int) {claim : Nat} (low : 1 ≤ claim) (high : claim ≤ 5) :
    t.stepped e claim = { t with
      second := t.second + BitVec.ofInt 32 (((t.nanos : Int) + e) / 1000000000)
      nanos := (((t.nanos : Int) + e) % 1000000000).toNat
      lastStep := some ⟨t.runClock, e⟩
      uncertainty := 100 + 10 ^ (claim + 1)
      unset := false
      outliers := 0
      state := .locked } := by
  have room : 100 + 10 ^ (claim + 1) ≤ 1000000000 := by
    have := Nat.pow_le_pow_right (show 1 ≤ 10 by norm_num) (show claim + 1 ≤ 6 by omega)
    omega
  have below : satAdd Config.uncertaintyCap 100 (claimTerm claim) = 100 + 10 ^ (claim + 1) := by
    rw [claimTerm_eq low high]
    exact Nat.min_eq_right room
  unfold Timebase.stepped
  rw [below]
  rfl

/-! ### Steps from pulse reports (R9, R12 to R15, R19) -/

/-- Settles O5: the reports that step are those of `pulseReport_of_acquire` and `pulseReport_of_far`, and a
step is the hand-offs of the stepped Timebase. -/
theorem pulseBeyondThresholdSteps : Obligations.PulseBeyondThresholdSteps := by
  intro s capture second claim undue on low high e stepping t
  have steps : s.pulseReport capture second claim = s.stepTime e claim := by
    rcases stepping with acquire | ⟨far, state⟩
    · exact State.pulseReport_of_acquire acquire
    · refine State.pulseReport_of_far state (Bool.eq_false_iff.2 fun near => ?_)
      have := (s.withinThreshold_iff e).1 near
      omega
  have step : t = s.handStepOff (s.tb.stepped e claim) .timeStep (stepDatum e) := by
    rw [show t = s.stepTime e claim from steps, State.stepTime, s.secondBoundary_of_not_due undue]
  rw [step]
  have tb := s.handStepOff_tb_eq (s.tb.stepped e claim) .timeStep (stepDatum e)
  have date := s.handStepOff_stamp (s.tb.stepped e claim) .timeStep (stepDatum e)
  obtain ⟨holds, noticed, follows, -⟩ :=
    s.handStepOff_spec (s.tb.stepped e claim) .timeStep (stepDatum e) rfl (by decide)
  have evaluated := s.handStepOff_evaluated (s.tb.stepped e claim) .timeStep (stepDatum e)
  rw [← date] at holds follows evaluated
  rw [← s.handStepOff_cls (s.tb.stepped e claim) .timeStep (stepDatum e), on] at evaluated
  refine ⟨?_, ?_, holds on, noticed, s.handStepOff_reading _ _ _, follows, evaluated,
    s.handStepOff_frame_latched _ _ _ rfl⟩
  · rw [tb, s.tb.stepped_eq e low high]
  · rw [State.handStepOff_dist]
    exact Distribution.stepKnown_stepPending _ _ _

end Sys2Proof.Machine
end

section
/-! Requests that a waiting build brings to its owner, and SET TIME (R17, R18, R54, R55). -/

namespace Sys2Proof.Machine

/-! ### A request that waits -/

/-- Whether a request waits does not depend on latches. -/
theorem State.waits_latched {s t : State} (h : t.ports = s.latched t) (q : Port) (r : Request) :
    (t.port q).waits r = (s.port q).waits r := by
  rw [State.port, h, State.latched, PerPort.get_map2]
  rfl

/-- A request row of the table, where the request waits, is its taking by the owner. -/
theorem State.request_of_waits {s : State} {q : Port} {r : Request} (h : (s.port q).waits r = true) :
    s.request q r = s.take q r := by
  rw [State.request, if_pos h]

/-- An answer leaves the latches of its port alone. -/
theorem PortState.changeBuild_latches (x : PortState) (c : Build → Bool) (f : Build → Option Build) :
    (x.changeBuild c f).latches = x.latches := by
  unfold PortState.changeBuild
  split
  · rfl
  · split <;> rfl

/-- Where the effect moves nothing of the ports but latches, the answer stands beside it: the rest of the
effect stays, latches included. -/
theorem State.take_answer_noticed (s : State) (q : Port) (r : Request) (e : State) (result : Result)
    (body : List Byte) (h : (s.port q).waits r = true) (hr : r ≠ .nop)
    (hd : s.decide q r = ⟨e, .answer result body⟩) (ports : e.ports = s.latched e) :
    AnsweredAndNoticed q r result body s (s.take q r)
      ∧ (∃ o : PerPort PortState, s.take q r = { e with ports := o })
      ∧ ∀ each, ((s.take q r).port each).latches = (e.port each).latches := by
  have waiting : (e.port q).waits r = true := (State.waits_latched ports q r).trans h
  have answered := s.take_answer q r e result body h hr hd waiting
  have taken : s.take q r = e.setPort q ((e.port q).settle r (.answer result body)) := by
    simp [State.take, h, hd, State.modPort, PortState.finishNop, hr]
  have latches : ∀ each, ((s.take q r).port each).latches = (e.port each).latches := by
    intro each
    rw [taken, State.port, State.setPort]
    by_cases same : each = q
    · rw [same, PerPort.get_set_same, PortState.settle, PortState.changeBuild_latches]
    · rw [PerPort.get_set_other _ _ same, State.port]
  have effect : ({ s.take q r with ports := s.latched (s.take q r) } : State) = e := by
    have latched : s.latched (s.take q r) = e.ports := by
      rw [ports]
      apply PerPort.ext_get
      intro each
      have same := latches each
      unfold State.port at same
      simp only [State.latched, PerPort.get_map2, same]
    rw [latched, taken]
    rfl
  refine ⟨?_, ⟨_, taken⟩, latches⟩
  rw [AnsweredAndNoticed, effect]
  exact answered

/-! ### What depends on the ring, the Timebase and latches alone -/

theorem State.noticed_congr {t v : State} {k : Notice} (h : t.noticed k)
    (latches : ∀ q, (v.port q).latches = (t.port q).latches) : v.noticed k := fun q => by
  rw [latches]
  exact h q

theorem State.alarmFollows_congr {s t v : State} {seq : EventSeq} {date : Stamp}
    (h : s.AlarmFollows t seq date) (tb : v.tb = t.tb) (ring : v.ring = t.ring)
    (latches : ∀ q, (v.port q).latches = (t.port q).latches) : s.AlarmFollows v seq date := by
  unfold State.AlarmFollows State.noticed at h ⊢
  simp only [latches, tb, ring, State.cls_congr tb]
  exact h

/-! ### SET TIME -/

section
variable {s : State} {second : Second} {micros : BitVec 24}

theorem State.setTime_of_disciplined (h : s.tb.state = .acquire ∨ s.tb.state = .locked) :
    s.setTime second micros = s.refuse .wrongState := by
  rw [State.setTime, if_pos h]

theorem State.setTime_of_range (h : s.tb.state = .free ∨ s.tb.state = .holdover)
    (range : 1000000 ≤ micros.toNat) : s.setTime second micros = s.refuse .badValue := by
  have idle : ¬ (s.tb.state = .acquire ∨ s.tb.state = .locked) := by
    rcases h with h | h <;> simp [h]
  rw [State.setTime, if_neg idle, if_pos (show 999999 < micros.toNat by omega)]

theorem State.setTime_of_set (h : s.tb.state = .free ∨ s.tb.state = .holdover)
    (range : micros.toNat ≤ 999999) (undue : s.due.second = false) :
    s.setTime second micros
      = (s.handStepOff (s.tb.setTo second micros.toNat) .timeSet 0).ok := by
  have idle : ¬ (s.tb.state = .acquire ∨ s.tb.state = .locked) := by
    rcases h with h | h <;> simp [h]
  rw [State.setTime, if_neg idle, if_neg (show ¬ 999999 < micros.toNat by omega)]
  simp only [s.secondBoundary_of_not_due undue]

end

/-- A refused SET TIME leaves the state as it was, but for its answer. -/
theorem State.setTime_refused {s : State} {q : Port} {second : Second} {micros : BitVec 24}
    {result : Result} (waits : (s.port q).waits (.setTime second micros) = true)
    (h : s.setTime second micros = s.refuse result) :
    AnsweredIn q (.setTime second micros) result [] s (s.take q (.setTime second micros)) :=
  s.take_answer q _ s result [] waits (by simp) h waits

/-- The class of a set time: U stands at its ceiling (R17, R21). -/
theorem Timebase.setTo_cls (t : Timebase) (second : Second) (micros : Nat) :
    (t.setTo second micros).cls = 6 := by
  rw [Timebase.cls_of_set rfl]
  exact (classOfUncertainty_eq_iff 1000000000).2.2.2.2.2.2 (by norm_num)

/-- The difference that SET TIME keeps is taken in nanoseconds (R17). -/
theorem Timebase.setTo_eq (t : Timebase) (second : Second) (micros : Nat) :
    t.setTo second micros = { t with
      second := second
      nanos := micros * 1000
      uncertainty := 1000000000
      unset := false
      lastStep := some ⟨t.runClock,
        (second - t.second).toInt * 1000000000 + micros * 1000 - t.nanos⟩ } := by
  unfold Timebase.setTo Timebase.setDifference
  push_cast
  rfl

/-- The stamp of a set time shows its microseconds. -/
theorem Timebase.setTo_stamp (t : Timebase) (second : Second) (micros : Nat) :
    (t.setTo second micros).stepStamp = ⟨second, micros, 6, t.runClock⟩ := by
  rw [Timebase.stepStamp, Timebase.setTo_cls]
  simp [Timebase.setTo]

theorem State.setTime_setsOrRefuses : Claims.SetTimeSetsOrRefuses := by
  intro s q second micros waits
  have run : exec (.setTime q second micros) s = .next (s.take q (.setTime second micros)) :=
    congrArg Host.Outcome.next (State.request_of_waits waits)
  refine ⟨_, run, fun disciplined => State.setTime_refused waits (State.setTime_of_disciplined disciplined),
    fun idle => ⟨fun range => State.setTime_refused waits (State.setTime_of_range idle range),
      fun range undue on => ?_⟩⟩
  have decided : s.decide q (.setTime second micros)
      = (s.handStepOff (s.tb.setTo second micros.toNat) .timeSet 0).ok :=
    State.setTime_of_set idle range undue
  have stamp := s.tb.setTo_stamp second micros.toNat
  have six := s.tb.setTo_cls second micros.toNat
  have set := s.tb.setTo_eq second micros.toNat
  have read : (s.withTb (s.tb.setTo second micros.toNat)).reading = s.reading := rfl
  have alarm : (s.tb.setTo second micros.toNat).alarm = s.tb.alarm := rfl
  generalize s.tb.setTo second micros.toNat = x at *
  have cls := s.handStepOff_cls x .timeSet 0
  have tb := s.handStepOff_tb_eq x .timeSet 0
  have evaluated := s.handStepOff_evaluated x .timeSet 0
  have frame := s.handStepOff_frame_latched x .timeSet 0 alarm
  have reading := s.handStepOff_reading x .timeSet 0
  have dist := s.handStepOff_dist x .timeSet 0
  obtain ⟨holds, noticed, follows, ports⟩ := s.handStepOff_spec x .timeSet 0 alarm (by decide)
  obtain ⟨answered, ⟨o, same⟩, latches⟩ :=
    s.take_answer_noticed q _ _ .ok [] waits (by simp) decided ports
  generalize s.handStepOff x .timeSet 0 = e at *
  rw [stamp] at holds follows evaluated
  rw [on, ← cls] at evaluated
  rw [same] at answered latches ⊢
  refine ⟨answered, ?_, cls.trans six, ?_, holds on, State.noticed_congr noticed latches,
    reading.trans read, State.alarmFollows_congr follows rfl rfl latches,
    Shift.evaluated_congr evaluated rfl rfl rfl rfl rfl rfl latches,
    congrArg (fun v : State => { v with ports := o }) frame⟩
  · rw [set] at tb
    exact tb
  · rw [dist]
    exact Distribution.stepKnown_stepPending _ _ _

/-! ### What a step cuts (R54, R55) -/

/-- The Driver when a step is made known to it, field by field: what would outlast the boundary that the
time left gives is cut. -/
theorem Distribution.stepKnown_eq (d : Distribution) (runClock nanos : Nat) :
    let boundary := runClock + (Config.second - nanos)
    let cutWord := decide (d.wordState ≠ .idle ∧ boundary < d.wordEnds)
    let cutStrobe := decide (d.asserted = true ∧ boundary < d.lead + d.width)
    d.stepKnown runClock nanos = { d with
      stepPending := true
      wordState := if cutWord then .idle else d.wordState
      dclk := if cutWord then false else d.dclk
      ddata := if cutWord then false else d.ddata
      cuts := if cutWord then satAdd Config.smallCap d.cuts 1 else d.cuts
      asserted := if cutStrobe then false else d.asserted
      echoPending := if cutStrobe then false else d.echoPending } := by
  intro boundary cutWord cutStrobe
  change (if cutStrobe then _ else _) = _
  change (if cutStrobe then { (if cutWord then _ else _ : Distribution) with
    asserted := false, echoPending := false } else if cutWord then _ else _) = _
  cases cutWord <;> cases cutStrobe <;> rfl

theorem State.setTime_cuts : Claims.StepCutsWhatOutlastsTheBoundary := by
  intro s q second micros waits idle range undue boundary wordEnds release cutWord cutStrobe
  have run : exec (.setTime q second micros) s = .next (s.take q (.setTime second micros)) :=
    congrArg Host.Outcome.next (State.request_of_waits waits)
  have decided : s.decide q (.setTime second micros)
      = (s.handStepOff (s.tb.setTo second micros.toNat) .timeSet 0).ok :=
    State.setTime_of_set idle range undue
  have ports := (s.handStepOff_spec (s.tb.setTo second micros.toNat) .timeSet 0 rfl (by decide)).2.2.2
  obtain ⟨-, ⟨o, same⟩, -⟩ := s.take_answer_noticed q _ _ .ok [] waits (by simp) decided ports
  refine ⟨_, run, ?_⟩
  rw [same, State.handStepOff_dist, Distribution.stepKnown_eq]
  rfl

/-- Settles O18: SET TIME's refusals, its hand-offs and its cut. -/
theorem setTimeSetsRefusesAndCuts : Obligations.SetTimeSetsRefusesAndCuts :=
  ⟨State.setTime_setsOrRefuses, State.setTime_cuts⟩

end Sys2Proof.Machine
end

section
/-! The selection (R38 to R40), what the Timebase makes of its changes (R7, R8, R43), and SELECT REFERENCE. -/

namespace Sys2Proof.Machine

variable (s : State)

/-! ### The choice (R38, R39) -/

/-- The choice made afresh, as the table of R39 reads. -/
theorem State.freshChoice_eq :
    s.freshChoice =
      if (s.ref .ref1).qualified && (s.ref .ref2).qualified then
        some (if (s.ref .ref1).claimClass < (s.ref .ref2).claimClass then .ref1
          else if (s.ref .ref2).claimClass < (s.ref .ref1).claimClass then .ref2
          else s.settings.working.priority)
      else if (s.ref .ref1).qualified then some .ref1
      else if (s.ref .ref2).qualified then some .ref2 else none := by
  unfold State.freshChoice
  cases (s.ref .ref1).qualified <;> cases (s.ref .ref2).qualified
  · rfl
  · rfl
  · rfl
  · simp only [Bool.and_self, if_true]
    split_ifs <;> rfl

theorem State.choice_of_auto (h : s.sel.mode = .auto) : s.choice = s.autoChoice := by
  rw [State.choice, h]

theorem State.choice_of_ref1 (h : s.sel.mode = .ref1) :
    s.choice = if (s.ref .ref1).qualified then some .ref1 else none := by
  rw [State.choice, h]

theorem State.choice_of_ref2 (h : s.sel.mode = .ref2) :
    s.choice = if (s.ref .ref2).qualified then some .ref2 else none := by
  rw [State.choice, h]

theorem State.choice_of_none (h : s.sel.mode = .none) : s.choice = none := by
  rw [State.choice, h]

/-! ### The evaluation of the selection (R39, R40) -/

theorem State.evaluateSelection_of_same (h : s.choice = s.sel.selected) : s.evaluateSelection = s := by
  rw [State.evaluateSelection, if_pos h]

theorem State.evaluateSelection_of_change (h : s.choice ≠ s.sel.selected) :
    s.evaluateSelection
      = (s.recordSelection s.choice).selectionMoved s.sel.selected s.choice := by
  rw [State.evaluateSelection, if_neg h]

theorem State.recordSelection_tells (new : Option RefId) :
    s.Tells (s.recordSelection new)
      [s.ownRecord .refSelect (datumOf s.sel.mode.code (selectionCode new))] [.ref] :=
  ((State.note_tells _ _ _).trans (State.raiseAll_tells _ _)).after_silence rfl rfl

theorem State.selectionMoved_tells (old new : Option RefId) :
    s.Tells (s.selectionMoved old new) [] [] := by
  obtain ⟨t, l, e⟩ := s.selectionMoved_frame old new
  exact State.Tells.of_eq (by rw [e]) (by rw [e])

/-- An evaluation writes REF_SELECT and raises REF exactly when the selection changes (R40). -/
theorem State.evaluateSelection_tells :
    s.Tells s.evaluateSelection
      (if s.choice = s.sel.selected then []
        else [s.ownRecord .refSelect (datumOf s.sel.mode.code (selectionCode s.choice))])
      (if s.choice = s.sel.selected then [] else [.ref]) := by
  split
  · rename_i same
    rw [s.evaluateSelection_of_same same]
    exact State.Tells.of_eq rfl rfl
  · rename_i change
    rw [s.evaluateSelection_of_change change]
    exact (s.recordSelection_tells s.choice).trans (State.selectionMoved_tells _ _ _)

/-- The evaluation makes the choice, and of the rest of the selection moves the latches alone (R43). -/
theorem State.evaluateSelection_sel :
    s.evaluateSelection.sel
      = { s.sel with selected := s.choice, lost := s.evaluateSelection.sel.lost } := by
  by_cases same : s.choice = s.sel.selected
  · rw [s.evaluateSelection_of_same same, same]
  · rw [s.evaluateSelection_of_change same]
    obtain ⟨r, p, e⟩ := s.recordSelection_frame s.choice
    obtain ⟨t, l, e'⟩ := (s.recordSelection s.choice).selectionMoved_frame s.sel.selected s.choice
    rw [e', e]

theorem State.evaluateSelection_selected : s.evaluateSelection.sel.selected = s.choice := by
  rw [State.evaluateSelection_sel]

/-- The evaluation of the selection moves the Timebase, the selection, the ring and the ports. -/
theorem State.evaluateSelection_moves :
    ∃ (t : Timebase) (x : Selection) (r : Ring) (p : PerPort PortState),
      s.evaluateSelection = { s with tb := t, sel := x, ring := r, ports := p } := by
  obtain ⟨t, x, l, r, p, e⟩ := s.evaluateSelection_frame
  exact ⟨t, _, r, p, e⟩

/-! ### What the Timebase makes of a change (R7, R8, R43) -/

section
variable {s : State} {r : RefId}

theorem State.selectionMoved_of_locked_lost (h : s.tb.state = .locked) :
    s.selectionMoved (some r) none = (s.withTb s.tb.holdOver).setLost := by
  simp [State.selectionMoved, h]

theorem State.selectionMoved_of_acquire_lost (h : s.tb.state = .acquire) :
    s.selectionMoved (some r) none = s.withTb { s.tb with state := .free } := by
  simp [State.selectionMoved, h]

theorem State.selectionMoved_of_free_gained (h : s.tb.state = .free) :
    s.selectionMoved none (some r) = s.withTb { s.tb with state := .acquire } := by
  simp [State.selectionMoved, h]

end

@[simp] theorem State.recordSelection_lost (new : Option RefId) :
    (s.recordSelection new).sel.lost = s.sel.lost := by
  obtain ⟨r, p, e⟩ := s.recordSelection_frame new
  rw [e]

/-! ### SELECT REFERENCE -/

/-- The state whose mode SELECT REFERENCE has set (R38). -/
def State.inMode (s : State) (m : SelectionMode) : State := s.withSel { s.sel with mode := m }

theorem selectionModeNamed_high {b : Byte} (h : 3 < b.toNat) : selectionModeNamed b = none := by
  unfold selectionModeNamed
  split <;> simp_all

theorem selectionModeNamed_low {b : Byte} (h : b.toNat ≤ 3) :
    ∃ m : SelectionMode, selectionModeNamed b = some m ∧ m.code = b.toNat := by
  have values : b.toNat = 0 ∨ b.toNat = 1 ∨ b.toNat = 2 ∨ b.toNat = 3 := by omega
  unfold selectionModeNamed
  rcases values with v | v | v | v <;> rw [v] <;> exact ⟨_, rfl, rfl⟩

theorem State.selectReference_of_named {value : Byte} {m : SelectionMode}
    (h : selectionModeNamed value = some m) :
    s.selectReference value = (s.inMode m).evaluateSelection.gives
      (byteOf (selectionCode (s.inMode m).choice)) := by
  unfold State.selectReference
  rw [h, ← State.evaluateSelection_selected]
  rfl

/-- What a waiting SELECT REFERENCE with a mode does: the mode is set, the selection is evaluated, and the
answer names the selection. -/
theorem State.selectReference_taken {q : Port} {value : Byte} {m : SelectionMode}
    (waits : (s.port q).waits (.selectReference value) = true) (named : selectionModeNamed value = some m) :
    AnsweredAndNoticed q (.selectReference value) .ok (byteOf (selectionCode (s.inMode m).choice)) s
        (s.take q (.selectReference value))
      ∧ (∃ o : PerPort PortState, s.take q (.selectReference value)
          = { (s.inMode m).evaluateSelection with ports := o })
      ∧ ∀ each, ((s.take q (.selectReference value)).port each).latches
          = ((s.inMode m).evaluateSelection.port each).latches :=
  s.take_answer_noticed q _ _ .ok _ waits (by simp) (s.selectReference_of_named named)
    ((s.inMode m).evaluateSelection_tells.after_silence rfl rfl).ports

theorem State.autoChoice_of_none (h : s.sel.selected = none) : s.autoChoice = s.freshChoice := by
  rw [State.autoChoice, h]

theorem State.autoChoice_of_some {r : RefId} (h : s.sel.selected = some r) :
    s.autoChoice = if (s.ref r).qualified then
        if (s.ref r.other).qualified
            && Decidable.decide ((s.ref r.other).claimClass < (s.ref r).claimClass) && !s.sel.disagree
          then some r.other else some r
      else s.freshChoice := by
  rw [State.autoChoice, h]
  simp only [Bool.and_right_comm]

theorem State.selectReference_setsModeAndSelection : Claims.SelectReferenceSetsModeAndSelection := by
  intro s q value waits one two claim1 claim2 better auto
  have run : exec (.selectReference q value) s = .next (s.take q (.selectReference value)) :=
    congrArg Host.Outcome.next (State.request_of_waits waits)
  by_cases high : 3 < value.toNat
  · have refused : s.decide q (.selectReference value) = s.refuse .badValue := by
      simp only [State.decide, State.selectReference, selectionModeNamed_high high]
    refine ⟨_, run, fun _ => s.take_answer q _ s .badValue [] waits (by simp) refused waits,
      ?_, ?_, ?_, ?_, fun low => absurd low (by omega)⟩
    all_goals
      intro named
      rw [named] at high
      exact absurd high (by decide)
  obtain ⟨m, named, code⟩ := selectionModeNamed_low (show value.toNat ≤ 3 by omega)
  obtain ⟨answered, ⟨o, taken⟩, latches⟩ := s.selectReference_taken waits named
  have selects := (s.inMode m).evaluateSelection_sel
  have modeOf : (s.inMode m).sel.mode = m := rfl
  have auto_choice : (s.inMode m).autoChoice = auto := by
    have fresh : (s.inMode m).freshChoice = better := (s.inMode m).freshChoice_eq
    have selectedOf : (s.inMode m).sel.selected = s.sel.selected := rfl
    unfold auto
    rcases selected : s.sel.selected with _ | _ | _
    · rw [State.autoChoice_of_none _ (selectedOf.trans selected), fresh]
    · rw [State.autoChoice_of_some _ (selectedOf.trans selected), fresh]
      rfl
    · rw [State.autoChoice_of_some _ (selectedOf.trans selected), fresh]
      rfl
  have told := (s.inMode m).evaluateSelection_tells
  obtain ⟨t, x, g, p, moves⟩ := (s.inMode m).evaluateSelection_moves
  have named_mode {n : Byte} {k : SelectionMode} (is : value = n) (names : selectionModeNamed n = some k) :
      m = k := by
    rw [is, names] at named
    exact (Option.some.inj named).symm
  have picks (k : SelectionMode) (is : m = k) (c : Option RefId) (choice : (s.inMode m).choice = c) :
      (s.take q (.selectReference value)).sel.mode = k
        ∧ (s.take q (.selectReference value)).sel.selected = c := by
    rw [taken]
    exact ⟨(congrArg Selection.mode selects).trans is, (congrArg Selection.selected selects).trans choice⟩
  refine ⟨_, run, fun above => absurd above high, fun zero => ?_, fun isOne => ?_, fun isTwo => ?_,
    fun three => ?_, fun _ => ⟨?_, fun change on => ?_, ?_⟩⟩
  · have is : m = .auto := named_mode zero rfl
    exact picks .auto is auto ((State.choice_of_auto _ is).trans auto_choice)
  · have is : m = .ref1 := named_mode isOne rfl
    exact picks .ref1 is _ (State.choice_of_ref1 _ is)
  · have is : m = .ref2 := named_mode isTwo rfl
    exact picks .ref2 is _ (State.choice_of_ref2 _ is)
  · have is : m = .none := named_mode three rfl
    exact picks .none is _ (State.choice_of_none _ is)
  · rw [(picks m rfl _ rfl).2]
    generalize (s.inMode m).choice = c at answered ⊢
    rcases c with _ | _ | _ <;> exact answered
  · rw [(picks m rfl _ rfl).2] at change ⊢
    have moved : ¬ (s.inMode m).choice = (s.inMode m).sel.selected := change
    rw [if_neg moved, if_neg moved] at told
    have held := told.holds_first on (by simp)
    refine ⟨State.noticed_congr (told.noticed (by simp) (by decide)) latches, ?_⟩
    rw [taken, ← code]
    generalize (s.inMode m).choice = c at held ⊢
    rcases c with _ | _ | _ <;> exact held
  · rw [taken, moves]
    rfl

/-- What the Timebase and the latches take from a SELECT REFERENCE that changes the selection (R7, R8, R43). -/
theorem State.selectReference_moves {s : State} {q : Port} {value : Byte} {m : SelectionMode}
    (waits : (s.port q).waits (.selectReference value) = true) (named : selectionModeNamed value = some m)
    {x : Option RefId} (choice : (s.inMode m).choice = x) (change : x ≠ s.sel.selected) :
    ∃ t v : State, exec (.selectReference q value) s = .next t
      ∧ v.tb = s.tb ∧ v.sel.lost = s.sel.lost ∧ t.sel.selected = x
      ∧ t.tb = (v.selectionMoved s.sel.selected x).tb
      ∧ t.sel.lost = (v.selectionMoved s.sel.selected x).sel.lost := by
  have run : exec (.selectReference q value) s = .next (s.take q (.selectReference value)) :=
    congrArg Host.Outcome.next (State.request_of_waits waits)
  obtain ⟨-, ⟨o, taken⟩, -⟩ := s.selectReference_taken waits named
  have moved : (s.inMode m).choice ≠ (s.inMode m).sel.selected := choice ▸ change
  have evaluated := (s.inMode m).evaluateSelection_of_change moved
  have selected := (s.inMode m).evaluateSelection_selected
  rw [choice] at evaluated selected
  refine ⟨_, (s.inMode m).recordSelection x, run, State.recordSelection_tb _ _,
    State.recordSelection_lost _ _, ?_, ?_, ?_⟩
  · rw [taken]
    exact selected
  · rw [taken, evaluated]
    rfl
  · rw [taken, evaluated]
    rfl

theorem State.selectionChange_movesTimebase : Claims.SelectionChangeMovesTimebase := by
  refine ⟨fun s q r waits selected locked => ?_, fun s q r waits selected acquire => ?_,
    fun s q waits unselected qualified free => ?_⟩
  · obtain ⟨t, v, run, tb, -, -, moved, lost⟩ := State.selectReference_moves waits
      (m := .none) rfl (State.choice_of_none _ rfl) (by simp [selected])
    rw [selected, State.selectionMoved_of_locked_lost (by rw [tb]; exact locked)] at moved lost
    refine ⟨t, run, moved.trans ?_, fun each => ?_⟩
    · rw [← tb]
      rfl
    · rw [lost]
      exact PerPort.get_all true each
  · obtain ⟨t, v, run, tb, same, -, moved, lost⟩ := State.selectReference_moves waits
      (m := .none) rfl (State.choice_of_none _ rfl) (by simp [selected])
    rw [selected, State.selectionMoved_of_acquire_lost (by rw [tb]; exact acquire)] at moved lost
    refine ⟨t, run, moved.trans ?_, lost.trans same⟩
    rw [← tb]
    rfl
  · have choice : (s.inMode .ref1).choice = some .ref1 := by
      rw [State.choice_of_ref1 _ rfl]
      exact if_pos (decide_eq_true qualified)
    obtain ⟨t, v, run, tb, -, chosen, moved, -⟩ := State.selectReference_moves waits
      (m := .ref1) rfl choice (by simp [unselected])
    rw [unselected, State.selectionMoved_of_free_gained (by rw [tb]; exact free)] at moved
    refine ⟨t, run, chosen, moved.trans ?_⟩
    rw [← tb]
    rfl

/-- Settles O14: SELECT REFERENCE sets the mode, and its evaluation of the selection moves the Timebase. -/
theorem selectReferenceMakesSelection : Obligations.SelectReferenceMakesSelection :=
  ⟨State.selectReference_setsModeAndSelection, State.selectionChange_movesTimebase⟩

end Sys2Proof.Machine
end

section
/-! The references: how an edge is taken by the state of its reference, learning (R27, R30, R31), and the seconds
that an edge closes (R32 to R37). -/

namespace Sys2Proof.Machine

/-! ### A few records -/

/-- From one state to another at most so many records have been written, and of the ports only latches have
moved. -/
def State.TellsFew (n : Nat) (s t : State) : Prop :=
  ∃ (es : List Entry) (ks : List Notice), s.Tells t es ks ∧ es.length ≤ n

section
variable {s t v : State} {n m : Nat} {es : List Entry} {ks : List Notice}

theorem State.Tells.few (h : s.Tells t es ks) (short : es.length ≤ n) : s.TellsFew n t :=
  ⟨es, ks, h, short⟩

theorem State.TellsFew.none (ring : t.ring = s.ring) (ports : t.ports = s.ports) : s.TellsFew n t :=
  ⟨[], [], State.Tells.of_eq ring ports, Nat.zero_le _⟩

theorem State.TellsFew.trans (h : s.TellsFew n t) (g : t.TellsFew m v) : s.TellsFew (n + m) v := by
  obtain ⟨es, ks, told, short⟩ := h
  obtain ⟨gs, ls, told', short'⟩ := g
  refine ⟨_, _, told.trans told', ?_⟩
  have sum := List.length_append (as := es) (bs := gs)
  omega

theorem State.TellsFew.ports (h : s.TellsFew n t) : t.ports = s.latched t := by
  obtain ⟨_, _, told, -⟩ := h
  exact told.ports

/-- What a stretch tells first is still held after a few more records. -/
theorem State.Tells.holds_then_few {e : Entry} (h : s.Tells t (e :: es) ks) (g : t.TellsFew m v)
    (on : s.ring.started = true) (short : es.length + m < 1024) : v.ring.holds s.ring.next e := by
  obtain ⟨gs, ls, told, few⟩ := g
  have all : s.Tells v (e :: (es ++ gs)) (ks ++ ls) := h.trans told
  exact all.holds_first on (by rw [List.length_append]; omega)

end

variable (s : State)

/-! ### One reference changed -/

@[simp] theorem State.ref_setRef_same (r : RefId) (x : Reference) : (s.setRef r x).ref r = x :=
  PerRef.get_set_same _ _ _

theorem RefId.other_ne (r : RefId) : r.other ≠ r := by
  cases r <;> decide

@[simp] theorem State.ref_setRef_other (r : RefId) (x : Reference) :
    (s.setRef r x).ref r.other = s.ref r.other :=
  PerRef.get_set_other _ _ (RefId.other_ne r)

theorem State.setRef_setRef (r : RefId) (x y : Reference) : (s.setRef r x).setRef r y = s.setRef r y := by
  cases r <;> rfl

theorem State.setRef_same (r : RefId) : s.setRef r (s.ref r) = s := by
  cases r <;> rfl

/-! ### A change of a reference's state (R30) -/

section
variable {s : State} {r : RefId} {new : RefState}

theorem State.moveRef_of_same (h : (s.ref r).state = new) : s.moveRef r new = s := by
  rw [State.moveRef, if_pos h]

/-- A move that does not touch QUALIFIED writes REF_STATE and nothing more. -/
theorem State.moveRef_of_plain (h : (s.ref r).state ≠ new) (was : (s.ref r).state ≠ .qualified)
    (after : new ≠ .qualified) : s.moveRef r new = s.recordRefState r new := by
  simp only [State.moveRef, if_neg h, if_neg was, if_neg after]

theorem State.moveRef_of_qualifying (h : (s.ref r).state ≠ .qualified) :
    s.moveRef r .qualified = (s.recordRefState r .qualified).evaluateSelection := by
  simp only [State.moveRef, if_neg h, if_true]

theorem State.moveRef_of_leaving (h : (s.ref r).state = .qualified) (after : new ≠ .qualified) :
    s.moveRef r new = (if s.sel.selected = some r then (s.recordRefState r new).setLost
      else s.recordRefState r new).evaluateSelection.dropComparison := by
  have moves : (s.ref r).state ≠ new := fun same => after (same.symm.trans h)
  simp only [State.moveRef, if_neg moves, if_pos h]

end

theorem State.recordRefState_tells (r : RefId) (new : RefState) :
    s.Tells (s.recordRefState r new) [s.ownRecord .refState (datumOf r.code new.code)] [] :=
  (State.note_tells _ _ _).after_silence rfl rfl

theorem State.recordRefState_frame_latched (r : RefId) (new : RefState) :
    s.recordRefState r new = { s.setRef r { s.ref r with state := new } with
      ring := (s.recordRefState r new).ring, ports := s.latched (s.recordRefState r new) } := by
  have ports := (s.recordRefState_tells r new).ports
  obtain ⟨g, p, e⟩ := s.recordRefState_frame r new
  rw [← ports, e]
  rfl

@[simp] theorem State.recordRefState_ref_same (r : RefId) (new : RefState) :
    (s.recordRefState r new).ref r = { s.ref r with state := new } := by
  obtain ⟨g, p, e⟩ := s.recordRefState_frame r new
  rw [e]
  exact PerRef.get_set_same _ _ _

@[simp] theorem State.recordRefState_ref_other (r : RefId) (new : RefState) :
    (s.recordRefState r new).ref r.other = s.ref r.other := by
  obtain ⟨g, p, e⟩ := s.recordRefState_frame r new
  rw [e]
  exact PerRef.get_set_other _ _ (RefId.other_ne r)

/-- A reference rewritten: nothing else moves. -/
theorem State.setRef_frame_latched (r : RefId) (x : Reference) :
    s.setRef r x = { s with refs := (s.setRef r x).refs, ring := (s.setRef r x).ring
                            ports := s.latched (s.setRef r x) } := by
  rw [← (State.Tells.of_eq (s := s) (t := s.setRef r x) rfl rfl).ports]
  rfl

/-- A reference rewritten and its change of state recorded. -/
theorem State.setRef_recordRefState_frame (r : RefId) (x : Reference) (new : RefState) :
    (s.setRef r x).recordRefState r new = { s with
      refs := ((s.setRef r x).recordRefState r new).refs
      ring := ((s.setRef r x).recordRefState r new).ring
      ports := s.latched ((s.setRef r x).recordRefState r new) } := by
  have ports := ((s.setRef r x).recordRefState_tells r new).ports
  obtain ⟨g, p, e⟩ := (s.setRef r x).recordRefState_frame r new
  change _ = s.latched _ at ports
  rw [← ports, e]
  rfl

/-! ### How an edge is taken (R27) -/

section
variable {s : State} {r : RefId} {rising : Bool}

theorem State.takeArrived_of_none (h : (s.ref r).arrived = none) : s.takeArrived r = s := by
  rw [State.takeArrived, h]

theorem exec_pulseEdge (watch : s.watching = true) :
    exec (.pulseEdge r rising) s = .next (s.pulseEdge r rising) :=
  congrArg Host.Outcome.next (if_pos watch)

theorem State.pulseEdge_of_absent (h : (s.ref r).arrived = none) (state : (s.ref r).state = .absent) :
    s.pulseEdge r rising = s.startListen r rising := by
  simp only [State.pulseEdge, State.takeArrived_of_none h, state]

theorem State.pulseEdge_of_learning (h : (s.ref r).arrived = none) (state : (s.ref r).state = .listen)
    (open_ : (s.ref r).polarity = none) : s.pulseEdge r rising = s.learn r s.capture rising := by
  simp only [State.pulseEdge, State.takeArrived_of_none h, state, open_]

theorem State.pulseEdge_of_active (h : (s.ref r).arrived = none) (state : (s.ref r).judging = true)
    (polarity : (s.ref r).polarity = some rising) : s.pulseEdge r rising = s.secondEdge r true := by
  unfold Reference.judging at state
  have active : ((s.ref r).polarity == some rising) = true := by rw [polarity]; exact beq_self_eq_true _
  unfold State.pulseEdge
  simp only [State.takeArrived_of_none h, active]
  split at state <;> simp_all

end

/-! ### Learning (R30, R31) -/

theorem State.firstEdge_startsListening : Claims.FirstEdgeStartsListening := by
  intro s r rising watch arrived state on
  have start : s.startListen r rising = (s.setRef r { s.ref r with
      polarity := none
      learning := ⟨some ⟨s.tb.runClock, rising⟩, none, none⟩
      lossFrom := s.tb.runClock }).recordRefState r .listen := by
    refine State.moveRef_of_plain ?_ ?_ (by decide)
    · rw [State.ref_setRef_same, state]
      decide
    · rw [State.ref_setRef_same, state]
      decide
  rw [exec_pulseEdge watch, State.pulseEdge_of_absent arrived state, start]
  refine ⟨_, rfl, ?_, ?_, ?_, s.setRef_recordRefState_frame _ _ _⟩
  · rw [State.recordRefState_ref_same, State.ref_setRef_same]
  · rw [State.recordRefState_ref_other, State.ref_setRef_other]
  · generalize from_ : s.setRef r _ = u
    have told := (u.recordRefState_tells r .listen).after_silence (s := s)
      (by rw [← from_]; rfl) (by rw [← from_]; rfl)
    have held := told.holds_first on (by simp)
    rw [← from_] at held ⊢
    exact held

/-- The shorter of two levels of different length (R31). -/
theorem shorterLevel_of_ne {a b : LevelSpan} (free : Nat) (h : a.length ≠ b.length) :
    shorterLevel free a b = ⟨if a.length < b.length then a.high else b.high, min a.length b.length⟩ := by
  unfold shorterLevel
  split
  · rename_i less
    rw [Nat.min_eq_left (Nat.le_of_lt less)]
  · rename_i notLess
    have more : b.length < a.length := by omega
    rw [if_pos more, Nat.min_eq_right (Nat.le_of_lt more)]

section
variable {s : State} {r : RefId} {last : SeenEdge} {sh : LevelSpan} {edge : Capture} {high : Bool}

theorem State.endPeriod_of_repeated (short : sh.length < 400000000)
    (h : (s.ref r).learning.shorter = some sh.high) :
    s.endPeriod r last sh edge high = s.decidePolarity r sh.high last edge high := by
  simp [State.endPeriod, short, h]

theorem State.endPeriod_of_first (short : sh.length < 400000000)
    (h : (s.ref r).learning.shorter = none) :
    s.endPeriod r last sh edge high = s.setRef r { s.ref r with
      learning := ⟨some ⟨edge.runClock, high⟩, none, some sh.high⟩ } := by
  simp [State.endPeriod, short, h]

theorem State.endPeriod_of_restart
    (h : 400000000 ≤ sh.length ∨ (s.ref r).learning.shorter = some (!sh.high)) :
    s.endPeriod r last sh edge high = s.setRef r { s.ref r with
      learning := ⟨some ⟨edge.runClock, high⟩, none, none⟩ } := by
  by_cases short : sh.length < 400000000
  · rcases h with long | contrary
    · exact absurd short (by omega)
    · simp [State.endPeriod, short, contrary, Learning.restartedAt]
  · simp [State.endPeriod, short, Learning.restartedAt]

theorem State.learn_of_period {first : LevelSpan} (h : (s.ref r).learning.lastEdge = some last)
    (g : (s.ref r).learning.firstLevel = some first) :
    s.learn r edge high
      = ({ s.setRef r { s.ref r with lossFrom := edge.runClock } with
          freeCount := s.freeCount + 1 }).endPeriod r last
        (shorterLevel s.freeCount first ⟨last.high, edge.runClock - last.runClock⟩) edge high := by
  simp only [State.learn, h, g]
  rfl

/-- The polarity decided in LISTEN: the reference goes to CHECK with REF_STATE (R31). -/
theorem State.decidePolarity_of_listen {edgeHigh : Bool} (state : (s.ref r).state = .listen) :
    s.decidePolarity r high last edge edgeHigh = (s.setRef r { s.ref r with
      polarity := some high
      count := 0
      learning := Learning.empty
      previous := none
      window := none
      two := false
      failed := false
      anchor := if edgeHigh == high then some edge else none
      lossFrom := if edgeHigh == high then edge.runClock else last.runClock }).recordRefState r .check := by
  refine State.moveRef_of_plain ?_ ?_ (by decide)
  · rw [State.ref_setRef_same, state]
    decide
  · rw [State.ref_setRef_same, state]
    decide

end

/-- The end of a period touches the learning reference alone, and records at most its change of state. -/
theorem State.endPeriod_frame (state : (s.ref r).state = .listen) :
    (s.endPeriod r last sh edge high).ref r.other = s.ref r.other
      ∧ s.endPeriod r last sh edge high = { s with
          refs := (s.endPeriod r last sh edge high).refs
          ring := (s.endPeriod r last sh edge high).ring
          ports := s.latched (s.endPeriod r last sh edge high) } := by
  by_cases short : sh.length < 400000000
  · rcases seen : (s.ref r).learning.shorter with _ | h
    · rw [State.endPeriod_of_first short seen]
      exact ⟨State.ref_setRef_other _ _ _, s.setRef_frame_latched _ _⟩
    · by_cases same : h = sh.high
      · rw [State.endPeriod_of_repeated short (same ▸ seen), State.decidePolarity_of_listen state]
        refine ⟨?_, s.setRef_recordRefState_frame _ _ _⟩
        rw [State.recordRefState_ref_other, State.ref_setRef_other]
      · have contrary : h = !sh.high := Bool.eq_not.mpr same
        rw [State.endPeriod_of_restart (.inr (contrary ▸ seen))]
        exact ⟨State.ref_setRef_other _ _ _, s.setRef_frame_latched _ _⟩
  · rw [State.endPeriod_of_restart (.inl (by omega))]
    exact ⟨State.ref_setRef_other _ _ _, s.setRef_frame_latched _ _⟩

theorem State.learningPeriod_decidesPolarity : Claims.LearningPeriodDecidesPolarity := by
  intro s r rising last first watch arrived state undecided seen began level differ high
  have shorter := shorterLevel_of_ne (a := first) (b := ⟨last.high, level⟩) s.freeCount differ
  rw [exec_pulseEdge watch, State.pulseEdge_of_learning arrived state undecided,
    State.learn_of_period seen began, show s.capture.runClock = s.tb.runClock from rfl, shorter]
  generalize from_ : ({ s.setRef r { s.ref r with lossFrom := s.tb.runClock } with
    freeCount := s.freeCount + 1 } : State) = u
  have own : u.ref r = { s.ref r with lossFrom := s.tb.runClock } := by
    rw [← from_]
    exact State.ref_setRef_same _ _ _
  have others : u.ref r.other = s.ref r.other := by
    rw [← from_]
    exact State.ref_setRef_other _ _ _
  have listening : (u.ref r).state = .listen := by rw [own, state]
  have learned : (u.ref r).learning = (s.ref r).learning := by rw [own]
  have frame := State.endPeriod_frame (s := u) (r := r) (last := last) (sh := ⟨high, min first.length level⟩)
    (edge := s.capture) (high := rising) listening
  refine ⟨_, rfl, ?_, ?_, ?_, frame.1.trans others, ?_⟩
  · intro short known
    rw [State.endPeriod_of_repeated short (learned ▸ known), State.decidePolarity_of_listen listening,
      State.recordRefState_ref_same, State.ref_setRef_same, own]
    simp only [beq_iff_eq]
    rfl
  · intro short unknown
    rw [State.endPeriod_of_first short (learned ▸ unknown), State.ref_setRef_same, own]
    rfl
  · intro restart
    rw [State.endPeriod_of_restart (learned ▸ restart), State.ref_setRef_same, own]
    rfl
  · have whole := frame.2
    rw [← from_] at whole ⊢
    exact whole

/-- Settles O7: the first edge in ABSENT starts LISTEN, and each period that ends there decides the polarity, is
remembered or empties the record. -/
theorem lineIsLearnedFromItsFirstEdge : Obligations.LineIsLearnedFromItsFirstEdge :=
  ⟨State.firstEdge_startsListening, State.learningPeriod_decidesPolarity⟩

end Sys2Proof.Machine
end

section
/-! Seconds closed by an edge inside the spacing window: the judgement, what follows it for the reference, the
selection, the Timebase and the comparison (R32 to R37, R41). -/

namespace Sys2Proof.Machine

/-! ### What a pulse can move -/

/-- From one state to another at most `n` records have been written, and nothing has moved outside the
references, the selection, the Timebase and what hears of them. -/
structure State.Disturbs (n : Nat) (s t : State) : Prop where
  few : s.TellsFew n t
  frame : t = { s with
    refs := t.refs, tb := t.tb, due := t.due, sel := t.sel, dist := t.dist, shift := t.shift
    ring := t.ring, ports := t.ports }

section
variable {s t v : State} {n m : Nat}

theorem State.Disturbs.refl (s : State) : s.Disturbs 0 s := ⟨State.TellsFew.none rfl rfl, rfl⟩

theorem State.Disturbs.trans (h : s.Disturbs n t) (g : t.Disturbs m v) : s.Disturbs (n + m) v where
  few := h.few.trans g.few
  frame := by
    have whole := g.frame
    rw [h.frame] at whole
    exact whole

theorem State.Disturbs.mono (h : s.Disturbs n t) (le : n ≤ m) : s.Disturbs m t := by
  obtain ⟨es, ks, told, short⟩ := h.few
  exact ⟨⟨es, ks, told, short.trans le⟩, h.frame⟩

theorem State.Disturbs.latched (h : s.Disturbs n t) : t = { s with
    refs := t.refs, tb := t.tb, due := t.due, sel := t.sel, dist := t.dist, shift := t.shift
    ring := t.ring, ports := s.latched t } := by
  rw [← h.few.ports]
  exact h.frame

theorem State.Disturbs.setRef (r : RefId) (x : Reference) : s.Disturbs 0 (s.setRef r x) :=
  ⟨State.TellsFew.none rfl rfl, rfl⟩

theorem State.Disturbs.withSel (x : Selection) : s.Disturbs 0 (s.withSel x) :=
  ⟨State.TellsFew.none rfl rfl, rfl⟩

theorem State.Disturbs.ref (h : t.refs = s.refs) (r : RefId) : t.ref r = s.ref r := by
  rw [State.ref, State.ref, h]

end

variable (s : State)

/-! ### The pulse report as a whole (R6, R10 to R15) -/

theorem State.pulseReport_cases (capture : Capture) (second : Second) (claim : Nat) :
    s.pulseReport capture second claim = s
      ∨ (∃ t : Timebase, t.alarm = s.tb.alarm
          ∧ s.pulseReport capture second claim = (s.withTb t).classMoved s.cls)
      ∨ ∃ e, s.pulseReport capture second claim = s.stepTime e claim := by
  unfold State.pulseReport State.slew
  simp only
  split
  · exact .inl rfl
  · exact .inr (.inr ⟨_, rfl⟩)
  · split
    · exact .inr (.inl ⟨s.tb.slewed _ _, rfl, rfl⟩)
    · split
      · exact .inr (.inl ⟨s.tb.outlier _ _, rfl, rfl⟩)
      · exact .inr (.inr ⟨_, rfl⟩)
  · split
    · exact .inr (.inl ⟨s.tb.slewed _ _, rfl, rfl⟩)
    · exact .inr (.inr ⟨_, rfl⟩)

theorem State.Disturbs.classMoved (t : Timebase) (alarm : t.alarm = s.tb.alarm) :
    s.Disturbs 1 ((s.withTb t).classMoved s.cls)
      ∧ ((s.withTb t).classMoved s.cls).refs = s.refs ∧ ((s.withTb t).classMoved s.cls).sel = s.sel := by
  have few : s.TellsFew 1 ((s.withTb t).classMoved s.cls) := by
    refine (s.classMoved_tells_from t alarm).few ?_
    unfold State.qualityEntries
    split <;> simp
  obtain ⟨a, x, r, p, e⟩ := (s.withTb t).classMoved_frame s.cls
  exact ⟨⟨few, by rw [e]; rfl⟩, by rw [e]; rfl, by rw [e]; rfl⟩

theorem State.Disturbs.secondBoundary :
    s.Disturbs 2 s.secondBoundary
      ∧ s.secondBoundary.refs = s.refs ∧ s.secondBoundary.sel = s.sel := by
  rcases due : s.due.second with _ | _
  · rw [s.secondBoundary_of_not_due due]
    exact ⟨(State.Disturbs.refl s).mono (by omega), rfl, rfl⟩
  · rw [s.secondBoundary_of_due due]
    obtain ⟨es, ks, told, short, -⟩ := s.boundaryBegun.evaluateSchedule_tells
    have began : s.TellsFew 1 s.boundaryBegun := by
      refine s.boundaryBegun_tells.few ?_
      unfold State.qualityEntries
      split <;> simp
    obtain ⟨t, d, x, r, p, e⟩ := s.boundary_frame
    exact ⟨⟨began.trans (told.few short), by rw [e]⟩, by rw [e], by rw [e]⟩

theorem State.Disturbs.handStepOff (t : Timebase) (kind : Kind) (datum : BitVec 16)
    (alarm : t.alarm = s.tb.alarm) :
    s.Disturbs 3 (s.handStepOff t kind datum)
      ∧ (s.handStepOff t kind datum).refs = s.refs ∧ (s.handStepOff t kind datum).sel = s.sel := by
  obtain ⟨es, ks, told, short, -⟩ := s.handStepOff_tells t kind datum alarm
  have few : s.TellsFew 3 (s.handStepOff t kind datum) := by
    refine told.few ?_
    have quality : (s.qualityEntries (s.handStepOff t kind datum) t.stepStamp).length ≤ 1 := by
      unfold State.qualityEntries
      split <;> simp
    simp only [List.length_append, List.length_singleton]
    omega
  obtain ⟨c, d, x, r, p, e⟩ := s.handStepOff_frame t kind datum
  exact ⟨⟨few, by rw [e]⟩, by rw [e], by rw [e]⟩

theorem State.Disturbs.stepTime (e : Int) (claim : Nat) :
    s.Disturbs 5 (s.stepTime e claim)
      ∧ (s.stepTime e claim).refs = s.refs ∧ (s.stepTime e claim).sel = s.sel := by
  obtain ⟨began, refs, sel⟩ := State.Disturbs.secondBoundary s
  obtain ⟨stepped, refs', sel'⟩ := State.Disturbs.handStepOff s.secondBoundary
    (s.secondBoundary.tb.stepped e claim) .timeStep (stepDatum e) rfl
  exact ⟨began.trans stepped, refs'.trans refs, sel'.trans sel⟩

/-- A pulse report leaves the references and the selection alone. -/
theorem State.Disturbs.pulseReport (capture : Capture) (second : Second) (claim : Nat) :
    s.Disturbs 5 (s.pulseReport capture second claim)
      ∧ (s.pulseReport capture second claim).refs = s.refs
      ∧ (s.pulseReport capture second claim).sel = s.sel := by
  rcases s.pulseReport_cases capture second claim with e | ⟨t, alarm, e⟩ | ⟨d, e⟩ <;> rw [e]
  · exact ⟨(State.Disturbs.refl s).mono (by omega), rfl, rfl⟩
  · obtain ⟨moved, kept⟩ := State.Disturbs.classMoved s t alarm
    exact ⟨moved.mono (by omega), kept⟩
  · exact State.Disturbs.stepTime s d claim

/-! ### The selection and the comparison (R39 to R42) -/

theorem State.Disturbs.evaluateSelection :
    s.Disturbs 1 s.evaluateSelection ∧ s.evaluateSelection.refs = s.refs := by
  have few : s.TellsFew 1 s.evaluateSelection := by
    refine s.evaluateSelection_tells.few ?_
    split <;> simp
  obtain ⟨t, x, r, p, e⟩ := s.evaluateSelection_moves
  exact ⟨⟨few, by rw [e]⟩, by rw [e]⟩

/-- A change of the disagreement flag writes DISAGREE and leaves the references and the choice alone (R42). -/
theorem State.Disturbs.moveDisagree (flag : Bool) :
    s.Disturbs 1 (s.moveDisagree flag) ∧ (s.moveDisagree flag).refs = s.refs
      ∧ (s.moveDisagree flag).sel
        = { s.sel with disagree := flag, disagreeCount := 0, agreeCount := 0 } := by
  have told : s.Tells (s.moveDisagree flag)
      [s.ownRecord .disagree (BitVec.ofNat 16 flag.toNat)] [.ref] :=
    ((State.note_tells _ _ _).trans (State.raiseAll_tells _ _)).after_silence rfl rfl
  obtain ⟨r, p, e⟩ := s.moveDisagree_frame flag
  exact ⟨⟨told.few (by simp), by rw [e]⟩, by rw [e], by rw [e]⟩

/-- The judgement of a pair writes at most DISAGREE and REF_SELECT; while the flag is clear it leaves the
selection as it is. -/
theorem State.Disturbs.judgePair (agrees naming : Bool) :
    s.Disturbs 2 (s.judgePair agrees naming) ∧ (s.judgePair agrees naming).refs = s.refs
      ∧ (s.sel.disagree = false → (s.judgePair agrees naming).sel.selected = s.sel.selected) := by
  have counted (x : Selection) (same : x.selected = s.sel.selected) :
      s.Disturbs 2 (s.withSel x) ∧ (s.withSel x).refs = s.refs
        ∧ (s.sel.disagree = false → (s.withSel x).sel.selected = s.sel.selected) :=
    ⟨(State.Disturbs.withSel x).mono (by omega), rfl, fun _ => same⟩
  unfold State.judgePair
  split
  · rename_i flagged
    split
    · split
      · obtain ⟨cleared, refs, -⟩ := State.Disturbs.moveDisagree s false
        obtain ⟨chosen, refs'⟩ := State.Disturbs.evaluateSelection (s.moveDisagree false)
        exact ⟨cleared.trans chosen, refs'.trans refs, fun clear => absurd (clear.symm.trans flagged) (by simp)⟩
      · exact counted _ rfl
    · exact counted _ rfl
  · split
    · exact counted _ rfl
    · split
      · obtain ⟨set, refs, sel⟩ := State.Disturbs.moveDisagree s true
        exact ⟨set.mono (by omega), refs, fun _ => by rw [sel]⟩
      · exact counted _ rfl

theorem State.Disturbs.dropUnpaired :
    s.Disturbs 2 s.dropUnpaired ∧ s.dropUnpaired.refs = s.refs
      ∧ (s.sel.disagree = false → s.dropUnpaired.sel.selected = s.sel.selected) := by
  obtain ⟨judged, refs, sel⟩ :=
    State.Disturbs.judgePair (s.withSel { s.sel with unpaired := none }) false false
  exact ⟨(State.Disturbs.withSel _).trans judged, refs, sel⟩

/-- The comparison of a mark leaves the references alone, and while the flag is clear the selection too. -/
theorem State.Disturbs.comparePulse (m : Mark) :
    s.Disturbs 2 (s.comparePulse m) ∧ (s.comparePulse m).refs = s.refs
      ∧ (s.sel.disagree = false → (s.comparePulse m).sel.selected = s.sel.selected) := by
  unfold State.comparePulse
  split
  · split
    · exact ⟨(State.Disturbs.withSel _).mono (by omega), rfl, fun _ => rfl⟩
    · split
      · rename_i o _ _
        obtain ⟨judged, refs, sel⟩ := State.Disturbs.judgePair
          (s.withSel { s.sel with unpaired := none, lastDifference := pairDifference o m }) _ _
        exact ⟨(State.Disturbs.withSel _).trans judged, refs, sel⟩
      · obtain ⟨dropped, refs, sel⟩ := State.Disturbs.dropUnpaired s
        exact ⟨dropped.trans (State.Disturbs.withSel _), refs, sel⟩
  · exact ⟨(State.Disturbs.refl s).mono (by omega), rfl, fun _ => rfl⟩

theorem State.Disturbs.dropComparison :
    s.Disturbs 2 s.dropComparison ∧ s.dropComparison.refs = s.refs := by
  unfold State.dropComparison
  simp only
  split
  · obtain ⟨cleared, refs, -⟩ := State.Disturbs.moveDisagree
      (s.withSel { s.sel with unpaired := none, disagreeCount := 0, agreeCount := 0 }) false
    obtain ⟨chosen, refs'⟩ := State.Disturbs.evaluateSelection _
    exact ⟨(State.Disturbs.withSel _).trans (cleared.trans chosen), refs'.trans refs⟩
  · exact ⟨(State.Disturbs.withSel _).mono (by omega), rfl⟩

/-- A mark of a reference that is not QUALIFIED is compared with nothing (R41). -/
theorem State.comparePulse_of_not_qualified {r : RefId} {m : Mark} (h : (s.ref r).qualified = false) :
    s.comparePulse m = s := by
  have lacking : ((s.ref .ref1).qualified && (s.ref .ref2).qualified) = false := by
    cases r
    · rw [h, Bool.false_and]
    · rw [h, Bool.and_false]
  rw [State.comparePulse, lacking]
  rfl

/-! ### The choice is a QUALIFIED reference (R39) -/

theorem State.freshChoice_qualified {r : RefId} (h : s.freshChoice = some r) :
    (s.ref r).qualified = true := by
  rw [State.freshChoice_eq] at h
  split at h
  · rename_i both
    obtain ⟨one, two⟩ := Bool.and_eq_true_iff.1 both
    cases r
    · exact one
    · exact two
  · split at h
    · rename_i one
      obtain rfl := Option.some.inj h
      exact one
    · split at h
      · rename_i two
        obtain rfl := Option.some.inj h
        exact two
      · simp at h

theorem State.autoChoice_qualified {r : RefId} (h : s.autoChoice = some r) :
    (s.ref r).qualified = true := by
  rcases held : s.sel.selected with _ | p
  · rw [s.autoChoice_of_none held] at h
    exact s.freshChoice_qualified h
  · rw [s.autoChoice_of_some held] at h
    split at h
    · rename_i own
      split at h
      · rename_i better
        obtain rfl := Option.some.inj h
        exact (Bool.and_eq_true_iff.1 (Bool.and_eq_true_iff.1 better).1).1
      · obtain rfl := Option.some.inj h
        exact own
    · exact s.freshChoice_qualified h

theorem State.choice_qualified {r : RefId} (h : s.choice = some r) : (s.ref r).qualified = true := by
  have chosen (p : RefId) (c : (if (s.ref p).qualified then some p else none) = some r) :
      (s.ref r).qualified = true := by
    split at c
    · rename_i own
      obtain rfl := Option.some.inj c
      exact own
    · simp at c
  rcases mode : s.sel.mode
  · rw [s.choice_of_auto mode] at h
    exact s.autoChoice_qualified h
  · rw [s.choice_of_ref1 mode] at h
    exact chosen .ref1 h
  · rw [s.choice_of_ref2 mode] at h
    exact chosen .ref2 h
  · rw [s.choice_of_none mode] at h
    simp at h

/-! ### A reference that leaves QUALIFIED (R30, R43) -/

/-- The reference is not selected, and every port's latch is set. -/
def State.Dropped (s : State) (r : RefId) : Prop :=
  s.sel.selected ≠ some r ∧ ∀ q, s.sel.lost.get q = true

section
variable {s : State} {r : RefId}

theorem State.evaluateSelection_lost (h : ∀ q, s.sel.lost.get q = true) (q : Port) :
    s.evaluateSelection.sel.lost.get q = true := by
  by_cases same : s.choice = s.sel.selected
  · rw [s.evaluateSelection_of_same same]
    exact h q
  · rw [s.evaluateSelection_of_change same]
    have kept : (s.recordSelection s.choice).sel.lost.get q = true := by
      rw [State.recordSelection_lost]
      exact h q
    unfold State.selectionMoved
    repeat' split
    all_goals first
      | exact kept
      | exact PerPort.get_all _ _

theorem State.evaluateSelection_drops (lacking : (s.ref r).qualified = false)
    (lost : ∀ q, s.sel.lost.get q = true) : s.evaluateSelection.Dropped r := by
  refine ⟨fun chosen => ?_, State.evaluateSelection_lost lost⟩
  rw [State.evaluateSelection_selected] at chosen
  rw [s.choice_qualified chosen] at lacking
  contradiction

theorem State.dropComparison_drops (lacking : (s.ref r).qualified = false) (h : s.Dropped r) :
    s.dropComparison.Dropped r := by
  unfold State.dropComparison
  simp only
  split
  · obtain ⟨-, refs, sel⟩ := State.Disturbs.moveDisagree
      (s.withSel { s.sel with unpaired := none, disagreeCount := 0, agreeCount := 0 }) false
    refine State.evaluateSelection_drops ?_ ?_
    · rw [State.Disturbs.ref refs]
      exact lacking
    · rw [sel]
      exact h.2
  · exact h

/-- The selected reference that leaves QUALIFIED is selected no more, and every port's latch is set. -/
theorem State.moveRef_drops {new : RefState} (state : (s.ref r).state = .qualified)
    (after : new ≠ .qualified) (selected : s.sel.selected = some r) : (s.moveRef r new).Dropped r := by
  rw [State.moveRef_of_leaving state after, if_pos selected]
  have lacking : ((s.recordRefState r new).setLost.ref r).qualified = false := by
    rw [show (s.recordRefState r new).setLost.ref r = (s.recordRefState r new).ref r from rfl,
      State.recordRefState_ref_same]
    exact decide_eq_false after
  refine State.dropComparison_drops ?_ (State.evaluateSelection_drops lacking fun q => PerPort.get_all _ _)
  rw [State.Disturbs.ref (State.Disturbs.evaluateSelection _).2]
  exact lacking

end

/-! ### A change of a reference's state, as a whole (R30) -/

section
variable {s : State} {r : RefId} {new : RefState}

@[simp] theorem State.moveRef_ref_same : (s.moveRef r new).ref r = { s.ref r with state := new } := by
  obtain ⟨t, x, g, p, e⟩ := s.moveRef_frame r new
  rw [e]
  exact PerRef.get_set_same _ _ _

@[simp] theorem State.moveRef_ref_other : (s.moveRef r new).ref r.other = s.ref r.other := by
  obtain ⟨t, x, g, p, e⟩ := s.moveRef_frame r new
  rw [e]
  exact PerRef.get_set_other _ _ (RefId.other_ne r)

/-- What comes after REF_STATE in a move. -/
theorem State.recordRefState_then_moveRef (moves : (s.ref r).state ≠ new) :
    (s.recordRefState r new).Disturbs 3 (s.moveRef r new) := by
  by_cases leaving : (s.ref r).state = .qualified
  · rw [State.moveRef_of_leaving leaving fun same => moves (leaving.trans same.symm)]
    have latched : (s.recordRefState r new).Disturbs 0
        (if s.sel.selected = some r then (s.recordRefState r new).setLost else s.recordRefState r new) := by
      split
      · exact State.Disturbs.withSel _
      · exact State.Disturbs.refl _
    exact (latched.trans (State.Disturbs.evaluateSelection _).1).trans (State.Disturbs.dropComparison _).1
  · by_cases qualifying : new = .qualified
    · rw [qualifying, State.moveRef_of_qualifying leaving]
      exact (State.Disturbs.evaluateSelection _).1.mono (by omega)
    · rw [State.moveRef_of_plain moves leaving qualifying]
      exact (State.Disturbs.refl _).mono (by omega)

theorem State.Disturbs.moveRef (r : RefId) (new : RefState) : s.Disturbs 4 (s.moveRef r new) := by
  by_cases same : (s.ref r).state = new
  · rw [State.moveRef_of_same same]
    exact (State.Disturbs.refl s).mono (by omega)
  · obtain ⟨t, x, g, p, e⟩ := s.moveRef_frame r new
    exact ⟨((s.recordRefState_tells r new).few (n := 1) (by simp)).trans
      (State.recordRefState_then_moveRef same).few, by rw [e]⟩

/-- A move writes its REF_STATE first, and the record outlasts what follows in the cycle. -/
theorem State.moveRef_holds {v : State} {n : Nat} (moves : (s.ref r).state ≠ new)
    (later : (s.moveRef r new).Disturbs n v) (short : n ≤ 1000) (on : s.ring.started = true) :
    v.ring.holds s.ring.next (s.ownRecord .refState (datumOf r.code new.code)) :=
  (s.recordRefState_tells r new).holds_then_few
    ((State.recordRefState_then_moveRef moves).few.trans later.few) on
    (by simp only [List.length_nil]; omega)

end

/-! ### A failed and a consistent second (R33 to R37) -/

section
variable {s : State} {r : RefId} {m : MessageInfo}

theorem State.failSecond_setRef (x : Reference) (c : FailCause) :
    (s.setRef r x).failSecond r c
      = (s.setRef r { x with lastFailure := some c, count := 0 }).moveRef r .check := by
  rw [State.failSecond, State.ref_setRef_same, State.setRef_setRef]

theorem State.passSecond_of_moves (moves : (s.ref r).state ≠ (s.ref r).stateAfterPass m.clean) :
    s.passSecond r m = (s.setRef r { s.ref r with
      claim := some m.claim, count := (s.ref r).countAfterPass }).moveRef r
        ((s.ref r).stateAfterPass m.clean) := by
  rw [State.passSecond]
  simp only
  rw [if_neg fun both => moves (both.1.trans both.2.symm)]

theorem State.passSecond_of_stays (stays : (s.ref r).stateAfterPass m.clean = (s.ref r).state) :
    s.passSecond r m =
      if (s.ref r).state = .qualified ∧ (s.ref r).claim ≠ some m.claim then
        (s.setRef r { s.ref r with
          claim := some m.claim, count := (s.ref r).countAfterPass }).evaluateSelection
      else s.setRef r { s.ref r with claim := some m.claim, count := (s.ref r).countAfterPass } := by
  rw [State.passSecond]
  simp only
  rw [stays]
  by_cases state : (s.ref r).state = .qualified
  · simp only [state, and_self, true_and, if_true, ne_eq, ite_not]
  · rw [if_neg (fun both => state both.1), if_neg (fun both => state both.1),
      State.moveRef_of_same (by rw [State.ref_setRef_same])]

/-- A consistent second leaves the reference with its claim, its count and the state these lead to. -/
theorem State.passSecond_ref_same : (s.passSecond r m).ref r = { s.ref r with
    claim := some m.claim, count := (s.ref r).countAfterPass
    state := (s.ref r).stateAfterPass m.clean } := by
  by_cases stays : (s.ref r).stateAfterPass m.clean = (s.ref r).state
  · rw [State.passSecond_of_stays stays, stays]
    split
    · rw [State.Disturbs.ref (State.Disturbs.evaluateSelection _).2, State.ref_setRef_same]
    · rw [State.ref_setRef_same]
  · rw [State.passSecond_of_moves (Ne.symm stays), State.moveRef_ref_same, State.ref_setRef_same]

theorem State.passSecond_ref_other : (s.passSecond r m).ref r.other = s.ref r.other := by
  by_cases stays : (s.ref r).stateAfterPass m.clean = (s.ref r).state
  · rw [State.passSecond_of_stays stays]
    split
    · rw [State.Disturbs.ref (State.Disturbs.evaluateSelection _).2, State.ref_setRef_other]
    · rw [State.ref_setRef_other]
  · rw [State.passSecond_of_moves (Ne.symm stays), State.moveRef_ref_other, State.ref_setRef_other]

theorem State.Disturbs.passSecond : s.Disturbs 4 (s.passSecond r m) := by
  by_cases stays : (s.ref r).stateAfterPass m.clean = (s.ref r).state
  · rw [State.passSecond_of_stays stays]
    split
    · exact ((State.Disturbs.setRef _ _).trans (State.Disturbs.evaluateSelection _).1).mono (by omega)
    · exact (State.Disturbs.setRef _ _).mono (by omega)
  · rw [State.passSecond_of_moves (Ne.symm stays)]
    exact (State.Disturbs.setRef _ _).trans (State.Disturbs.moveRef _ _)

end

end Sys2Proof.Machine
end

section
/-! The edge that closes a second, in CHECK and in QUALIFIED or UNSYNCED: O8 and O9 (R32 to R37, R39 to R41,
R43). -/

namespace Sys2Proof.Machine

/-! ### The edge that closes a second (R32) -/

/-- The edge that reference `r` takes now closes the second that `a` anchors: it is active, it lies inside the
spacing window, and the second has not failed yet. -/
structure State.Closes (s : State) (r : RefId) (rising : Bool) (a : Capture) : Prop where
  arrived : (s.ref r).arrived = none
  judging : (s.ref r).judging = true
  polarity : (s.ref r).polarity = some rising
  anchor : (s.ref r).anchor = some a
  sound : (s.ref r).failed = false
  early : a.runClock + 1000000000 ≤ s.tb.runClock + s.settings.working.spacingTolerance * 1000
  late : s.tb.runClock ≤ a.runClock + 1000000000 + s.settings.working.spacingTolerance * 1000

/-- The reference with the second closed by `edge` and the next one opened. -/
def Reference.closedBy (x : Reference) (edge : Capture) : Reference :=
  { x with
    lossFrom := edge.runClock
    anchor := some edge
    window := none
    two := false
    previous := x.previousAfter }

theorem Reference.openSecond_of_sound {x : Reference} (edge : Capture) (h : x.failed = false) :
    ({ x with lossFrom := edge.runClock } : Reference).openSecond (some edge) = x.closedBy edge := by
  unfold Reference.openSecond Reference.closedBy
  rw [h]
  rfl

/-- The judgement of R33, as its table reads. -/
theorem Reference.judgement_eq (x : Reference) :
    x.judgement = match x.window with
      | none => some .noMessage
      | some w =>
        if x.two then some .twoMessages
        else if w.fault.isSome then w.fault
        else if x.previous = some (w.info.second - 1) then none
        else some .discontinuous := by
  unfold Reference.judgement
  rcases x.window with _ | w
  · rfl
  · rcases fault : w.fault with _ | c
    · rcases x.previous with _ | p
      · simp [fault]
      · have follows : some p = some (w.info.second - 1) ↔ w.info.second = p + 1 := by
          rw [Option.some_inj, BitVec.eq_sub_iff_add_eq, eq_comm]
        simp only [fault, follows, Option.isSome_none, Bool.false_eq_true, if_false]
    · simp [fault]

theorem Reference.window_of_passing {x : Reference} (h : x.judgement = none) : ∃ w, x.window = some w := by
  rcases seen : x.window with _ | w
  · rw [Reference.judgement_eq, seen] at h
    simp at h
  · exact ⟨w, rfl⟩

section
variable {s : State} {r : RefId} {rising : Bool} {a : Capture}

theorem State.placeEdge_of_inside {edge : Capture} (anchor : (s.ref r).anchor = some a)
    (inside : a.runClock + 1000000000 ≤ edge.runClock + s.settings.working.spacingTolerance * 1000) :
    s.placeEdge r edge = s.closeSecond r edge := by
  rw [State.placeEdge, anchor]
  refine if_neg ?_
  rw [Config.second_eq]
  omega

theorem State.failLate_of_inside (anchor : (s.ref r).anchor = some a)
    (inside : s.tb.runClock ≤ a.runClock + 1000000000 + s.settings.working.spacingTolerance * 1000) :
    s.failLate r = s := by
  have undue : s.latePulseDue r = false := by
    unfold State.latePulseDue
    rw [anchor]
    refine Bool.and_eq_false_iff.2 (.inr (decide_eq_false ?_))
    rw [Config.second_eq]
    omega
  rw [State.failLate, undue]
  rfl

/-- The edge restarts the loss timer and closes the second. -/
theorem State.Closes.run (h : s.Closes r rising a) :
    s.pulseEdge r rising
      = (s.setRef r { s.ref r with lossFrom := s.tb.runClock }).closeSecond r s.capture := by
  rw [State.pulseEdge_of_active h.arrived h.judging h.polarity, State.secondEdge, if_pos rfl]
  simp only [State.failLate_of_inside h.anchor h.late]
  refine State.placeEdge_of_inside (a := a) ?_ h.early
  rw [State.ref_setRef_same]
  exact h.anchor

theorem State.closeSecond_of_failing {edge : Capture} {c : FailCause} (sound : (s.ref r).failed = false)
    (judged : (s.ref r).judgement = some c) :
    s.closeSecond r edge = (s.setRef r ((s.ref r).openSecond (some edge))).failSecond r c := by
  simp [State.closeSecond, sound, judged]

theorem State.closeSecond_of_passing {edge : Capture} {w : WindowMessage} (sound : (s.ref r).failed = false)
    (judged : (s.ref r).judgement = none) (window : (s.ref r).window = some w) :
    s.closeSecond r edge
      = (((s.setRef r ((s.ref r).openSecond (some edge))).passSecond r w.info).reportPulse r edge
          w.info).comparePulse ⟨r, w.info.second, edge.runClock⟩ := by
  simp [State.closeSecond, sound, judged, window]

/-- The second of the reference with its loss timer restarted, closed and the next one opened. -/
theorem State.Closes.opened (h : s.Closes r rising a) :
    (s.setRef r { s.ref r with lossFrom := s.tb.runClock }).setRef r
        (((s.setRef r { s.ref r with lossFrom := s.tb.runClock }).ref r).openSecond (some s.capture))
      = s.setRef r ((s.ref r).closedBy s.capture) := by
  rw [State.ref_setRef_same, State.setRef_setRef, ← Reference.openSecond_of_sound _ h.sound]
  rfl

/-- A second with a cause of failure. -/
theorem State.Closes.fails (h : s.Closes r rising a) {c : FailCause}
    (judged : (s.ref r).judgement = some c) :
    s.pulseEdge r rising = (s.setRef r { (s.ref r).closedBy s.capture with
      lastFailure := some c, count := 0 }).moveRef r .check := by
  rw [h.run, State.closeSecond_of_failing (c := c), h.opened, State.failSecond_setRef]
  · rw [State.ref_setRef_same]
    exact h.sound
  · rw [State.ref_setRef_same]
    exact judged

/-- A consistent second: the claim and the state, then the report, then the comparison (R36). -/
theorem State.Closes.passes (h : s.Closes r rising a) {w : WindowMessage}
    (judged : (s.ref r).judgement = none) (window : (s.ref r).window = some w) :
    s.pulseEdge r rising
      = (((s.setRef r ((s.ref r).closedBy s.capture)).passSecond r w.info).reportPulse r s.capture
          w.info).comparePulse ⟨r, w.info.second, s.tb.runClock⟩ := by
  rw [h.run, State.closeSecond_of_passing (w := w), h.opened]
  · rfl
  · rw [State.ref_setRef_same]
    exact h.sound
  · rw [State.ref_setRef_same]
    exact judged
  · rw [State.ref_setRef_same]
    exact window

end

/-! ### The report and the comparison after the state (R36, R37, R41) -/

section
variable {s : State} {r : RefId} {m : MessageInfo} {edge : Capture} {mark : Mark}

theorem State.reportPulse_of_other (h : ¬ (s.sel.selected = some r ∧ (s.ref r).qualified = true)) :
    s.reportPulse r edge m = s := by
  rw [State.reportPulse, if_neg h]

theorem State.reportPulse_of_selected (selected : s.sel.selected = some r)
    (state : (s.ref r).state = .qualified) :
    s.reportPulse r edge m = s.pulseReport edge m.second m.claim := by
  rw [State.reportPulse, if_pos ⟨selected, decide_eq_true state⟩]

theorem State.Disturbs.reportPulse :
    s.Disturbs 5 (s.reportPulse r edge m) ∧ (s.reportPulse r edge m).refs = s.refs
      ∧ (s.reportPulse r edge m).sel = s.sel := by
  unfold State.reportPulse
  split
  · exact State.Disturbs.pulseReport s edge m.second m.claim
  · exact ⟨(State.Disturbs.refl s).mono (by omega), rfl, rfl⟩

/-- What follows a consistent second leaves the references alone, and while the flag is clear the selection
too. -/
theorem State.Disturbs.reported :
    s.Disturbs 7 ((s.reportPulse r edge m).comparePulse mark)
      ∧ ((s.reportPulse r edge m).comparePulse mark).refs = s.refs
      ∧ (s.sel.disagree = false →
          ((s.reportPulse r edge m).comparePulse mark).sel.selected = s.sel.selected) := by
  obtain ⟨told, refs, sel⟩ := State.Disturbs.reportPulse (s := s) (r := r) (m := m) (edge := edge)
  obtain ⟨compared, refs', kept⟩ := State.Disturbs.comparePulse (s.reportPulse r edge m) mark
  refine ⟨told.trans compared, refs'.trans refs, fun clear => ?_⟩
  rw [kept (by rw [sel]; exact clear), sel]

/-- A reference that is not QUALIFIED reports nothing and is compared with nothing. -/
theorem State.reported_of_not_qualified (h : (s.ref r).state ≠ .qualified) :
    (s.reportPulse r edge m).comparePulse mark = s := by
  have lacking : (s.ref r).qualified = false := decide_eq_false h
  rw [State.reportPulse_of_other (by simp [lacking]), State.comparePulse_of_not_qualified s lacking]

end

/-! ### What any closed second does -/

section
variable {s : State} {r : RefId} {rising : Bool} {a : Capture}

theorem State.Closes.disturbs (h : s.Closes r rising a) : s.Disturbs 11 (s.pulseEdge r rising) := by
  rcases judged : (s.ref r).judgement with _ | c
  · obtain ⟨w, window⟩ := Reference.window_of_passing judged
    rw [h.passes judged window]
    exact ((State.Disturbs.setRef _ _).trans State.Disturbs.passSecond).trans State.Disturbs.reported.1
  · rw [h.fails judged]
    exact ((State.Disturbs.setRef _ _).trans (State.Disturbs.moveRef _ _)).mono (by omega)

theorem State.Closes.ref_other (h : s.Closes r rising a) :
    (s.pulseEdge r rising).ref r.other = s.ref r.other := by
  rcases judged : (s.ref r).judgement with _ | c
  · obtain ⟨w, window⟩ := Reference.window_of_passing judged
    rw [h.passes judged window, State.Disturbs.ref State.Disturbs.reported.2.1, State.passSecond_ref_other,
      State.ref_setRef_other]
  · rw [h.fails judged, State.moveRef_ref_other, State.ref_setRef_other]

theorem State.Closes.ref_of_failing (h : s.Closes r rising a) {c : FailCause}
    (judged : (s.ref r).judgement = some c) :
    (s.pulseEdge r rising).ref r = { (s.ref r).closedBy s.capture with
      state := .check, count := 0, lastFailure := some c } := by
  rw [h.fails judged, State.moveRef_ref_same, State.ref_setRef_same]

theorem State.Closes.ref_of_passing (h : s.Closes r rising a) {w : WindowMessage}
    (judged : (s.ref r).judgement = none) (window : (s.ref r).window = some w) :
    (s.pulseEdge r rising).ref r = { (s.ref r).closedBy s.capture with
      claim := some w.info.claim
      count := (s.ref r).countAfterPass
      state := (s.ref r).stateAfterPass w.info.clean } := by
  rw [h.passes judged window, State.Disturbs.ref State.Disturbs.reported.2.1, State.passSecond_ref_same,
    State.ref_setRef_same]
  rfl

/-- A closed second that moves the state is a move of the reference, and what follows it is a report and a
comparison, which a reference that is not QUALIFIED has not. -/
theorem State.Closes.moves (h : s.Closes r rising a)
    (moves : ((s.pulseEdge r rising).ref r).state ≠ (s.ref r).state) :
    ∃ y : Reference, y.state = (s.ref r).state
      ∧ ((s.setRef r y).moveRef r ((s.pulseEdge r rising).ref r).state).Disturbs 7 (s.pulseEdge r rising)
      ∧ (((s.pulseEdge r rising).ref r).state ≠ .qualified →
          s.pulseEdge r rising
            = (s.setRef r y).moveRef r ((s.pulseEdge r rising).ref r).state) := by
  rcases judged : (s.ref r).judgement with _ | c
  · obtain ⟨w, window⟩ := Reference.window_of_passing judged
    have new : ((s.pulseEdge r rising).ref r).state = (s.ref r).stateAfterPass w.info.clean := by
      rw [h.ref_of_passing judged window]
    have own : (s.setRef r ((s.ref r).closedBy s.capture)).ref r = (s.ref r).closedBy s.capture :=
      State.ref_setRef_same _ _ _
    have passed : (s.setRef r ((s.ref r).closedBy s.capture)).passSecond r w.info
        = (s.setRef r { (s.ref r).closedBy s.capture with
            claim := some w.info.claim, count := (s.ref r).countAfterPass }).moveRef r
              ((s.ref r).stateAfterPass w.info.clean) := by
      rw [State.passSecond_of_moves (by rw [own]; exact fun same => moves (new.trans same.symm)), own,
        State.setRef_setRef]
      rfl
    rw [new]
    have run := h.passes judged window
    rw [passed] at run
    refine ⟨{ (s.ref r).closedBy s.capture with
      claim := some w.info.claim, count := (s.ref r).countAfterPass }, rfl, ?_, fun outside => ?_⟩
    · rw [run]
      exact State.Disturbs.reported.1
    rw [run]
    refine State.reported_of_not_qualified ?_
    rw [State.moveRef_ref_same]
    exact outside
  · have new : ((s.pulseEdge r rising).ref r).state = .check := by
      rw [h.ref_of_failing judged]
    rw [new]
    refine ⟨{ (s.ref r).closedBy s.capture with lastFailure := some c, count := 0 }, rfl, ?_,
      fun _ => h.fails judged⟩
    rw [h.fails judged]
    exact (State.Disturbs.refl _).mono (by omega)

/-- A consistent second that leaves a reference outside QUALIFIED as it is moves that reference alone. -/
theorem State.Closes.passes_quietly (h : s.Closes r rising a) {w : WindowMessage}
    (judged : (s.ref r).judgement = none) (window : (s.ref r).window = some w)
    (stays : (s.ref r).stateAfterPass w.info.clean = (s.ref r).state)
    (outside : (s.ref r).state ≠ .qualified) :
    s.pulseEdge r rising = s.setRef r { (s.ref r).closedBy s.capture with
      claim := some w.info.claim, count := (s.ref r).countAfterPass } := by
  have own : (s.setRef r ((s.ref r).closedBy s.capture)).ref r = (s.ref r).closedBy s.capture :=
    State.ref_setRef_same _ _ _
  have passed : (s.setRef r ((s.ref r).closedBy s.capture)).passSecond r w.info
      = s.setRef r { (s.ref r).closedBy s.capture with
          claim := some w.info.claim, count := (s.ref r).countAfterPass } := by
    rw [State.passSecond_of_stays (by rw [own]; exact stays), own, State.setRef_setRef,
      if_neg fun both => outside both.1]
    rfl
  rw [h.passes judged window, passed, State.reported_of_not_qualified]
  rw [State.ref_setRef_same]
  exact outside

end

/-! ### In CHECK (R33, R34) -/

theorem MessageInfo.clean_iff (m : MessageInfo) :
    m.clean = true ↔ 1 ≤ m.claim ∧ m.claim ≤ 5 ∧ m.flags.getLsbD 0 = false := by
  simp [MessageInfo.clean, and_assoc]

section
variable {x : Reference} {clean : Bool}

theorem Reference.stateAfterPass_of_few (state : x.state = .check) (few : x.count + 1 < 3) :
    x.stateAfterPass clean = .check := by
  simp only [Reference.stateAfterPass, state]
  exact if_neg (by omega)

theorem Reference.stateAfterPass_of_third (state : x.state = .check) (third : x.count = 2) :
    x.stateAfterPass clean = if clean then .qualified else .unsynced := by
  simp only [Reference.stateAfterPass, state, third]
  rfl

theorem Reference.stateAfterPass_of_checked (state : x.state = .qualified ∨ x.state = .unsynced) :
    x.stateAfterPass clean = if clean then .qualified else .unsynced := by
  rcases state with state | state <;> simp only [Reference.stateAfterPass, state]

theorem Reference.countAfterPass_of_check (state : x.state = .check) : x.countAfterPass = x.count + 1 :=
  if_pos state

theorem Reference.countAfterPass_of_other (state : x.state ≠ .check) : x.countAfterPass = x.count :=
  if_neg state

end

/-- Settles O8: the judgement is that of R33, and a reference that stays in CHECK is all that moves. -/
theorem secondClosedInCheckIsJudged : Obligations.SecondClosedInCheckIsJudged := by
  intro s r rising a watch arrived state polarity anchor sound tolerance early late x cause next
  have closes : s.Closes r rising a :=
    ⟨arrived, by unfold Reference.judging; rw [state], polarity, anchor, sound, early, late⟩
  have judged : x.judgement = cause := x.judgement_eq
  rw [exec_pulseEdge watch]
  refine ⟨_, rfl, ?_, ?_, ?_, closes.ref_other⟩
  · intro c failed
    have run := closes.fails (judged.trans failed)
    rw [State.moveRef_of_same (by rw [State.ref_setRef_same]; exact state)] at run
    rw [run, State.ref_setRef_same]
    exact ⟨rfl, rfl⟩
  · intro w window passed few
    have stays := Reference.stateAfterPass_of_few (clean := w.info.clean) state few
    rw [closes.passes_quietly (judged.trans passed) window (stays.trans state.symm) (by rw [state]; decide),
      State.ref_setRef_same, Reference.countAfterPass_of_check state]
    exact ⟨rfl, rfl⟩
  · intro w window passed two
    rw [closes.ref_of_passing (judged.trans passed) window, Reference.countAfterPass_of_check state,
      Reference.stateAfterPass_of_third state two, ← MessageInfo.clean_iff]
    refine ⟨congrArg (· + 1) two, rfl, ?_, ?_⟩
    · cases w.info.clean <;> simp
    · cases w.info.clean <;> simp

/-! ### In QUALIFIED and UNSYNCED (R35 to R37) -/

theorem State.consistentSecond_reportsPulse : Claims.ConsistentSecondReportsPulse := by
  intro s r rising a w watch arrived state polarity anchor sound tolerance early late window single flawless
    follows clean claimed selected edge judged
  have closes : s.Closes r rising a :=
    ⟨arrived, by unfold Reference.judging; rw [state], polarity, anchor, sound, early, late⟩
  have consistent : (s.ref r).judgement = none := by
    rw [Reference.judgement_eq, window]
    simp only [single, flawless, follows]
    rfl
  have closed : s.setRef r ((s.ref r).closedBy s.capture) = judged := by
    refine congrArg (s.setRef r) ?_
    simp [Reference.closedBy, Reference.previousAfter, window, flawless, single]
    exact ⟨rfl, rfl⟩
  have own : judged.ref r = { s.ref r with
      lossFrom := s.tb.runClock
      anchor := some edge
      window := none
      previous := some w.info.second } := State.ref_setRef_same _ _ _
  have qualified : (judged.ref r).state = .qualified := by rw [own, state]
  have unchanged : (judged.ref r).claim = some w.info.claim := by rw [own, claimed]
  have stays : (judged.ref r).stateAfterPass w.info.clean = (judged.ref r).state := by
    rw [Reference.stateAfterPass_of_checked (.inl qualified), clean, qualified]
    rfl
  have kept : ({ judged.ref r with
      claim := some w.info.claim, count := (judged.ref r).countAfterPass } : Reference) = judged.ref r := by
    rw [Reference.countAfterPass_of_other (by rw [qualified]; decide), ← unchanged]
  have passed : judged.passSecond r w.info = judged := by
    rw [State.passSecond_of_stays stays, if_neg fun both => both.2 unchanged, kept, State.setRef_same]
  rw [exec_pulseEdge watch, closes.passes consistent window, closed, passed,
    State.reportPulse_of_selected (s := judged) selected qualified]
  rfl

theorem State.closedSecond_movesReference : Claims.SecondMovesQualifiedOrUnsynced := by
  intro s r rising a watch arrived state polarity anchor sound tolerance early late x cause next clean
  have judging : (s.ref r).judging = true := by
    unfold Reference.judging
    rcases state with state | state <;> rw [state]
  have closes : s.Closes r rising a := ⟨arrived, judging, polarity, anchor, sound, early, late⟩
  have judged : x.judgement = cause := x.judgement_eq
  have outside : x.state ≠ .check := by
    rcases state with state | state <;> rw [state] <;> decide
  have tidy (m : MessageInfo) : clean m = m.clean := by
    simp [clean, MessageInfo.clean, Bool.decide_and]
  rw [exec_pulseEdge watch]
  refine ⟨_, rfl, closes.ref_other, fun c failed => closes.ref_of_failing (judged.trans failed),
    ?_, ?_, ?_, ?_, closes.disturbs.latched⟩
  · intro w window passed
    rw [closes.ref_of_passing (judged.trans passed) window, Reference.countAfterPass_of_other outside,
      Reference.stateAfterPass_of_checked state, tidy]
    rfl
  · intro moves on
    obtain ⟨y, was, moved, -⟩ := closes.moves moves
    refine State.moveRef_holds (s := s.setRef r y) ?_ moved (by omega) on
    rw [State.ref_setRef_same, was]
    exact moves.symm
  · intro was left selected
    obtain ⟨y, same, -, run⟩ := closes.moves fun stays => left (stays.trans was)
    rw [run left]
    refine State.moveRef_drops ?_ left selected
    rw [State.ref_setRef_same, same]
    exact was
  · intro was stays
    rcases passed : (s.ref r).judgement with _ | c
    · obtain ⟨w, window⟩ := Reference.window_of_passing passed
      rw [closes.ref_of_passing passed window] at stays
      rw [closes.passes_quietly passed window (stays.trans was.symm) (by rw [was]; decide)]
      rfl
    · rw [closes.ref_of_failing passed] at stays
      contradiction

/-- The choice of AUTO while a QUALIFIED reference is selected, the other one is QUALIFIED too and the flag is
clear: the better claim (R39). -/
theorem State.choice_of_better {s : State} {r : RefId} (mode : s.sel.mode = .auto)
    (selected : s.sel.selected = some r) (clear : s.sel.disagree = false)
    (own : (s.ref r).state = .qualified) (other : (s.ref r.other).state = .qualified) :
    s.choice = some (if (s.ref r.other).claimClass < (s.ref r).claimClass then r.other else r) := by
  rw [s.choice_of_auto mode, s.autoChoice_of_some selected, if_pos (show (s.ref r).qualified = true from decide_eq_true own),
    show (s.ref r.other).qualified = true from decide_eq_true other, clear, apply_ite some]
  simp only [Bool.true_and, Bool.not_false, Bool.and_true, decide_eq_true_eq]

theorem refSelect_datum_of_auto (p : RefId) :
    datumOf SelectionMode.auto.code (selectionCode (some p)) = BitVec.ofNat 16 p.code := by
  cases p <;> rfl

theorem State.changedClaim_movesSelection : Claims.ChangedClaimMovesSelection := by
  intro s r rising a w other watch arrived state polarity anchor sound tolerance early late window single
    flawless follows clean changed mode selected clear rival claim on
  have closes : s.Closes r rising a :=
    ⟨arrived, by unfold Reference.judging; rw [state], polarity, anchor, sound, early, late⟩
  have consistent : (s.ref r).judgement = none := by
    rw [Reference.judgement_eq, window]
    simp only [single, flawless, follows]
    rfl
  have stays : (s.ref r).stateAfterPass w.info.clean = .qualified := by
    rw [Reference.stateAfterPass_of_checked (.inl state), clean]
    rfl
  have ref := closes.ref_of_passing consistent window
  generalize claimed : s.setRef r { (s.ref r).closedBy s.capture with
    claim := some w.info.claim, count := (s.ref r).countAfterPass } = u
  have passed : (s.setRef r ((s.ref r).closedBy s.capture)).passSecond r w.info = u.evaluateSelection := by
    have own : (s.setRef r ((s.ref r).closedBy s.capture)).ref r = (s.ref r).closedBy s.capture :=
      State.ref_setRef_same _ _ _
    rw [State.passSecond_of_stays (by rw [own]; exact stays.trans state.symm), own, State.setRef_setRef,
      if_pos ⟨state, changed⟩, ← claimed]
    rfl
  have choice : u.choice = some (if other < w.info.claim then r.other else r) := by
    have own : u.ref r = { (s.ref r).closedBy s.capture with
        claim := some w.info.claim, count := (s.ref r).countAfterPass } := by
      rw [← claimed, State.ref_setRef_same]
    have others : u.ref r.other = s.ref r.other := by
      rw [← claimed, State.ref_setRef_other]
    rw [State.choice_of_better (by rw [← claimed]; exact mode) (by rw [← claimed]; exact selected)
      (by rw [← claimed]; exact clear) (by rw [own]; exact state) (by rw [others]; exact rival)]
    simp only [others, own, Reference.claimClass, claim, Option.getD_some]
  have run := closes.passes consistent window
  rw [passed] at run
  obtain ⟨told, -, kept⟩ := State.Disturbs.reported (s := u.evaluateSelection) (r := r) (m := w.info)
    (edge := s.capture) (mark := ⟨r, w.info.second, s.tb.runClock⟩)
  have selects : (s.pulseEdge r rising).sel.selected = u.choice := by
    rw [run, kept (by rw [State.evaluateSelection_sel, ← claimed]; exact clear),
      State.evaluateSelection_selected]
  rw [exec_pulseEdge watch]
  refine ⟨_, rfl, by rw [ref]; exact stays, by rw [ref], fun better => ⟨?_, ?_⟩, fun worse => ?_⟩
  · rw [selects, choice, if_pos better]
  · have moved : u.choice ≠ u.sel.selected := by
      rw [choice, if_pos better, ← claimed]
      exact fun same => RefId.other_ne r (Option.some.inj (same.trans selected))
    have first := u.evaluateSelection_tells
    rw [if_neg moved, if_neg moved, choice, if_pos better] at first
    rw [run]
    have held := first.holds_then_few told.few (by rw [← claimed]; exact on) (by simp)
    rw [← claimed] at held ⊢
    rw [show (s.setRef r _).sel.mode = SelectionMode.auto from mode, refSelect_datum_of_auto] at held
    exact held
  · rw [selects, choice, if_neg (by omega)]

/-- Settles O9: the second that an edge closes is reported, moves the reference or moves the selection. -/
theorem selectedPulseIsReported : Obligations.SelectedPulseIsReported :=
  ⟨State.consistentSecond_reportsPulse, State.closedSecond_movesReference, State.changedClaim_movesSelection⟩

end Sys2Proof.Machine
end

section
/-! Field types, and the answers of READ TIME, IDENTIFY, READ REFERENCES, READ LINES, READ UNIT and STATUS (R24,
R44, R74, R89, R144, R193, R194, R203): O53. -/

namespace Sys2Proof.Machine

/-! ### Field types (R203) -/

theorem be_getElem? {n i : Nat} (v : Nat) (h : i < n) :
    (be n v)[i]? = some (BitVec.ofNat 8 (v / 256 ^ (n - 1 - i))) := by
  induction n generalizing i with
  | zero => omega
  | succ n ih =>
    cases i with
    | zero => simp [be]
    | succ i =>
      rw [be, List.getElem?_cons_succ, ih (by omega)]
      congr 4
      omega

/-- Two's complement adds 256ⁿ to a negative value. -/
theorem beInt_eq {n : Nat} {v : Int} (low : -(256 ^ n : Nat) ≤ v) (high : v < (256 ^ n : Nat)) :
    beInt n v = be n (if v < 0 then v + (256 ^ n : Nat) else v).toNat := by
  unfold beInt
  split
  · rename_i negative
    rw [← Int.add_emod_right, Int.emod_eq_of_lt (by omega) (by omega)]
  · rw [Int.emod_eq_of_lt (by omega) high]

theorem tallyBytes_of_unsaturated (ms : Nat) :
    tallyBytes ms false = be 3 (ms / 3600000) ++ be 3 (ms % 3600000) := rfl

theorem tallyBytes_of_saturated (ms : Nat) :
    tallyBytes ms true = be 3 (8388608 + ms / 3600000) ++ be 3 (ms % 3600000) := by
  rw [Nat.add_comm]
  rfl

theorem fieldTypes_haveTheirLayouts : Claims.FieldTypesHaveTheirLayouts :=
  ⟨fun n v => ⟨be_length n v, fun _ h => be_getElem? v h⟩, fun _ _ low high => beInt_eq low high,
    fun _ _ => ⟨rfl, rfl⟩, fun _ => ⟨rfl, rfl, rfl, rfl, rfl⟩, fun _ => rfl, rfl, rfl,
    fun ms _ => ⟨tallyBytes_of_unsaturated ms, tallyBytes_of_saturated ms⟩, fun _ _ => ⟨rfl, rfl⟩⟩

theorem enumerations_haveTheirCodes : Claims.EnumerationsHaveTheirCodes := by
  unfold Claims.EnumerationsHaveTheirCodes
  decide

/-! ### Requests that their owner answers and that leave the state -/

/-- A request that gives values and changes nothing. -/
theorem State.request_gives {s : State} {q : Port} {r : Request} {body : List Byte}
    (waits : (s.port q).waits r = true) (other : r ≠ .nop) (h : s.decide q r = s.gives body) :
    AnsweredIn q r .ok body s (s.request q r) := by
  rw [State.request_of_waits waits]
  exact s.take_answer q r s .ok body waits other h waits

/-- A request that is refused. -/
theorem State.request_refused {s : State} {q : Port} {r : Request} {result : Result}
    (waits : (s.port q).waits r = true) (other : r ≠ .nop) (h : s.decide q r = s.refuse result) :
    AnsweredIn q r result [] s (s.request q r) := by
  rw [State.request_of_waits waits]
  exact s.take_answer q r s result [] waits other h waits

theorem State.timeAndIdentity_areRead : Claims.TimeAndIdentityAreRead := by
  intro s q
  refine ⟨fun waits => ⟨_, rfl, State.request_gives waits (by simp) rfl⟩,
    fun waits => ⟨_, rfl, State.request_gives waits (by simp) ?_⟩⟩
  cases q <;> rfl

/-! ### READ REFERENCES (R43, R44) -/

theorem Reference.bytes_eq (x : Reference) :
    x.bytes = byteOf x.state.code
      ++ byteOf (match x.polarity with | none => 0 | some true => 1 | some false => 2)
      ++ numberBytes x.count
      ++ byteOf (match x.lastFailure with | none => 0 | some f => f.code)
      ++ optionBytes 1 (x.claim.map byteOf)
      ++ optionBytes 10 (x.lastMessage.map fun m =>
          secondBytes m.second ++ byteOf m.claim ++ [m.flags] ++ numberBytes m.sequence.toNat)
      ++ optionBytes 8 (x.anchor.map fun a => secondBytes a.second ++ numberBytes a.nanos) := by
  unfold Reference.bytes polarityCode
  rcases x.lastFailure with _ | f <;> rfl

theorem State.references_areRead : Claims.ReferencesAreRead := by
  unfold Claims.ReferencesAreRead
  intro reference code s q waits
  have codes (r : RefId) : r.code = code r := by
    cases r <;> rfl
  have selected : selectionCode s.sel.selected
      = match s.sel.selected with | none => 0 | some r => code r := by
    rcases s.sel.selected with _ | r
    · rfl
    · exact codes r
  have answer := (s.request_of_waits waits ▸
    s.take_answer q .readReferences (s.clearLost q) .ok _ waits (by simp) rfl waits :)
  refine ⟨_, rfl, ?_⟩
  have whole (x : Reference) : x.bytes = reference x := x.bytes_eq
  rw [whole, whole, Selection.bytes, codes, selected] at answer
  change AnsweredIn q .readReferences .ok _ (s.clearLost q) _
  simp only [List.append_assoc] at answer ⊢
  exact answer

/-! ### READ LINES (R69, R74) -/

/-- A flag set holds its flags, the first in the lowest bit. -/
theorem flagSet_testBit (flags : List Bool) (i : Nat) : (flagSet flags).testBit i = flags.getD i false := by
  induction flags generalizing i with
  | nil => simp [flagSet]
  | cons b rest ih =>
    have step : flagSet (b :: rest) = 2 * flagSet rest + b.toNat := rfl
    cases i with
    | zero => cases b <;> simp [step, Nat.testBit_zero, Nat.add_mod]
    | succ i =>
      have half : (2 * flagSet rest + b.toNat) / 2 = flagSet rest := by
        cases b <;> simp [Nat.add_div]
      rw [step, Nat.testBit_succ, half, ih, List.getD_cons_succ]

/-- A flag set is the sum of its flags by their places. -/
theorem flagSet_finRange (n : Nat) (f : Fin n → Bool) :
    flagSet ((List.finRange n).map f) = ((List.finRange n).map fun i => (f i).toNat * 2 ^ i.val).sum := by
  induction n with
  | zero => rfl
  | succ n ih =>
    have step : flagSet ((List.finRange (n + 1)).map f)
        = 2 * flagSet ((List.finRange n).map fun i => f i.succ) + (f 0).toNat := by
      rw [List.finRange_succ, List.map_cons, List.map_map]
      rfl
    rw [step, ih fun i => f i.succ, List.finRange_succ, List.map_cons, List.map_map, List.sum_cons,
      ← List.sum_map_mul_left]
    simp only [Function.comp_def, Fin.val_zero, Fin.val_succ, pow_zero, mul_one, pow_succ]
    rw [Nat.add_comm]
    congr 3
    funext i
    ring

/-- A byte is a flag set of eight flags exactly when its bits are the flags. -/
theorem byte_eq_flagSet_iff (w : Byte) (f : Fin 8 → Bool) :
    w = BitVec.ofNat 8 (flagSet ((List.finRange 8).map f)) ↔ ∀ k : Fin 8, w.getLsbD k.val = f k := by
  have bit (k : Fin 8) : (BitVec.ofNat 8 (flagSet ((List.finRange 8).map f))).getLsbD k.val = f k := by
    rw [BitVec.getLsbD_ofNat, flagSet_testBit]
    simp [List.getD]
  constructor
  · intro h k
    rw [h, bit]
  · intro h
    refine BitVec.eq_of_getLsbD_eq fun i hi => ?_
    exact (h ⟨i, hi⟩).trans (bit ⟨i, hi⟩).symm

theorem Role.code_byte_injective {a b : Role} (h : BitVec.ofNat 8 a.code = BitVec.ofNat 8 b.code) :
    a = b := by
  cases a <;> cases b <;> first | rfl | (revert h; decide)

theorem table_list_eq_map {n : Nat} {α : Type} (t : Table n α) :
    t.list = (List.finRange n).map t.get := by
  have same : t = Table.build t.get := Table.ext_get fun i => (Table.get_build _ i).symm
  rw [congrArg Table.list same]
  rfl

/-- A set of line flags as a sum over the 48 lines. -/
theorem State.lineSet_eq (s : State) (f : Line → Bool) :
    s.lineSet f = be 6 ((List.finRange 48).map fun l => (f (s.line l)).toNat * 2 ^ l.val).sum := by
  rw [State.lineSet, table_list_eq_map s.lines.tab, List.map_map, flagSet_finRange]
  rfl

/-- A plan or polarities wait for a start exactly when they differ from those in force (R69). -/
theorem State.planPending_eq (s : State) (u : UnitId) :
    s.planPending u = !Decidable.decide
      ((∀ k : Fin 6, (s.settings.working.plans.get u).get k
          = (s.line (lineOf u ⟨k.val + 2, by omega⟩)).role)
        ∧ ∀ k : Fin 8, (s.settings.working.polarities.get u).getLsbD k.val
          = (s.line (lineOf u k)).inverted) := by
  have roles : (s.settings.working.plans.get u).list.map (fun r => BitVec.ofNat 8 r.code) = s.planInForce u
      ↔ ∀ k : Fin 6, (s.settings.working.plans.get u).get k
          = (s.line (lineOf u ⟨k.val + 2, by omega⟩)).role := by
    have force : s.planInForce u = (List.finRange 6).map fun k : Fin 6 =>
        BitVec.ofNat 8 (s.line (lineOf u ⟨k.val + 2, by omega⟩)).role.code := rfl
    rw [force, table_list_eq_map (s.settings.working.plans.get u), List.map_map, List.map_inj_left]
    constructor
    · exact fun h k => Role.code_byte_injective (h k (List.mem_finRange k))
    · exact fun h k _ => congrArg (fun r : Role => BitVec.ofNat 8 r.code) (h k)
  have polarities : s.settings.working.polarities.get u = s.polarityInForce u
      ↔ ∀ k : Fin 8, (s.settings.working.polarities.get u).getLsbD k.val
          = (s.line (lineOf u k)).inverted := by
    rw [State.polarityInForce, unitLines, List.map_map]
    exact byte_eq_flagSet_iff _ _
  rw [State.planPending, Bool.eq_iff_iff, Bool.or_eq_true, bne_iff_ne, bne_iff_ne, Ne, Ne, roles, polarities,
    Bool.not_eq_true', decide_eq_false_iff_not, not_and_or]

theorem unitNamed_of_eq {b : Byte} {u : UnitId} (h : b.toNat = u.val + 1) : unitNamed b = some u := by
  have bound := u.isLt
  rw [unitNamed, dif_pos (by omega)]
  exact congrArg some (Fin.ext (by simp only [h]; omega))

theorem unitNamed_of_outside {b : Byte} (h : b.toNat = 0 ∨ 6 < b.toNat) : unitNamed b = none :=
  dif_neg (by omega)

theorem State.pinsOfScan_line (s : State) (pins : BitVec 48) (l : LineId) :
    (s.pinsOfScan pins).line l
      = if 2 ≤ l.val % 8 then { s.line l with raw := pins.getLsbD l.val } else s.line l := by
  rw [State.line, State.pinsOfScan, Table.get_mapIdx, Line.takeSample]
  by_cases scanned : 2 ≤ l.val % 8
  · rw [if_pos scanned]
    exact if_pos (decide_eq_true scanned)
  · rw [if_neg scanned]
    exact if_neg (Bool.eq_false_iff.1 (decide_eq_false scanned))

theorem State.lines_areRead : Claims.LinesAreRead := by
  unfold Claims.LinesAreRead
  intro s q look waits
  generalize sampled : s.pinsOfScan look.pins = e
  have run : exec (.readLines q look) s = .next (e.request q (.readLines look.unit)) := by
    rw [← sampled]
    rfl
  have waits' : (e.port q).waits (.readLines look.unit) = true := by
    rw [← sampled]
    exact waits
  refine ⟨e, _, run, by rw [← sampled]; rfl, fun l => by rw [← sampled]; exact s.pinsOfScan_line _ l, ?_⟩
  intro held count kind waiting one set
  have settings : e.settings = s.settings := by
    rw [← sampled]
    rfl
  have period : e.lines.period = s.lines.period := by
    rw [← sampled]
    rfl
  have pending (u : UnitId) : e.planPending u = waiting u := by
    rw [State.planPending_eq, settings]
  have sets (f : Line → Bool) : e.lineSet f = set f := e.lineSet_eq f
  have each (l : LineId) : Line.bytes l (e.line l) = one l := rfl
  refine ⟨fun outside => ?_, fun zero => ?_, fun u named => ?_⟩
  · refine State.request_refused waits' (by simp) ?_
    have unnamed := unitNamed_of_outside (.inr outside)
    have other : look.unit ≠ 0 := by
      intro zero
      rw [zero] at outside
      simp at outside
    rw [State.decide, State.readLines, if_neg other, unnamed]
  · refine State.request_gives waits' (by simp) ?_
    rw [State.decide, State.readLines, if_pos zero]
    simp only [sets, pending, settings, period]
    rfl
  · refine State.request_gives waits' (by simp) ?_
    have other : look.unit ≠ 0 := by
      intro zero
      rw [zero] at named
      simp at named
    rw [State.decide, State.readLines, if_neg other, unitNamed_of_eq named]
    simp only [unitLines, List.flatMap_map, each, pending]

/-! ### READ UNIT (R89, R144) -/

theorem State.roleHeld_eq (s : State) (u : UnitId) (r : Role) :
    s.roleHeld u r = Decidable.decide (∃ k : Fin 8, (s.line (lineOf u k)).role = r
      ∧ (match (s.line (lineOf u k)).chatter with | .chattering _ _ => true | _ => false) = true) := by
  have mark (x : Line) :
      x.isChattering = (match x.chatter with | .chattering _ _ => true | _ => false) := by
    unfold Line.isChattering Line.held
    rcases x.chatter with _ | _ | _ <;> rfl
  rw [Bool.eq_iff_iff]
  simp only [State.roleHeld, unitLines, List.any_map, List.any_eq_true, List.mem_finRange,
    true_and, Function.comp_apply, Bool.and_eq_true, decide_eq_true_eq, mark]

theorem State.roleAbsent_eq (s : State) (u : UnitId) (r : Role) :
    s.roleAbsent u r = Decidable.decide (∀ k : Fin 8, (s.line (lineOf u k)).role ≠ r) := by
  rw [Bool.eq_iff_iff]
  simp only [State.roleAbsent, unitLines, List.all_map, List.all_eq_true, List.mem_finRange,
    true_implies, Function.comp_apply, decide_eq_true_eq]

theorem talliesBytes_eq (t : PerMode Nat) (saturated : PerMode Bool) :
    talliesBytes t saturated = [Mode.stand, .spin, .gen, .pump, .cond].flatMap fun m =>
      tallyBytes (t.get m) (saturated.get m) := by
  simp only [talliesBytes, PerMode.toList, List.zip_cons_cons, List.zip_nil_right, List.flatMap_cons]
  rfl

theorem State.unit_isRead : Claims.UnitIsRead := by
  unfold Claims.UnitIsRead
  intro s q unit waits
  refine ⟨_, rfl, fun outside => ?_, fun u named => ?_⟩
  · refine State.request_refused waits (by simp) ?_
    rw [State.decide, State.readUnit, unitNamed_of_outside outside]
  · intro x y held absent seconds levels
    have heldBy (r : Role) : s.roleHeld u r = held r := s.roleHeld_eq u r
    have absentOf (r : Role) : s.roleAbsent u r = absent r := s.roleAbsent_eq u r
    have left (deadline : Nat) : timeLeft deadline s.tb.runClock Config.second = seconds deadline := by
      rw [timeLeft, Config.second_eq]
    have ten : Config.tenMinutes = 600000000000 := rfl
    have settled : modeCode (s.modeOf u).settled
        = match x.settled with | none => 0 | some m => m.code := by
      change modeCode x.settled = _
      rcases x.settled with _ | _ <;> rfl
    refine State.request_gives waits (by simp) ?_
    rw [State.decide, State.readUnit, unitNamed_of_eq named]
    refine congrArg s.gives ?_
    simp only [State.modePart, State.tallyPart, State.levelBytes, testBytes, talliesBytes_eq, lastTripBytes, left,
      heldBy, absentOf, ten, settled, List.flatMap_cons, List.flatMap_nil, List.append_nil, List.append_assoc]
    rfl

/-! ### STATUS (R193) -/

theorem TimeWord.bytes_eq (w : TimeWord) :
    w.bytes = secondBytes w.second
      ++ byteOf (w.cls * 16 + 8 * w.invalid.toNat + 4 * w.stepped.toNat + 2 * w.holdover.toNat
          + w.testAny.toNat) ++ [w.check] := by
  rw [TimeWord.bytes, TimeWord.head, TimeWord.classByte_eq]
  simp only [byteOf, be, pow_zero, Nat.div_one, Nat.mul_comm]

/-- STATUS clears the port's latches, and its notice line is read after that. -/
theorem State.status_eq (s : State) (q : Port) :
    s.status q = (s.setPort q { s.port q with latches := 0 }).gives
      (be 2 (s.port q).latches.toNat ++ be 2 (s.settings.working.enables.get q).toNat
        ++ flagByte false ++ numberBytes (s.port q).refusals ++ s.dist.bytes ++ s.ring.bytes q) := by
  have line : (s.setPort q { s.port q with latches := 0 }).noticeLine q = false := by
    have none (y : BitVec 13) : ((0 : BitVec 13) &&& y != 0) = false := by simp
    rw [State.noticeLine, State.setPort, PerPort.get_set_same]
    exact none _
  rw [← line]
  rfl

theorem State.status_isRead : Claims.StatusIsRead := by
  unfold Claims.StatusIsRead
  intro s q waits d held oldest cursor
  have waits' : ((s.setPort q { s.port q with latches := 0 }).port q).waits .status = true := by
    rw [State.setPort, State.port, PerPort.get_set_same]
    exact waits
  have answer := s.take_answer q .status _ .ok _ waits (by simp) (s.status_eq q) waits'
  rw [← State.request_of_waits waits, Distribution.bytes, Ring.bytes,
    show TimeWord.bytes = _ from funext TimeWord.bytes_eq] at answer
  refine ⟨_, rfl, ?_⟩
  simp only [List.append_assoc] at answer ⊢
  exact answer

/-- Settles O53: the layouts and codes, then each of the six requests. -/
theorem readsAnswerAndChangeNothingElse : Obligations.ReadsAnswerAndChangeNothingElse :=
  ⟨fieldTypes_haveTheirLayouts, enumerations_haveTheirCodes, State.timeAndIdentity_areRead,
    State.references_areRead, State.lines_areRead, State.unit_isRead, State.status_isRead⟩

end Sys2Proof.Machine
end

section
/-! WRITE SETTINGS: the item set, what the blocks make of it, and the ranges of the items (R22, R39, R52, R200,
R205): O54. -/

namespace Sys2Proof.Machine

variable (s : State)

/-! ### What the blocks make of new settings (R22, R39, R52) -/

/-- The working settings set and the Driver told, before the alarm is reviewed (R52). -/
def State.settingsSet (s : State) (w : Settings) : State :=
  { s with
    settings := { s.settings with working := w }
    dist := { s.dist with
      latency := if w.bitPeriodP = s.settings.working.bitPeriodP ∧ w.delayD = s.settings.working.delayD
        ∧ w.strobeWidth = s.settings.working.strobeWidth then s.dist.latency else 2 } }

/-- The settings set and the alarm reviewed, before the selection (R22). -/
def State.settingsReviewed (s : State) (w : Settings) : State := (s.settingsSet w).reviewAlarm s.cls

theorem driverChanged_iff (a b : Settings) :
    driverChanged a b = false
      ↔ b.bitPeriodP = a.bitPeriodP ∧ b.delayD = a.delayD ∧ b.strobeWidth = a.strobeWidth := by
  simp only [driverChanged, Bool.or_eq_false_iff, bne_eq_false_iff_eq, and_assoc]
  exact ⟨fun ⟨p, d, w⟩ => ⟨p.symm, d.symm, w.symm⟩, fun ⟨p, d, w⟩ => ⟨p.symm, d.symm, w.symm⟩⟩

theorem State.applySettings_eq (w : Settings) :
    s.applySettings w = if w.priority = s.settings.working.priority then s.settingsReviewed w
      else (s.settingsReviewed w).evaluateSelection := by
  have told : (if driverChanged s.settings.working w
      then (s.withSettings { s.settings with working := w }).withDist { s.dist with latency := 2 }
      else s.withSettings { s.settings with working := w }) = s.settingsSet w := by
    unfold State.settingsSet
    by_cases same : w.bitPeriodP = s.settings.working.bitPeriodP ∧ w.delayD = s.settings.working.delayD
        ∧ w.strobeWidth = s.settings.working.strobeWidth
    · rw [(driverChanged_iff _ _).2 same, if_pos same]
      rfl
    · rw [Bool.ne_false_iff.1 fun unchanged => same ((driverChanged_iff _ _).1 unchanged), if_neg same]
      rfl
  have run {d : State} (h : (if driverChanged s.settings.working w
      then (s.withSettings { s.settings with working := w }).withDist { s.dist with latency := 2 }
      else s.withSettings { s.settings with working := w }) = d) :
      s.applySettings w = if s.settings.working.priority = w.priority then d.reviewAlarm d.cls
        else (d.reviewAlarm d.cls).evaluateSelection := by
    rw [← h]
    rfl
  rw [run told]
  exact if_congr eq_comm rfl rfl

theorem State.settingsReviewed_frame (w : Settings) :
    ∃ (a : Bool) (r : Ring) (p : PerPort PortState),
      s.settingsReviewed w = { s.settingsSet w with tb := { s.tb with alarm := a }, ring := r, ports := p } :=
  (s.settingsSet w).reviewAlarm_frame s.cls

theorem State.settingsReviewed_alarm (w : Settings) :
    (s.settingsReviewed w).tb.alarm = Decidable.decide (w.alarmClass < s.cls) :=
  (s.settingsSet w).reviewAlarm_alarm s.cls

theorem State.settingsReviewed_tells (w : Settings) :
    s.Tells (s.settingsReviewed w)
      (if (s.settingsReviewed w).tb.alarm = s.tb.alarm then []
        else [s.ownRecord .quality (datumOf s.cls s.cls)])
      (if (s.settingsReviewed w).tb.alarm = s.tb.alarm then [] else [.quality]) :=
  ((s.settingsSet w).reviewAlarm_tells s.cls).after_silence rfl rfl

theorem State.settingsReviewed_of_kept (w : Settings)
    (kept : (s.settingsReviewed w).tb.alarm = s.tb.alarm) : s.settingsReviewed w = s.settingsSet w := by
  rw [State.settingsReviewed_alarm] at kept
  exact ((s.settingsSet w).reviewAlarm_eq s.cls).trans (if_pos kept)

/-- Ports whose latches are as they were. -/
theorem State.latched_of_latches {s t : State} (h : ∀ q, (t.port q).latches = (s.port q).latches) :
    s.latched t = s.ports := by
  apply PerPort.ext_get
  intro q
  have same := h q
  unfold State.port at same
  simp only [State.latched, PerPort.get_map2, same]

/-- The evaluation of the selection leaves the alarm flag alone. -/
theorem State.evaluateSelection_alarm : s.evaluateSelection.tb.alarm = s.tb.alarm := by
  by_cases same : s.choice = s.sel.selected
  · rw [s.evaluateSelection_of_same same]
  · rw [s.evaluateSelection_of_change same]
    obtain ⟨r, p, e⟩ := s.recordSelection_frame s.choice
    rw [e]
    unfold State.selectionMoved
    repeat' split
    all_goals rfl

theorem State.applySettings_tells (w : Settings) :
    ∃ es ks, s.Tells (s.applySettings w) es ks := by
  rw [State.applySettings_eq]
  split
  · exact ⟨_, _, s.settingsReviewed_tells w⟩
  · exact ⟨_, _, (s.settingsReviewed_tells w).trans (State.evaluateSelection_tells _)⟩

theorem State.applySettings_frame (w : Settings) :
    ∃ (t : Timebase) (x : Selection) (r : Ring) (p : PerPort PortState),
      s.applySettings w = { s.settingsSet w with tb := t, sel := x, ring := r, ports := p } := by
  obtain ⟨a, r, p, e⟩ := s.settingsReviewed_frame w
  rw [State.applySettings_eq]
  split
  · exact ⟨_, s.sel, r, p, e⟩
  · obtain ⟨t, x, g, o, e'⟩ := (s.settingsReviewed w).evaluateSelection_moves
    exact ⟨t, x, g, o, by rw [e', e]⟩

theorem State.applySettings_alarm (w : Settings) :
    (s.applySettings w).tb.alarm = Decidable.decide (w.alarmClass < s.cls) := by
  rw [State.applySettings_eq]
  split
  · exact s.settingsReviewed_alarm w
  · rw [State.evaluateSelection_alarm, s.settingsReviewed_alarm w]

/-- The selection follows a changed priority, with the working settings just set (R39). -/
theorem State.applySettings_sel (w : Settings) :
    (s.applySettings w).sel = { s.sel with
      selected := if w.priority = s.settings.working.priority then s.sel.selected
        else ({ s with settings := { s.settings with working := w } } : State).choice
      lost := (s.applySettings w).sel.lost } := by
  obtain ⟨a, r, p, e⟩ := s.settingsReviewed_frame w
  rw [State.applySettings_eq]
  split
  · rw [e]
    rfl
  · rw [State.evaluateSelection_sel, e]
    rfl

theorem State.writeSettings_setsOneItem : Claims.WriteSettingsSetsOneItem := by
  intro s q item qual v waits old
  refine ⟨_, rfl, fun unnamed => ?_, fun new named => ?_⟩
  · refine State.request_refused waits (by simp) ?_
    rw [State.decide, State.writeSettings, unnamed]
  · have decided : s.decide q (.writeSettings item qual v) = ⟨s.applySettings new, .answer .ok []⟩ := by
      rw [State.decide, State.writeSettings, named]
      rfl
    obtain ⟨es, ks, told⟩ := s.applySettings_tells new
    obtain ⟨answered, ⟨o, e⟩, latches⟩ :=
      s.take_answer_noticed q _ (s.applySettings new) .ok [] waits (by simp) decided told.ports
    rw [State.request_of_waits waits]
    obtain ⟨t, x, r, p, frame⟩ := s.applySettings_frame new
    have settings : (s.take q (.writeSettings item qual v)).settings
        = { s.settings with working := new } := by
      rw [e, frame]
      rfl
    refine ⟨answered, settings, ?_, ?_, ?_, fun same => ?_, ?_⟩
    · rw [e, frame]
      rfl
    · rw [e]
      exact s.applySettings_alarm new
    · rw [settings, e]
      exact s.applySettings_sel new
    · have run : s.applySettings new = s.settingsReviewed new := by
        rw [State.applySettings_eq, if_pos same]
      obtain ⟨a, g, n, reviewed⟩ := s.settingsReviewed_frame new
      rw [run] at e latches
      refine ⟨by rw [e, reviewed]; rfl, by rw [e, reviewed], fun kept => ?_, fun moved on => ?_⟩
      · have still : s.settingsReviewed new = s.settingsSet new := by
          rw [e] at kept
          exact s.settingsReviewed_of_kept new kept
        rw [still] at e latches
        exact ⟨by rw [e]; rfl, State.latched_of_latches latches⟩
      · have first := s.settingsReviewed_tells new
        rw [e] at moved ⊢
        rw [if_neg moved, if_neg moved] at first
        exact ⟨State.noticed_congr (first.noticed (by simp) (by decide)) fun each => by rw [← latches each, e],
          first.holds_first on (by simp)⟩
    · rw [e, frame]
      rfl
/-! ### The ranges of the items (R205) -/

theorem inRange_only (low high n : Nat) (w : Settings) :
    (low ≤ n ∧ n ≤ high → inRange low high n w = some w) ∧ (¬ (low ≤ n ∧ n ≤ high) → inRange low high n w = none) :=
  ⟨fun h => if_pos h, fun h => if_neg h⟩

theorem inRange_only_upTo (high n : Nat) (w : Settings) :
    (n ≤ high → inRange 0 high n w = some w) ∧ (¬ n ≤ high → inRange 0 high n w = none) :=
  ⟨fun h => if_pos ⟨Nat.zero_le n, h⟩, fun h => if_neg fun both => h both.2⟩

theorem onStep_only (high n : Nat) (w : Settings) :
    (n ≤ high ∧ n % 50 = 0 → onStep high n w = some w) ∧ (¬ (n ≤ high ∧ n % 50 = 0) → onStep high n w = none) :=
  ⟨fun h => if_pos h, fun h => if_neg h⟩

theorem Settings.put_haveTheirRanges : Claims.SettingsHaveTheirRanges := by
  unfold Claims.SettingsHaveTheirRanges
  intro w qual n v value only
  subst value
  refine ⟨inRange_only _ _ _ _, inRange_only _ _ _ _, inRange_only _ _ _ _, inRange_only _ _ _ _,
    inRange_only _ _ _ _, ?_, inRange_only_upTo _ _ _, inRange_only _ _ _ _, inRange_only _ _ _ _,
    ⟨fun h => if_pos h, fun h => if_neg h⟩, onStep_only _ _ _, onStep_only _ _ _, inRange_only _ _ _ _,
    inRange_only _ _ _ _, inRange_only_upTo _ _ _, inRange_only _ _ _ _, inRange_only _ _ _ _,
    inRange_only_upTo _ _ _, inRange_only _ _ _ _, inRange_only_upTo _ _ _, inRange_only _ _ _ _⟩
  refine ⟨fun h => if_pos (by omega), fun h => if_neg (by omega)⟩

/-! ### Items kept per unit or port, and the handover instants (R68, R69, R164, R192) -/

section
variable {w : Settings} {qual : Byte} {v : List Byte}

theorem Settings.put_plan_of_plan {u : UnitId} {plan : LinePlan} (unit : unitNamed qual = some u)
    (roles : planOf v = some plan) :
    Settings.put w 0x0A qual v = some { w with plans := w.plans.set u plan } := by
  simp [Settings.put, unit, roles]

theorem Settings.put_plan_of_no_plan (roles : planOf v = none) : Settings.put w 0x0A qual v = none := by
  rcases unit : unitNamed qual with _ | u <;> simp [Settings.put, unit, roles]

theorem Settings.put_plan_of_no_unit (unit : unitNamed qual = none) : Settings.put w 0x0A qual v = none := by
  simp [Settings.put, unit]

theorem Settings.put_polarities_of_unit {u : UnitId} (unit : unitNamed qual = some u) :
    Settings.put w 0x0B qual v = some { w with polarities := w.polarities.set u (BitVec.ofNat 8 (ofBe v)) } := by
  simp [Settings.put, unit]

theorem Settings.put_polarities_of_no_unit (unit : unitNamed qual = none) :
    Settings.put w 0x0B qual v = none := by
  simp [Settings.put, unit]

theorem Settings.put_instants :
    Settings.put w 0x16 qual v
      = if instantsAllowed (instantsOf v) then some { w with instants := instantsOf v } else none := by
  simp [Settings.put]

theorem Settings.put_enables_of_port {q : Port} (port : portNamed qual = some q) :
    Settings.put w 0x19 qual v = some { w with enables := w.enables.set q (BitVec.ofNat 13 (ofBe v)) } := by
  simp [Settings.put, port]

theorem Settings.put_enables_of_no_port (port : portNamed qual = none) :
    Settings.put w 0x19 qual v = none := by
  simp [Settings.put, port]

theorem Settings.put_of_no_item {item : Byte} (h : item = 0 ∨ 0x19 < item.toNat) :
    Settings.put w item qual v = none := by
  have outside : item.toNat = 0 ∨ 0x19 < item.toNat := h.imp (fun zero => by rw [zero]; rfl) id
  unfold Settings.put
  simp only
  split
  all_goals first
    | rfl
    | omega

end

/-- The bytes of a plan's roles name these roles. -/
theorem roleNamed_code {r : Role} (h : r ≠ .masterTrip ∧ r ≠ .breaker) :
    roleNamed (BitVec.ofNat 8 r.code) = some r := by
  cases r <;> first | rfl | (exact absurd rfl h.1) | (exact absurd rfl h.2)

theorem roleNamed_of_high {b : Byte} (h : 5 < b.toNat) : roleNamed b = none := by
  unfold roleNamed
  split
  all_goals first
    | rfl
    | omega

theorem mapM_roleNamed_codes {roles : List Role} (h : ∀ r ∈ roles, r ≠ .masterTrip ∧ r ≠ .breaker) :
    (roles.flatMap fun r => byteOf r.code).mapM roleNamed = some roles := by
  induction roles with
  | nil => rfl
  | cons r rest ih =>
    have head : byteOf r.code = [BitVec.ofNat 8 r.code] := by
      simp [byteOf, be]
    rw [List.flatMap_cons, head, List.singleton_append, List.mapM_cons, roleNamed_code (h r (by simp)),
      ih fun p hp => h p (by simp [hp])]
    rfl

theorem mapM_roleNamed_of_high {v : List Byte} {b : Byte} (mem : b ∈ v) (h : 5 < b.toNat) :
    v.mapM roleNamed = none := by
  induction v with
  | nil => simp at mem
  | cons c rest ih =>
    rw [List.mapM_cons]
    rcases List.mem_cons.1 mem with rfl | later
    · rw [roleNamed_of_high h]
      rfl
    · rw [ih later]
      cases roleNamed c <;> rfl

theorem mapM_roleNamed_length {v : List Byte} {roles : List Role} (h : v.mapM roleNamed = some roles) :
    roles.length = v.length := by
  induction v generalizing roles with
  | nil =>
    obtain rfl : [] = roles := Option.some.inj h
    rfl
  | cons b rest ih =>
    rw [List.mapM_cons] at h
    rcases role : roleNamed b with _ | r
    · rw [role] at h
      simp at h
    · rcases others : rest.mapM roleNamed with _ | tail
      · rw [role, others] at h
        simp at h
      · rw [role, others] at h
        obtain rfl : r :: tail = roles := Option.some.inj h
        rw [List.length_cons, List.length_cons, ih others]

theorem planOf_codes {plan : LinePlan} (h : ∀ r ∈ plan.list, r ≠ .masterTrip ∧ r ≠ .breaker) :
    planOf (plan.list.flatMap fun r => byteOf r.code) = if LinePlan.allowed plan then some plan else none := by
  rw [planOf, mapM_roleNamed_codes h]
  exact dif_pos plan.size

theorem planOf_of_bad {v : List Byte} (h : (∃ b ∈ v, 5 < b.toNat) ∨ v.length ≠ 6) : planOf v = none := by
  rw [planOf]
  rcases roles : v.mapM roleNamed with _ | xs
  · rfl
  · rcases h with ⟨b, mem, high⟩ | length
    · rw [mapM_roleNamed_of_high mem high] at roles
      contradiction
    · exact dif_neg fun six => length (by rw [← mapM_roleNamed_length roles, six])

/-- The spacing of instants, one after another. -/
theorem spaced_iff (xs : List Nat) :
    spaced xs = true
      ↔ ∀ (i m n : Nat), xs[i]? = some m → xs[i + 1]? = some n → m + 60 ≤ n := by
  induction xs with
  | nil => simp [spaced]
  | cons a rest ih =>
    cases rest with
    | nil => simp [spaced]
    | cons b more =>
      rw [spaced, Bool.and_eq_true, decide_eq_true_eq, ih]
      constructor
      · rintro ⟨first, later⟩ i m n hm hn
        cases i with
        | zero =>
          obtain rfl : a = m := by simpa using hm
          obtain rfl : b = n := by simpa using hn
          exact first
        | succ i => exact later i m n (by simpa using hm) (by simpa using hn)
      · intro all
        exact ⟨all 0 a b rfl rfl, fun i m n hm hn => all (i + 1) m n (by simpa using hm) (by simpa using hn)⟩

theorem instantsAllowed_iff (xs : List Nat) :
    instantsAllowed xs = true ↔ 2 ≤ xs.length ∧ xs.length ≤ 4 ∧ (∀ m ∈ xs, m ≤ 1439)
      ∧ (∀ (i m n : Nat), xs[i]? = some m → xs[i + 1]? = some n → m + 60 ≤ n)
      ∧ ∀ m n, xs.head? = some m → xs.getLast? = some n → n + 60 ≤ m + 1440 := by
  have ends (long : 2 ≤ xs.length) : xs.getLastD 0 + 60 ≤ xs.headD 0 + 1440
      ↔ ∀ m n, xs.head? = some m → xs.getLast? = some n → n + 60 ≤ m + 1440 := by
    rcases xs with _ | ⟨a, rest⟩
    · simp at long
    · simp [List.getLastD_eq_getLast?, List.getLast?_cons]
  rw [instantsAllowed]
  simp only [Bool.and_eq_true, decide_eq_true_eq, List.all_eq_true, spaced_iff]
  constructor
  · rintro ⟨⟨⟨⟨two, four⟩, day⟩, apart⟩, round⟩
    exact ⟨two, four, day, apart, (ends two).1 round⟩
  · rintro ⟨two, four, day, apart, round⟩
    exact ⟨⟨⟨⟨two, four⟩, day⟩, apart⟩, (ends two).2 round⟩

theorem instantsOf_body {count : Byte} {a b c d : Nat} (ha : a < 65536) (hb : b < 65536) (hc : c < 65536)
    (hd : d < 65536) :
    instantsOf ([count] ++ be 2 a ++ be 2 b ++ be 2 c ++ be 2 d)
      = if count.toNat ≤ 4 then [a, b, c, d].take count.toNat else [] := by
  have two (v : Nat) (hv : v < 65536) : ofBe [BitVec.ofNat 8 (v / 256), BitVec.ofNat 8 v] = v := by
    simp [ofBe]
    omega
  simp only [instantsOf, be, List.cons_append, List.nil_append, List.headD_cons, List.drop_succ_cons, List.drop_zero,
    List.take_succ_cons, List.take_zero, pow_zero, pow_one, Nat.div_one, two a ha, two b hb, two c hc, two d hd]

theorem portNamed_of_outside {b : Byte} (h : b.toNat = 0 ∨ 3 < b.toNat) : portNamed b = none := by
  unfold portNamed
  split
  all_goals first
    | rfl
    | omega

theorem Settings.put_ofManyValues : Claims.SettingsOfManyValuesAreJudged := by
  unfold Claims.SettingsOfManyValuesAreJudged
  intro w qual only
  refine ⟨fun u plan named roles => ?_, fun v bad => Settings.put_plan_of_no_plan (planOf_of_bad bad),
    fun u b named => ?_, fun v outside => ?_, fun count a b c d ha hb hc hd => ?_, fun n range => ?_,
    fun item v none => Settings.put_of_no_item none⟩
  · have read := planOf_codes roles
    refine ⟨fun good => ?_, fun bad => ?_⟩
    · rw [if_pos (show LinePlan.allowed plan = true from decide_eq_true good)] at read
      exact Settings.put_plan_of_plan (unitNamed_of_eq named) read
    · rw [if_neg fun allowed : LinePlan.allowed plan = true => bad (of_decide_eq_true allowed)] at read
      exact Settings.put_plan_of_no_plan read
  · rw [Settings.put_polarities_of_unit (unitNamed_of_eq named)]
    simp [ofBe]
  · exact ⟨Settings.put_plan_of_no_unit (unitNamed_of_outside outside),
      Settings.put_polarities_of_no_unit (unitNamed_of_outside outside)⟩
  · intro xs
    have judged := instantsAllowed_iff xs
    rw [Settings.put_instants, instantsOf_body ha hb hc hd]
    by_cases few : count.toNat ≤ 4
    · have length : xs.length = count.toNat := by
        rw [List.length_take]
        exact Nat.min_eq_left few
      rw [length] at judged
      rw [if_pos few]
      exact ⟨fun good => if_pos (judged.2 good), fun bad => if_neg fun allowed => bad (judged.1 allowed)⟩
    · rw [if_neg few]
      exact ⟨fun good => absurd good.2.1 few, fun _ => rfl⟩
  · intro flags
    have value : ofBe (be 2 n) = n := ofBe_be_of_lt range
    refine ⟨?_, ?_, ?_, fun outside => Settings.put_enables_of_no_port (portNamed_of_outside outside)⟩
    all_goals
      rintro rfl
      rw [Settings.put_enables_of_port rfl, value]
      rfl

/-- Settles O54: the item alone is set and the blocks take it, and each item is judged by its own range. -/
theorem writeSettingsSetsOneItemInRange : Obligations.WriteSettingsSetsOneItemInRange :=
  ⟨State.writeSettings_setsOneItem, Settings.put_haveTheirRanges, Settings.put_ofManyValues⟩

end Sys2Proof.Machine
end

section
/-! POWER_ON: the power-on values, the stored settings, the identity and the newest record (R148, R159, R194,
R196, R198). -/

namespace Sys2Proof.Machine

/-! ### Bytes of a fixed length -/

theorem Memory.slice_length (m : Memory) (a len : Nat) : (m.slice a len).length = len := by
  unfold Memory.slice
  generalize m.from a = k
  induction len generalizing a k with
  | zero => rfl
  | succ len ih =>
    rcases k with _ | ⟨⟨b, v⟩, rest⟩
    · rw [Memory.expand, List.length_cons, ih]
    · rw [Memory.expand]
      split <;> rw [List.length_cons, ih]

/-- Bytes of one length that spell one number are the same. -/
theorem ofBe_inj {a b : List Byte} (length : a.length = b.length) (h : ofBe a = ofBe b) : a = b := by
  induction a generalizing b with
  | nil => exact (List.length_eq_zero_iff.1 length.symm).symm
  | cons x a ih =>
    rcases b with _ | ⟨y, b⟩
    · simp at length
    · have same : a.length = b.length := by simpa using length
      have belowA := ofBe_lt a
      have belowB := ofBe_lt b
      rw [ofBe_cons, ofBe_cons, same] at h
      rw [same] at belowA
      have head : x.toNat = y.toNat := by
        have quotient := congrArg (· / 256 ^ b.length) h
        simpa [Nat.mul_comm _ (256 ^ b.length), Nat.mul_add_div, Nat.div_eq_of_lt belowA,
          Nat.div_eq_of_lt belowB] using quotient
      rw [head] at h
      rw [BitVec.eq_of_toNat_eq head, ih same (by omega)]

/-- Bytes are the layout of the number they spell. -/
theorem be_ofBe (bytes : List Byte) : be bytes.length (ofBe bytes) = bytes :=
  ofBe_inj (be_length _ _) (ofBe_be_of_lt (ofBe_lt bytes))

theorem ofBe_eq_iff {n : Nat} {bytes : List Byte} (length : bytes.length = n) {v : Nat} (h : v < 256 ^ n) :
    ofBe bytes = v ↔ bytes = be n v := by
  constructor
  · intro same
    rw [← same, ← length, be_ofBe]
  · intro same
    rw [same, ofBe_be_of_lt h]

theorem toNat_ofBe_four {bytes : List Byte} (length : bytes.length = 4) :
    (BitVec.ofNat 32 (ofBe bytes)).toNat = ofBe bytes := by
  have below := ofBe_lt bytes
  rw [length] at below
  exact Nat.mod_eq_of_lt below

/-- A record is sound exactly when it begins with its marker and ends with the check of its first 508 bytes
(R148). -/
theorem recordSound_iff (marker : BitVec 32) {bytes : List Byte} (length : bytes.length = 512) :
    recordSound marker bytes = true
      ↔ bytes.take 4 = be 4 marker.toNat ∧ bytes.drop 508 = be 4 (crc (bytes.take 508)).toNat := by
  have head : (bytes.take 4).length = 4 := by
    rw [List.length_take, length]
    rfl
  have tail : (bytes.drop 508).length = 4 := by
    rw [List.length_drop, length]
  rw [recordSound, Bool.and_eq_true, beq_iff_eq, beq_iff_eq, List.take_of_length_le tail.le,
    ofBe_eq_iff head (by have := marker.isLt; omega),
    ofBe_eq_iff tail (by have := (crc (bytes.take 508)).isLt; omega)]

/-! ### The part with supply, before the journal is scanned (R194, R196, R198) -/

variable (s : State)

/-- Supply is applied, the settings and the identity are read. -/
def State.poweredUp (s : State) : State := ({ s.dark with phase := .recovering }).loadSettings.readIdentity

/-- The Journal Controller as the scan of the array places it, the warning released (R159). -/
def Memory.scanned (m : Memory) : Journal :=
  match m.newestRecord with
  | some x => (Journal.cleared false).placed m x
  | none => Journal.cleared false

theorem State.cutFlash_of_idle (h : s.flash.op = .none) : s.cutFlash = s := by
  rw [State.cutFlash, h]

theorem State.loadSettings_frame : ∃ (x : SettingsStore) (p : PerPort PortState),
    s.loadSettings = { s with settings := x, ports := p } := by
  unfold State.loadSettings
  split
  · exact ⟨_, s.ports, rfl⟩
  · exact ⟨_, _, rfl⟩

theorem State.dark_of_idle (h : s.flash.op = .none) : s.dark = { State.reset with
    phase := .off
    lines := { State.reset.lines with
      tab := Table.build fun l => { Line.powerOn l with raw := (s.line l).raw } }
    dist := { Distribution.powerOn with readsBack := s.dist.readsBack }
    journal := { Journal.powerOn with warning := s.journal.warning }
    flash := s.flash
    freeCount := s.freeCount
    pending := s.pending } := by
  rw [State.dark, s.cutFlash_of_idle h]

/-- The scan places the rotation, and recovery begins at most one erase. -/
theorem State.scanned_recovery_frame (released : s.journal.warning = false) :
    ∃ (mark : Option (Fin 32)) (op : FlashOp),
      s.scanJournal.continueRecovery = { s with
        journal := { s.flash.mem.scanned with reErase := mark, owedErase := none }
        flash := { s.flash with op := op } } := by
  have scan : s.scanJournal = s.withJournal s.flash.mem.scanned := by
    unfold State.scanJournal Memory.scanned
    rw [released]
    rcases s.flash.mem.newestRecord with _ | x <;> rfl
  have owed : s.flash.mem.scanned.owedErase = none := by
    unfold Memory.scanned
    rcases s.flash.mem.newestRecord with _ | x <;> rfl
  rw [scan, State.continueRecovery]
  split
  · refine ⟨s.flash.mem.scanned.reErase, s.flash.op, ?_⟩
    rw [← owed]
    rfl
  · split
    · rename_i x _
      refine ⟨clearMark x s.flash.mem.scanned.reErase, .erase x, ?_⟩
      rw [State.beginErase]
      simp only [State.withJournal_journal, owed, clearMark_of_ne (sector := x) (mark := none) (by simp)]
      rfl
    · refine ⟨s.flash.mem.scanned.reErase, s.flash.op, ?_⟩
      rw [← owed]
      rfl

theorem State.loadSettings_of_stored {w : Settings} (h : s.flash.storedSettings = some w) :
    s.loadSettings = s.withSettings ⟨w, w, w, true, false, none, none⟩ := by
  rw [State.loadSettings, h]

theorem State.loadSettings_of_none (h : s.flash.storedSettings = none) :
    s.loadSettings = (s.withSettings
      ⟨Config.defaults, Config.defaults, Config.defaults, false, true, none, none⟩).raiseAll .settings := by
  rw [State.loadSettings, h]

/-- The whole of POWER_ON for a flash at rest and the warning released. -/
theorem State.powerOn_of_idle (idle : s.flash.op = .none) (released : s.journal.warning = false) :
    ∃ (mark : Option (Fin 32)) (op : FlashOp),
      s.powerOn = { s.poweredUp with
        journal := { s.flash.mem.scanned with reErase := mark, owedErase := none }
        flash := { s.flash with op := op } } := by
  obtain ⟨x, p, e⟩ := ({ s.dark with phase := .recovering } : State).loadSettings_frame
  have up : s.poweredUp.flash = s.flash ∧ s.poweredUp.journal.warning = false := by
    rw [State.poweredUp, e, s.dark_of_idle idle]
    exact ⟨rfl, released⟩
  obtain ⟨mark, op, run⟩ := s.poweredUp.scanned_recovery_frame up.2
  rw [up.1] at run
  exact ⟨mark, op, run⟩

theorem Memory.scanned_of_some {m : Memory} {x : Found} (h : m.newestRecord = some x) :
    m.scanned = (Journal.cleared false).placed m x := by
  rw [Memory.scanned, h]

theorem Memory.scanned_of_none {m : Memory} (h : m.newestRecord = none) :
    m.scanned = Journal.cleared false := by
  rw [Memory.scanned, h]

/-- The newest record that the scan keeps is the one of the array. -/
theorem Memory.scanned_newest (m : Memory) :
    m.scanned.newest = m.newestRecord.map fun x => ⟨x.record, x.sector, x.slot⟩ := by
  rcases found : m.newestRecord with _ | x
  · rw [Memory.scanned_of_none found]
    rfl
  · rw [Memory.scanned_of_some found]
    rfl

/-- What the scan leaves at power-on values whatever it finds. -/
theorem Memory.scanned_frame (m : Memory) : m.scanned = { Journal.cleared false with
    sector := m.scanned.sector, slot := m.scanned.slot, nextSeq := m.scanned.nextSeq
    retired := m.scanned.retired, retireOnLeave := m.scanned.retireOnLeave
    newest := m.scanned.newest } := by
  rcases found : m.newestRecord with _ | x
  · rw [Memory.scanned_of_none found]
  · rw [Memory.scanned_of_some found]
    rfl

theorem State.powerOn_beginsRecovery : Claims.PowerOnBeginsRecovery := by
  intro s idle released
  obtain ⟨mark, op, run⟩ := s.powerOn_of_idle idle released
  have dark := s.dark_of_idle idle
  obtain ⟨x, p, loaded⟩ := ({ s.dark with phase := .recovering } : State).loadSettings_frame
  have up : s.poweredUp = { ({ s.dark with phase := .recovering } : State) with
      settings := x, ports := p
      identity := identityOf (s.flash.mem.slice identityAddress Config.recordSize) } := by
    rw [State.poweredUp, loaded, State.readIdentity, dark]
  have exec_run : exec .powerOn s = .next s.powerOn := rfl
  rw [dark] at up
  refine ⟨_, exec_run, ?_⟩
  rw [run]
  refine ⟨?_, rfl, ?_, ?_, ?_, ?_, ?_, ?_, ?_, ?_, ?_, ?_, ?_, ?_, ?_, ?_, ?_, ?_, ?_⟩
  · rw [up]
  · rw [up]; rfl
  · rw [up]; rfl
  · rw [up]; rfl
  · intro r
    rw [up]
    cases r <;> rfl
  · rw [up]
  · intro u
    rw [up]
    exact Table.get_fill _ _
  · rw [up]
  · rw [up]; rfl
  · rw [up]
  · intro l
    have kept := congrArg Line.raw
      (Table.get_build (fun l => ({ Line.powerOn l with raw := (s.line l).raw } : Line)) l)
    rw [up]
    exact kept
  · intro w stored
    have settings : s.poweredUp.settings = ⟨w, w, w, true, false, none, none⟩
        ∧ s.poweredUp.ports = PerPort.all PortState.powerOn := by
      rw [State.poweredUp, State.loadSettings_of_stored _ (w := w) (by rw [dark]; exact stored), dark]
      exact ⟨rfl, rfl⟩
    exact ⟨settings.1, fun q => by rw [State.port, settings.2, PerPort.get_all]⟩
  · intro stored
    have settings : s.poweredUp.settings
          = ⟨Config.defaults, Config.defaults, Config.defaults, false, true, none, none⟩
        ∧ s.poweredUp.ports = (PerPort.all PortState.powerOn).map (PortState.raise .settings) := by
      rw [State.poweredUp, State.loadSettings_of_none _ (by rw [dark]; exact stored), dark]
      exact ⟨rfl, rfl⟩
    exact ⟨settings.1, fun q => by rw [State.port, settings.2, PerPort.get_map, PerPort.get_all]; rfl⟩
  · have identity : s.poweredUp.identity
        = identityOf (s.flash.mem.slice (33 * 4096) 512) := by
      rw [up]
      rfl
    intro b
    have length : b.length = 512 := Memory.slice_length _ _ _
    rw [identity]
    refine ⟨rfl, rfl, rfl, ?_, ?_, ?_⟩
    · exact toNat_ofBe_four (by rw [List.length_take, List.length_drop, length]; rfl)
    · exact toNat_ofBe_four (by rw [List.length_take, List.length_drop, length]; rfl)
    · exact recordSound_iff Config.identityMarker length
  · intro a b r valid
    obtain ⟨found, newest, le⟩ := (Memory.newestRecord_spec s.flash.mem).2 a b r valid
    refine ⟨⟨found.record, found.sector, found.slot⟩, ?_, le⟩
    exact (Memory.scanned_newest _).trans (by rw [newest]; rfl)
  · intro x newest
    have held := (Memory.scanned_newest s.flash.mem).symm.trans newest
    obtain ⟨found, read, rfl⟩ := Option.map_eq_some_iff.1 held
    refine ⟨((Memory.newestRecord_spec s.flash.mem).1 found read).1, ?_, ?_⟩
    · exact congrArg Journal.nextSeq (Memory.scanned_of_some read)
    · exact congrArg Journal.retired (Memory.scanned_of_some read)
  · intro newest
    have held := (Memory.scanned_newest s.flash.mem).symm.trans newest
    have scan := Memory.scanned_of_none (Option.map_eq_none_iff.1 held)
    exact ⟨congrArg Journal.nextSeq scan, congrArg Journal.retired scan, congrArg Journal.sector scan,
      congrArg Journal.slot scan⟩
  · have frame := Memory.scanned_frame s.flash.mem
    exact ⟨congrArg Journal.programFailures frame, congrArg Journal.eraseFailures frame,
      congrArg Journal.pending frame, congrArg Journal.countChanged frame, congrArg Journal.lastCapture frame,
      congrArg Journal.taken frame, rfl⟩

/-! ### The last copy of the newest record (R147, R153, R159) -/

theorem State.powerOn_takesLastCopy : Claims.LastCopyIsTaken := by
  unfold Claims.LastCopyIsTaken
  intro s idle released holds place after
  obtain ⟨mark, op, run⟩ := s.powerOn_of_idle idle released
  refine ⟨s.powerOn, rfl, fun x newest => ?_⟩
  rw [run] at newest
  have held := (Memory.scanned_newest s.flash.mem).symm.trans newest
  obtain ⟨found, read, rfl⟩ := Option.map_eq_some_iff.1 held
  obtain ⟨valid, last⟩ := (Memory.newestRecord_spec s.flash.mem).1 found read
  intro older
  have distance (z : Found) (c : Fin 32) (d : Fin 8) :
      z.distance (slotPlace c d) = after c d z.sector z.slot := by
    simp only [Found.distance, slotPlace, Fin.sub_def, after, place]
    omega
  refine ⟨fun c d o stands old alone a b r copy same => ?_, fun none a b r copy same => ?_⟩
  · have start : placeBefore s.flash.mem.validRecords found.record.seq = slotPlace c d := by
      refine placeBefore_of_newest (y := ⟨o, c, d⟩) ((Memory.mem_validRecords _ _).2 stands) old ?_
      rintro ⟨p, e, f⟩ mem below
      have valid' := (Memory.mem_validRecords _ _).1 mem
      rcases alone e f p valid' below with less | ⟨rfl, rfl⟩
      · exact .inl less
      · rw [stands] at valid'
        cases valid'
        exact .inr rfl
    have le := last ⟨r, a, b⟩ copy same
    rw [start, distance, distance] at le
    exact le
  · have start : placeBefore s.flash.mem.validRecords found.record.seq = 0 :=
      placeBefore_of_none fun z mem => none z.sector z.slot z.record ((Memory.mem_validRecords _ _).1 mem)
    have le := last ⟨r, a, b⟩ copy same
    rw [start, Found.distance, Found.distance, sub_zero, sub_zero] at le
    exact le

/-! ### The end of recovery (R25, R145, R160, R161, R181) -/

section
variable {s : State}

theorem State.endRecovery_of_done (phase : s.phase = .recovering) (idle : s.flash.op = .none)
    (taken : s.journal.taken = false) (blank : s.recoveryErase = none) :
    s.endRecovery = { s.handOverRecovered.announceJournal.awaitBaseline with phase := .baselining } := by
  have done : s.recoveryDone = true := by
    simp [State.recoveryDone, phase, idle, taken, blank]
  rw [State.endRecovery, if_pos done]

theorem State.handOverRecovered_of_record {x : NewestRecord} (h : s.journal.newest = some x) :
    s.handOverRecovered = { s with
      tb := s.tb.start x.record.second x.record.integral
      tally := { s.tally with units := x.record.units.map UnitTally.recovered }
      shift := { s.shift with identity := x.record.shift }
      ring := { s.ring with orderly := x.record.causes.getLsbD 5 } } := by
  rw [State.handOverRecovered, h]

theorem State.handOverRecovered_of_none (h : s.journal.newest = none) :
    s.handOverRecovered = { s with
      tb := s.tb.start 0 0
      shift := { s.shift with identity := ⟨0, 0, 0, firstInstantAfter s.settings.working.instants 0⟩ } } := by
  rw [State.handOverRecovered, h]
  rfl

/-- Before START the JOURNAL record of recovery waits behind those handed before it (R110, R161). -/
theorem State.announceJournal_of_unstarted (unstarted : s.ring.started = false) :
    s.announceJournal = { s with
      journal := { s.journal with state := s.journal.recoveredState, recoveredAt := s.tb.runClock }
      ring := { s.ring with
        deferred := s.ring.deferred ++ [s.ownRecord .journal (datumOf 0 s.journal.recoveredState.code)] }
      ports := if s.journal.recoveredState = .normal then s.ports
        else s.ports.map (PortState.raise .journal) } := by
  have noted (t : State) (h : t.ring.started = false) (k : Kind) (d : BitVec 16) :
      t.note k d = t.withRing { t.ring with deferred := t.ring.deferred ++ [t.ownRecord k d] } :=
    t.append_held _ h
  unfold State.announceJournal
  simp only
  rw [noted _ (by exact unstarted)]
  split <;> rfl

/-- The journal state that the retired sectors and the newest record give (R160). -/
theorem Journal.recoveredState_eq (j : Journal) :
    j.recoveredState = if 29 ≤ retiredCount j.retired then .failed
      else if j.newest = none then .empty
      else if 8 ≤ retiredCount j.retired then .degraded else .normal := by
  unfold Journal.recoveredState stateOfRetired
  generalize retiredCount j.retired = n
  rcases j.newest with _ | x
  · by_cases failed : 29 ≤ n
    · simp [failed, show ¬ n ≤ 7 by omega, show ¬ n ≤ 28 by omega]
    · by_cases few : n ≤ 7
      · simp [failed, few]
      · simp [failed, few, show n ≤ 28 by omega]
  · by_cases failed : 29 ≤ n
    · simp [failed, show ¬ n ≤ 7 by omega, show ¬ n ≤ 28 by omega]
    · by_cases few : n ≤ 7
      · simp [failed, few, show ¬ 8 ≤ n by omega]
      · simp [failed, few, show n ≤ 28 by omega, show 8 ≤ n by omega]

end

/-- What the end of recovery hands over: the newest record's values, or those each block has without one
(R25, R145, R161, R181). -/
theorem State.handOverRecovered_frame (s : State) :
    ∃ (y : TallyUnit) (x : ShiftIdentity) (o : Bool),
      s.handOverRecovered = { s with
        tb := s.tb.start (match s.journal.newest with | some z => z.record.second | none => 0)
          (match s.journal.newest with | some z => z.record.integral | none => 0)
        tally := y, shift := { s.shift with identity := x }, ring := { s.ring with orderly := o } }
      ∧ (∀ z, s.journal.newest = some z → x = z.record.shift ∧ o = z.record.causes.getLsbD 5
          ∧ y.units = z.record.units.map UnitTally.recovered)
      ∧ (s.journal.newest = none →
          y = s.tally ∧ x = ⟨0, 0, 0, firstInstantAfter s.settings.working.instants 0⟩) := by
  rcases newest : s.journal.newest with _ | z
  · refine ⟨s.tally, _, s.ring.orderly, State.handOverRecovered_of_none newest, by simp,
      fun _ => ⟨rfl, rfl⟩⟩
  · refine ⟨{ s.tally with units := z.record.units.map UnitTally.recovered }, z.record.shift,
      z.record.causes.getLsbD 5, State.handOverRecovered_of_record newest, fun w same => ?_, by simp⟩
    obtain rfl := Option.some.inj same
    exact ⟨rfl, rfl, rfl⟩

theorem State.endOfRecovery_handsValuesOver : Claims.EndOfRecoveryHandsValuesOver := by
  unfold Claims.EndOfRecoveryHandsValuesOver
  intro s phase idle taken blank unstarted retired state integral
  obtain ⟨y, i, o, handed, ofRecord, ofNone⟩ := s.handOverRecovered_frame
  have announced := State.announceJournal_of_unstarted (s := s.handOverRecovered) (by rw [handed]; exact unstarted)
  have judged : s.handOverRecovered.journal.recoveredState = state := by
    rw [handed]
    exact s.journal.recoveredState_eq
  rw [judged] at announced
  have whole : s.endRecovery
      = { s.handOverRecovered.announceJournal.awaitBaseline with phase := .baselining } :=
    State.endRecovery_of_done phase idle taken blank
  rw [announced, handed] at whole
  have tally : s.endRecovery.tally = y := by
    rw [whole]
    rfl
  refine ⟨s.endRecovery, rfl, by rw [whole], by rw [whole]; rfl, by rw [whole]; rfl, by rw [whole]; rfl,
    fun x newest => ?_, fun newest => ?_, by rw [whole]; rfl, by rw [whole]; rfl, ?_, fun abnormal => ?_⟩
  · obtain ⟨same, orderly, units⟩ := ofRecord x newest
    refine ⟨by rw [whole, ← same]; rfl, by rw [whole, ← orderly]; rfl, fun u => ?_⟩
    rw [State.tallyOf, tally, units, Table.get_map]
    refine ⟨rfl, fun m => ?_⟩
    have cap : Config.tallyCap = 3599999999999 := rfl
    rw [← cap]
    cases m <;> exact beq_eq_decide _ _
  · obtain ⟨same, identity⟩ := ofNone newest
    exact ⟨tally.trans same, by rw [whole, ← identity]; rfl⟩
  · refine ⟨(s.handOverRecovered).ownRecord .journal (datumOf 0 state.code), ?_, rfl, ?_, ?_⟩
    · rw [whole, handed]
      rfl
    · rw [whole, handed]
      rfl
    · cases state <;> rfl
  · have ports : s.endRecovery.ports = s.ports.map (PortState.raise .journal) := by
      rw [whole]
      exact if_neg abnormal
    intro q
    rw [State.port, ports, PerPort.get_map, PortState.raise_latch, decide_eq_true rfl, Bool.or_true]

end Sys2Proof.Machine
end

section
/-! The stored settings copy: which one is valid, how a record is laid out, and that it reads back (R68, R148,
R164, R198, R205, R209). The rest of O56. -/

namespace Sys2Proof.Machine

/-! ### Whether a value is admitted does not depend on the settings it goes into -/

theorem inRange_isSome (low high n : Nat) (w : Settings) :
    (inRange low high n w).isSome = decide (low ≤ n ∧ n ≤ high) := by
  unfold inRange
  split <;> simp_all

theorem onStep_isSome (high n : Nat) (w : Settings) :
    (onStep high n w).isSome = decide (n ≤ high ∧ n % 50 = 0) := by
  unfold onStep
  split <;> simp_all

theorem Settings.put_isSome_congr (w x : Settings) (item qual : Byte) (v : List Byte) :
    (Settings.put w item qual v).isSome = (Settings.put x item qual v).isSome := by
  unfold Settings.put
  simp only
  generalize item.toNat = i
  split
  any_goals simp only [inRange_isSome, onStep_isSome]
  · rcases unitNamed qual with _ | u <;> rcases planOf v with _ | p <;> rfl
  · rcases unitNamed qual with _ | u <;> rfl
  · split <;> rfl
  · split <;> rfl
  · rcases portNamed qual with _ | q <;> rfl

/-! ### The keys of the record and their widths (R205, R209) -/

/-- How many bytes a key's value takes. -/
def keyWidth (k : Byte × Byte) : Nat := (valueLength k.1).getD 0

theorem takeValues_isSome (keys : List (Byte × Byte)) (bytes : List Byte) (w x : Settings) :
    (takeValues keys bytes w).isSome = true
      ↔ ∀ (i : Nat) (k : Byte × Byte), keys[i]? = some k →
        (Settings.put x k.1 k.2
          ((bytes.drop ((keys.take i).map keyWidth).sum).take (keyWidth k))).isSome = true := by
  induction keys generalizing bytes w with
  | nil => simp [takeValues]
  | cons k rest ih =>
    have own := Settings.put_isSome_congr w x k.1 k.2 (bytes.take (keyWidth k))
    have later (y : Settings) : (takeValues rest (bytes.drop (keyWidth k)) y).isSome = true
        ↔ ∀ (i : Nat) (j : Byte × Byte), (k :: rest)[i + 1]? = some j →
          (Settings.put x j.1 j.2 ((bytes.drop (((k :: rest).take (i + 1)).map keyWidth).sum).take
            (keyWidth j))).isSome = true := by
      rw [ih]
      simp only [List.drop_drop, List.getElem?_cons_succ, List.take_succ_cons, List.map_cons, List.sum_cons]
    have step : takeValues (k :: rest) bytes w
        = match Settings.put w k.1 k.2 (bytes.take (keyWidth k)) with
          | some y => takeValues rest (bytes.drop (keyWidth k)) y
          | none => none := rfl
    rw [step]
    rcases taken : Settings.put w k.1 k.2 (bytes.take (keyWidth k)) with _ | y
    · rw [taken] at own
      refine ⟨fun none => by simp at none, fun all => ?_⟩
      have first := all 0 k rfl
      simp only [List.take_zero, List.map_nil, List.sum_nil, List.drop_zero] at first
      rw [first] at own
      simp at own
    · rw [taken] at own
      rw [later y]
      constructor
      · intro all i j at_i
        cases i with
        | zero =>
          obtain rfl : k = j := by simpa using at_i
          simpa using own.symm
        | succ i => exact all i j at_i
      · exact fun all i j at_i => all (i + 1) j at_i

theorem readSettingsRecord_isSome {bytes : List Byte} (length : bytes.length = 512) :
    (readSettingsRecord bytes).isSome = true
      ↔ bytes.take 4 = [0x5C, 0x4A, 0x53, 0xE7] ∧ bytes.drop 508 = be 4 (crc (bytes.take 508)).toNat
        ∧ ∀ (i : Nat) (k : Byte × Byte), settingKeys[i]? = some k →
          (Settings.put Config.defaults k.1 k.2
            ((bytes.drop (4 + ((settingKeys.take i).map keyWidth).sum)).take (keyWidth k))).isSome = true := by
  have sound := recordSound_iff Config.settingsMarker length
  have marker : be 4 Config.settingsMarker.toNat = [0x5C, 0x4A, 0x53, 0xE7] := by decide
  rw [marker] at sound
  rw [readSettingsRecord, ← and_assoc, ← sound]
  split
  · rename_i good
    rw [takeValues_isSome settingKeys _ _ Config.defaults]
    simp only [good, true_and, List.drop_drop]
  · rename_i bad
    simp [bad]

theorem Flash.storedSettings_of_sound {f : Flash} (h : f.spoiled = false) :
    f.storedSettings = readSettingsRecord (f.mem.slice (32 * 4096) 512) := by
  rw [Flash.storedSettings, h]
  rfl

theorem Flash.storedSettings_of_spoiled {f : Flash} (h : f.spoiled = true) : f.storedSettings = none := by
  rw [Flash.storedSettings, h]
  rfl

/-! ### A record reads back (R198, R209) -/

/-- The bytes that a key takes in the record of `w`. -/
def Settings.bytesOf (w : Settings) (k : Byte × Byte) : List Byte := (Settings.valueOf w k.1 k.2).getD []

/-- The settings `x` with the item and qualifier of a key taken from `w`. -/
def Settings.taking (w x : Settings) (k : Byte × Byte) : Settings :=
  match k.1.toNat with
  | 0x01 => { x with stepThreshold := w.stepThreshold }
  | 0x02 => { x with holdoverDrift := w.holdoverDrift }
  | 0x03 => { x with alarmClass := w.alarmClass }
  | 0x04 => { x with spacingTolerance := w.spacingTolerance }
  | 0x05 => { x with disagreementLimit := w.disagreementLimit }
  | 0x06 => { x with priority := w.priority }
  | 0x07 => { x with bitPeriodP := w.bitPeriodP }
  | 0x08 => { x with delayD := w.delayD }
  | 0x09 => { x with strobeWidth := w.strobeWidth }
  | 0x0A =>
    match unitNamed k.2 with
    | some u => { x with plans := x.plans.set u (w.plans.get u) }
    | none => x
  | 0x0B =>
    match unitNamed k.2 with
    | some u => { x with polarities := x.polarities.set u (w.polarities.get u) }
    | none => x
  | 0x0C => { x with scanPeriod := w.scanPeriod }
  | 0x0D => { x with fastDebounce := w.fastDebounce }
  | 0x0E => { x with scannedDebounce := w.scannedDebounce }
  | 0x0F => { x with chatterLimit := w.chatterLimit }
  | 0x10 => { x with chatterWindow := w.chatterWindow }
  | 0x11 => { x with settleTime := w.settleTime }
  | 0x12 => { x with testLength := w.testLength }
  | 0x13 => { x with tripWindow := w.tripWindow }
  | 0x14 => { x with lookback := w.lookback }
  | 0x15 => { x with checkpointInterval := w.checkpointInterval }
  | 0x16 => { x with instants := w.instants }
  | 0x17 => { x with earlyMargin := w.earlyMargin }
  | 0x18 => { x with grace := w.grace }
  | 0x19 =>
    match portNamed k.2 with
    | some q => { x with enables := x.enables.set q (w.enables.get q) }
    | none => x
  | _ => x

/-- The keys of items 0x01 to 0x09. -/
def timeKeys : List (Byte × Byte) := [(1, 0), (2, 0), (3, 0), (4, 0), (5, 0), (6, 0), (7, 0), (8, 0), (9, 0)]

/-- The keys of an item kept per unit. -/
def unitKeys (item : Byte) : List (Byte × Byte) :=
  [(item, 1), (item, 2), (item, 3), (item, 4), (item, 5), (item, 6)]

/-- The keys of items 0x0C to 0x12. -/
def lineKeys : List (Byte × Byte) :=
  [(0x0C, 0), (0x0D, 0), (0x0E, 0), (0x0F, 0), (0x10, 0), (0x11, 0), (0x12, 0)]

/-- The keys of items 0x13 to 0x18. -/
def tripKeys : List (Byte × Byte) := [(0x13, 0), (0x14, 0), (0x15, 0), (0x16, 0), (0x17, 0), (0x18, 0)]

/-- The keys of the enable sets. -/
def portKeys : List (Byte × Byte) := [(0x19, 1), (0x19, 2), (0x19, 3)]

/-- The keys of the record, in groups. -/
theorem settingKeys_eq : settingKeys
    = timeKeys ++ (unitKeys 0x0A ++ (unitKeys 0x0B ++ (lineKeys ++ (tripKeys ++ portKeys)))) := by
  decide +kernel

theorem Table.set_all_six {α : Type} (x y : Table 6 α) :
    ((((((x.set 0 (y.get 0)).set 1 (y.get 1)).set 2 (y.get 2)).set 3 (y.get 3)).set 4 (y.get 4)).set 5
      (y.get 5)) = y := by
  refine Table.ext_get fun u => ?_
  fin_cases u <;> simp [Table.get_set_other]

theorem PerPort.set_all {α : Type} (x y : PerPort α) :
    ((x.set .g (y.get .g)).set .p (y.get .p)).set .s (y.get .s) = y := rfl

section
variable (w x : Settings)

theorem Settings.taking_time : timeKeys.foldl (Settings.taking w) x = { x with
    stepThreshold := w.stepThreshold, holdoverDrift := w.holdoverDrift, alarmClass := w.alarmClass
    spacingTolerance := w.spacingTolerance, disagreementLimit := w.disagreementLimit, priority := w.priority
    bitPeriodP := w.bitPeriodP, delayD := w.delayD, strobeWidth := w.strobeWidth } := by
  simp [timeKeys, Settings.taking]

theorem unitNamed_literals : unitNamed 1 = some 0 ∧ unitNamed 2 = some 1 ∧ unitNamed 3 = some 2
    ∧ unitNamed 4 = some 3 ∧ unitNamed 5 = some 4 ∧ unitNamed 6 = some 5 := by
  decide

theorem Settings.taking_plan {qual : Byte} {u : UnitId} (h : unitNamed qual = some u) :
    Settings.taking w x (0x0A, qual) = { x with plans := x.plans.set u (w.plans.get u) } := by
  simp [Settings.taking, h]

theorem Settings.taking_polarity {qual : Byte} {u : UnitId} (h : unitNamed qual = some u) :
    Settings.taking w x (0x0B, qual) = { x with polarities := x.polarities.set u (w.polarities.get u) } := by
  simp [Settings.taking, h]

theorem Settings.taking_plans : (unitKeys 0x0A).foldl (Settings.taking w) x = { x with plans := w.plans } := by
  obtain ⟨one, two, three, four, five, six⟩ := unitNamed_literals
  have all := Table.set_all_six x.plans w.plans
  simp only [unitKeys, List.foldl_cons, List.foldl_nil, Settings.taking_plan _ _ one,
    Settings.taking_plan _ _ two, Settings.taking_plan _ _ three, Settings.taking_plan _ _ four,
    Settings.taking_plan _ _ five, Settings.taking_plan _ _ six, all]

theorem Settings.taking_polarities :
    (unitKeys 0x0B).foldl (Settings.taking w) x = { x with polarities := w.polarities } := by
  obtain ⟨one, two, three, four, five, six⟩ := unitNamed_literals
  have all := Table.set_all_six x.polarities w.polarities
  simp only [unitKeys, List.foldl_cons, List.foldl_nil, Settings.taking_polarity _ _ one,
    Settings.taking_polarity _ _ two, Settings.taking_polarity _ _ three, Settings.taking_polarity _ _ four,
    Settings.taking_polarity _ _ five, Settings.taking_polarity _ _ six, all]

theorem Settings.taking_line : lineKeys.foldl (Settings.taking w) x = { x with
    scanPeriod := w.scanPeriod, fastDebounce := w.fastDebounce, scannedDebounce := w.scannedDebounce
    chatterLimit := w.chatterLimit, chatterWindow := w.chatterWindow, settleTime := w.settleTime
    testLength := w.testLength } := by
  simp [lineKeys, Settings.taking]

theorem Settings.taking_trip : tripKeys.foldl (Settings.taking w) x = { x with
    tripWindow := w.tripWindow, lookback := w.lookback, checkpointInterval := w.checkpointInterval
    instants := w.instants, earlyMargin := w.earlyMargin, grace := w.grace } := by
  simp [tripKeys, Settings.taking]

theorem Settings.taking_enables :
    portKeys.foldl (Settings.taking w) x = { x with enables := w.enables } := by
  have all := PerPort.set_all x.enables w.enables
  simp [portKeys, Settings.taking, portNamed, all]

/-- Every item taken from `w` gives `w`. -/
theorem Settings.taking_all : settingKeys.foldl (Settings.taking w) x = w := by
  simp only [settingKeys_eq, List.foldl_append, Settings.taking_time, Settings.taking_plans,
    Settings.taking_polarities, Settings.taking_line, Settings.taking_trip, Settings.taking_enables]

end

/-- The value of a key of `w` is admitted, and sets what `w` has. -/
def Settings.Reads (w : Settings) (k : Byte × Byte) : Prop :=
  ∀ x, Settings.put x k.1 k.2 (Settings.bytesOf w k) = some (Settings.taking w x k)

theorem takeValues_bytesOf {w : Settings} {keys : List (Byte × Byte)}
    (read : ∀ k ∈ keys, Settings.Reads w k)
    (width : ∀ k ∈ keys, (Settings.bytesOf w k).length = keyWidth k) (tail : List Byte) (x : Settings) :
    takeValues keys (keys.flatMap (Settings.bytesOf w) ++ tail) x = some (keys.foldl (Settings.taking w) x) := by
  induction keys generalizing x with
  | nil => rfl
  | cons k rest ih =>
    have own := width k (by simp)
    have step (bytes : List Byte) : takeValues (k :: rest) bytes x
        = match Settings.put x k.1 k.2 (bytes.take (keyWidth k)) with
          | some y => takeValues rest (bytes.drop (keyWidth k)) y
          | none => none := rfl
    rw [step, List.flatMap_cons, List.append_assoc, ← own, List.take_left, List.drop_left, read k (by simp)]
    exact ih (fun j hj => read j (by simp [hj])) (fun j hj => width j (by simp [hj])) _

/-! ### Each value of a record in its ranges is admitted (R198, R205) -/

theorem inRange_be {low high size v : Nat} (f : Nat → Settings) (least : low ≤ v) (most : v ≤ high)
    (fits : high < 256 ^ size) : inRange low high (ofBe (be size v)) (f (ofBe (be size v))) = some (f v) := by
  rw [ofBe_be_of_lt (by omega), inRange, if_pos ⟨least, most⟩]

theorem onStep_be {high size v : Nat} (f : Nat → Settings) (most : v ≤ high) (step : v % 50 = 0)
    (fits : high < 256 ^ size) : onStep high (ofBe (be size v)) (f (ofBe (be size v))) = some (f v) := by
  rw [ofBe_be_of_lt (by omega), onStep, if_pos ⟨most, step⟩]

theorem Settings.put_priorityByte (x : Settings) (p : RefId) :
    Settings.put x 6 0 (RefId.priorityByte p) = some { x with priority := p } := by
  cases p <;> rfl

/-- A list of instants as its count and its minutes (R205). -/
theorem instantsOf_instantBytes {xs : List Nat} (two : 2 ≤ xs.length) (four : xs.length ≤ 4)
    (day : ∀ m ∈ xs, m ≤ 1439) : instantsOf (instantBytes xs) = xs := by
  have below (i : Nat) : xs.getD i 0 < 65536 := by
    rcases lt_or_ge i xs.length with inside | outside
    · have least := day (xs[i]) (List.getElem_mem inside)
      rw [List.getD_eq_getElem _ _ inside]
      omega
    · rw [List.getD_eq_default _ _ outside]
      omega
  have head : byteOf xs.length = [BitVec.ofNat 8 xs.length] := by
    simp [byteOf, be]
  have count : (BitVec.ofNat 8 xs.length).toNat = xs.length := Nat.mod_eq_of_lt (by omega)
  rw [instantBytes, head, instantsOf_body (below 0) (below 1) (below 2) (below 3), count, if_pos four]
  rcases xs with _ | ⟨a, _ | ⟨b, _ | ⟨c, _ | ⟨d, _ | ⟨e, rest⟩⟩⟩⟩⟩
  all_goals first
    | rfl
    | (simp only [List.length_cons] at four; omega)

theorem spaced_of_isChain {xs : List Nat} (h : xs.IsChain fun a b => a + 60 ≤ b) : spaced xs = true := by
  induction xs with
  | nil => rfl
  | cons a rest ih =>
    rcases rest with _ | ⟨b, more⟩
    · rfl
    · obtain ⟨first, later⟩ := List.isChain_cons_cons.1 h
      rw [spaced, decide_eq_true first, ih later]
      rfl

section
variable {w : Settings}

theorem Settings.reads_time (h : Settings.InRanges w) : ∀ k ∈ timeKeys, Settings.Reads w k := by
  obtain ⟨ts, ts', hd, hd', ac, ac', st, st', dl, dl', p, d, d', sw, sw', -⟩ := h
  simp only [timeKeys, List.forall_mem_cons]
  refine ⟨fun x => ?_, fun x => ?_, fun x => ?_, fun x => ?_, fun x => ?_, fun x => ?_, fun x => ?_,
    fun x => ?_, fun x => ?_, by simp⟩
  · exact inRange_be (fun n => { x with stepThreshold := n }) ts ts' (by norm_num)
  · exact inRange_be (fun n => { x with holdoverDrift := n }) hd hd' (by norm_num)
  · exact inRange_be (fun n => { x with alarmClass := n }) ac ac' (by norm_num)
  · exact inRange_be (fun n => { x with spacingTolerance := n }) st st' (by norm_num)
  · exact inRange_be (fun n => { x with disagreementLimit := n }) dl dl' (by norm_num)
  · exact Settings.put_priorityByte x w.priority
  · exact inRange_be (fun n => { x with bitPeriodP := n }) (Nat.zero_le _) p (by norm_num)
  · exact inRange_be (fun n => { x with delayD := n }) d d' (by norm_num)
  · exact inRange_be (fun n => { x with strobeWidth := n }) sw sw' (by norm_num)

theorem Settings.reads_line (h : Settings.InRanges w) : ∀ k ∈ lineKeys, Settings.Reads w k := by
  obtain ⟨-, -, -, -, -, -, -, -, -, -, -, -, -, -, -, -, sp, fd, fd', sd, sd', cl, cl', cw, cw', st, tl, tl', -⟩
    := h
  simp only [lineKeys, List.forall_mem_cons]
  refine ⟨fun x => ?_, fun x => ?_, fun x => ?_, fun x => ?_, fun x => ?_, fun x => ?_, fun x => ?_, by simp⟩
  · have value : ofBe (be 2 w.scanPeriod) = w.scanPeriod := ofBe_be_of_lt (by omega)
    change (if ofBe (be 2 w.scanPeriod) = 250 ∨ ofBe (be 2 w.scanPeriod) = 500 ∨ ofBe (be 2 w.scanPeriod) = 1000
      then some { x with scanPeriod := ofBe (be 2 w.scanPeriod) } else none) = _
    rw [value]
    exact if_pos sp
  · exact onStep_be (fun n => { x with fastDebounce := n }) fd fd' (by norm_num)
  · exact onStep_be (fun n => { x with scannedDebounce := n }) sd sd' (by norm_num)
  · exact inRange_be (fun n => { x with chatterLimit := n }) cl cl' (by norm_num)
  · exact inRange_be (fun n => { x with chatterWindow := n }) cw cw' (by norm_num)
  · exact inRange_be (fun n => { x with settleTime := n }) (Nat.zero_le _) st (by norm_num)
  · exact inRange_be (fun n => { x with testLength := n }) tl tl' (by norm_num)

theorem Settings.reads_trip (h : Settings.InRanges w) : ∀ k ∈ tripKeys, Settings.Reads w k := by
  obtain ⟨-, -, -, -, -, -, -, -, -, -, -, -, -, -, -, -, -, -, -, -, -, -, -, -, -, -, -, -, tw, tw', lb, ci, ci',
    two, four, day, apart, round, em, g, g'⟩ := h
  simp only [tripKeys, List.forall_mem_cons]
  refine ⟨fun x => ?_, fun x => ?_, fun x => ?_, fun x => ?_, fun x => ?_, fun x => ?_, by simp⟩
  · exact inRange_be (fun n => { x with tripWindow := n }) tw tw' (by norm_num)
  · exact inRange_be (fun n => { x with lookback := n }) (Nat.zero_le _) lb (by norm_num)
  · exact inRange_be (fun n => { x with checkpointInterval := n }) ci ci' (by norm_num)
  · have instants := instantsOf_instantBytes two four day
    have allowed : instantsAllowed w.instants = true := by
      simp only [instantsAllowed, spaced_of_isChain apart, Bool.and_eq_true, decide_eq_true_eq, List.all_eq_true,
        and_true]
      exact ⟨⟨⟨two, four⟩, day⟩, round⟩
    change Settings.put x 0x16 0 (instantBytes w.instants) = some { x with instants := w.instants }
    rw [Settings.put_instants, instants, if_pos allowed]
  · exact inRange_be (fun n => { x with earlyMargin := n }) (Nat.zero_le _) em (by norm_num)
  · exact inRange_be (fun n => { x with grace := n }) g g' (by norm_num)

/-- The roles of a line plan in its range are those a body can name (R68). -/
theorem planOf_roles {plan : LinePlan} (h : plan.list.count .running = 1 ∧ plan.list.count .pump ≤ 1
    ∧ plan.list.count .condenser ≤ 1 ∧ plan.list.count .masterTrip = 0 ∧ plan.list.count .breaker = 0) :
    planOf (plan.list.map fun r => BitVec.ofNat 8 r.code) = some plan := by
  obtain ⟨running, pump, condenser, trip, breaker⟩ := h
  have plain : ∀ r ∈ plan.list, r ≠ .masterTrip ∧ r ≠ .breaker := by
    intro r mem
    refine ⟨?_, ?_⟩
    · rintro rfl
      exact List.count_eq_zero.1 trip mem
    · rintro rfl
      exact List.count_eq_zero.1 breaker mem
  have bytes : (plan.list.map fun r => BitVec.ofNat 8 r.code) = plan.list.flatMap fun r => byteOf r.code := by
    rw [List.map_eq_flatMap]
    simp [byteOf, be]
  rw [bytes, planOf_codes plain]
  exact if_pos (decide_eq_true ⟨running, pump, condenser⟩)

theorem Settings.reads_plan (h : Settings.InRanges w) {qual : Byte} {u : UnitId} (unit : unitNamed qual = some u) :
    Settings.Reads w (0x0A, qual) := by
  obtain ⟨-, -, -, -, -, -, -, -, -, -, -, -, -, -, -, plans, -⟩ := h
  intro x
  rw [Settings.taking_plan _ _ unit]
  have value : Settings.bytesOf w (0x0A, qual) = (w.plans.get u).list.map fun r => BitVec.ofNat 8 r.code := by
    simp [Settings.bytesOf, Settings.valueOf, unit]
  rw [value]
  exact Settings.put_plan_of_plan unit (planOf_roles (plans u))

theorem Settings.reads_polarity {qual : Byte} {u : UnitId} (unit : unitNamed qual = some u) :
    Settings.Reads w (0x0B, qual) := by
  intro x
  rw [Settings.taking_polarity _ _ unit]
  have value : Settings.bytesOf w (0x0B, qual) = [w.polarities.get u] := by
    simp [Settings.bytesOf, Settings.valueOf, unit]
  rw [value, Settings.put_polarities_of_unit unit]
  simp [ofBe]

theorem Settings.reads_enable {qual : Byte} {q : Port} (port : portNamed qual = some q) :
    Settings.Reads w (0x19, qual) := by
  intro x
  have set : Settings.taking w x (0x19, qual) = { x with enables := x.enables.set q (w.enables.get q) } := by
    simp [Settings.taking, port]
  have value : Settings.bytesOf w (0x19, qual) = be 2 (w.enables.get q).toNat := by
    simp [Settings.bytesOf, Settings.valueOf, port]
  have number : ofBe (be 2 (w.enables.get q).toNat) = (w.enables.get q).toNat :=
    ofBe_be_of_lt (by have := (w.enables.get q).isLt; omega)
  rw [set, value, Settings.put_enables_of_port port, number, BitVec.ofNat_toNat, BitVec.setWidth_eq]

theorem Settings.reads_all (h : Settings.InRanges w) : ∀ k ∈ settingKeys, Settings.Reads w k := by
  obtain ⟨one, two, three, four, five, six⟩ := unitNamed_literals
  have plans : ∀ k ∈ unitKeys 0x0A, Settings.Reads w k := by
    simp only [unitKeys, List.forall_mem_cons]
    exact ⟨Settings.reads_plan h one, Settings.reads_plan h two, Settings.reads_plan h three,
      Settings.reads_plan h four, Settings.reads_plan h five, Settings.reads_plan h six, by simp⟩
  have polarities : ∀ k ∈ unitKeys 0x0B, Settings.Reads w k := by
    simp only [unitKeys, List.forall_mem_cons]
    exact ⟨Settings.reads_polarity one, Settings.reads_polarity two, Settings.reads_polarity three,
      Settings.reads_polarity four, Settings.reads_polarity five, Settings.reads_polarity six, by simp⟩
  have enables : ∀ k ∈ portKeys, Settings.Reads w k := by
    simp only [portKeys, List.forall_mem_cons]
    exact ⟨Settings.reads_enable (q := .g) rfl, Settings.reads_enable (q := .p) rfl,
      Settings.reads_enable (q := .s) rfl, by simp⟩
  simp only [settingKeys_eq, List.forall_mem_append]
  exact ⟨Settings.reads_time h, plans, polarities, Settings.reads_line h, Settings.reads_trip h, enables⟩

theorem Settings.bytesOf_length (w : Settings) :
    ∀ k ∈ settingKeys, (Settings.bytesOf w k).length = keyWidth k := by
  have priority : (RefId.priorityByte w.priority).length = 1 := by
    cases w.priority <;> rfl
  have plan (u : UnitId) : (w.plans.get u).list.length = 6 := (w.plans.get u).size
  simp only [settingKeys_eq, List.forall_mem_append, timeKeys, unitKeys, lineKeys, tripKeys, portKeys,
    List.forall_mem_cons]
  simp [Settings.bytesOf, Settings.valueOf, keyWidth, valueLength, priority, plan, unitNamed, portNamed,
    instantBytes, byteOf]

end

/-! ### The record laid out (R148, R209) -/

section
variable {w : Settings}

theorem Settings.record_eq (w : Settings) :
    Settings.record w = sealRecord Config.settingsMarker (settingKeys.flatMap (Settings.bytesOf w)) := rfl

/-- The values of a record take 98 bytes. -/
theorem Settings.values_length (w : Settings) : (settingKeys.flatMap (Settings.bytesOf w)).length ≤ 504 := by
  have widths : settingKeys.map (fun k => (Settings.bytesOf w k).length) = settingKeys.map keyWidth :=
    List.map_congr_left (Settings.bytesOf_length w)
  rw [List.length_flatMap, widths]
  decide +kernel

theorem readSettingsRecord_record (h : Settings.InRanges w) :
    readSettingsRecord (Settings.record w) = some w := by
  have sound := recordSound_sealRecord Config.settingsMarker (Settings.values_length w)
  rw [Settings.record_eq, readSettingsRecord, sound]
  obtain ⟨tail, laid⟩ : ∃ tail, sealRecord Config.settingsMarker (settingKeys.flatMap (Settings.bytesOf w))
      = be 4 Config.settingsMarker.toNat ++ (settingKeys.flatMap (Settings.bytesOf w) ++ tail) := by
    simp only [sealRecord, List.append_assoc]
    exact ⟨_, rfl⟩
  rw [laid, List.drop_left' (be_length _ _), if_pos rfl,
    takeValues_bytesOf (Settings.reads_all h) (Settings.bytesOf_length w), Settings.taking_all]

end

/-- The widths of R205, by the items' codes. -/
theorem keyWidth_eq : ∀ k ∈ settingKeys,
    [0, 4, 2, 1, 4, 4, 1, 1, 1, 1, 6, 1, 2, 2, 2, 1, 1, 2, 1, 2, 1, 1, 9, 1, 1, 2].getD k.1.toNat 0
      = keyWidth k := by
  simp only [settingKeys_eq, List.forall_mem_append, timeKeys, unitKeys, lineKeys, tripKeys, portKeys,
    List.forall_mem_cons]
  simp [keyWidth, valueLength]

theorem Flash.storedSettings_isJudged : Claims.StoredSettingsCopyIsJudged := by
  unfold Claims.StoredSettingsCopyIsJudged
  intro items keys width marker
  have same : keys = settingKeys := by
    decide +kernel
  have widths : ∀ k ∈ settingKeys, width k = keyWidth k := keyWidth_eq
  have marked : marker = be 4 Config.settingsMarker.toNat := by
    decide
  refine ⟨fun f => ?_, fun f w sound ranges holds => ?_, fun w ranges => ?_⟩
  · intro bytes
    have length : bytes.length = 512 := Memory.slice_length _ _ _
    rcases spoiled : f.spoiled with _ | _
    · rw [Flash.storedSettings_of_sound spoiled, readSettingsRecord_isSome length, same]
      have sums (i : Nat) : ((settingKeys.take i).map width).sum = ((settingKeys.take i).map keyWidth).sum := by
        rw [List.map_congr_left fun k mem => widths k (List.mem_of_mem_take mem)]
      refine ⟨fun ⟨head, check, all⟩ => ⟨rfl, head, check, fun i k at_i => ?_⟩,
        fun ⟨_, head, check, all⟩ => ⟨head, check, fun i k at_i => ?_⟩⟩
      · rw [sums, widths k (List.mem_of_getElem? at_i)]
        exact all i k at_i
      · rw [← sums, ← widths k (List.mem_of_getElem? at_i)]
        exact all i k at_i
    · rw [Flash.storedSettings_of_spoiled spoiled]
      simp
  · rw [Flash.storedSettings_of_sound sound, holds]
    exact readSettingsRecord_record ranges
  · intro head body
    rw [same, marked] at *
    exact ⟨rfl, sealRecord_length _ (Settings.values_length w)⟩

/-- Settles O56: what POWER_ON leaves of the part, which copies it reads, and what the end of recovery hands over. -/
theorem powerOnRecoversThenStartsTime : Obligations.PowerOnRecoversThenStartsTime :=
  ⟨State.powerOn_beginsRecovery, State.powerOn_takesLastCopy, Flash.storedSettings_isJudged,
    State.endOfRecovery_handsValuesOver⟩

end Sys2Proof.Machine
end

section
/-! A restart in place, block by block: what each block changes, the records it writes and the notices it raises
(R26, R46, R52, R77, R92, R130, R162, R195, R199). -/

namespace Sys2Proof.Machine

/-! ### The Timebase (R26) -/

/-- The Timebase at restart, before the alarm is reviewed. -/
def Timebase.restarted (t : Timebase) : Timebase := { t with
  state := match t.state with
    | .locked => .holdover
    | .acquire => .free
    | other => other
  rate := if t.state = .locked then t.integral else t.rate
  outliers := 0 }

variable (s : State)

theorem State.restartTimebase_eq :
    s.restartTimebase = { s with
      tb := s.tb.restarted
      sel := { s.sel with
        lost := if s.tb.state = .locked then PerPort.all true else s.sel.lost } } := by
  unfold State.restartTimebase Timebase.restarted
  cases h : s.tb.state with
  | locked => rfl
  | acquire => simp [State.withTb]
  | free | holdover => simp [State.withTb, h]

/-- The Timebase and its alarm after the restart. -/
def State.timebaseReviewed (s : State) : State := s.restartTimebase.reviewAlarm s.restartTimebase.cls

theorem State.timebaseReviewed_frame : ∃ (g : Ring) (p : PerPort PortState), s.timebaseReviewed = { s with
    tb := { s.tb.restarted with alarm := Decidable.decide (s.settings.working.alarmClass < s.cls) }
    sel := { s.sel with
      lost := if s.tb.state = .locked then PerPort.all true else s.sel.lost }
    ring := g, ports := p } := by
  unfold State.timebaseReviewed
  rw [s.restartTimebase_eq]
  generalize held : ({ s with
    tb := s.tb.restarted
    sel := { s.sel with
      lost := if s.tb.state = .locked then PerPort.all true else s.sel.lost } } : State) = t
  have alarm := t.reviewAlarm_alarm t.cls
  obtain ⟨a, g, p, e⟩ := t.reviewAlarm_frame t.cls
  rw [e] at alarm
  refine ⟨g, p, ?_⟩
  rw [e, show a = Decidable.decide (t.settings.working.alarmClass < t.cls) from alarm, ← held]
  rfl

/-- The QUALITY record of a restart, when the alarm moves. -/
def State.restartQuality (s : State) : List Entry :=
  if Decidable.decide (s.settings.working.alarmClass < s.cls) = s.tb.alarm then []
  else [s.ownRecord .quality (BitVec.ofNat 16 (s.cls * 256 + s.cls))]

theorem State.timebaseReviewed_tells : s.Tells s.timebaseReviewed s.restartQuality
    (if s.restartQuality = [] then [] else [.quality]) := by
  unfold State.timebaseReviewed State.restartQuality
  rw [s.restartTimebase_eq]
  generalize held : ({ s with
    tb := s.tb.restarted
    sel := { s.sel with
      lost := if s.tb.state = .locked then PerPort.all true else s.sel.lost } } : State) = t
  have told := t.reviewAlarm_tells t.cls
  rw [t.reviewAlarm_alarm] at told
  have quiet : s.Tells t [] [] := State.Tells.of_eq (by rw [← held]) (by rw [← held])
  have alarm : t.tb.alarm = s.tb.alarm := by rw [← held]; rfl
  have cls : t.cls = s.cls := by rw [← held]; rfl
  have setting : t.settings = s.settings := by rw [← held]
  have own (k : Kind) (d : BitVec 16) : t.ownRecord k d = s.ownRecord k d := by rw [← held]; rfl
  rw [alarm, cls, setting, own, datumOf] at told
  rw [cls]
  have all := quiet.trans told
  split <;> rename_i same
  · simpa only [if_pos same, List.nil_append, if_true] using all
  · simpa only [if_neg same, List.nil_append, List.cons_ne_nil, if_false] using all

/-! ### The references (R46) -/

/-- A reference at restart: it listens afresh. -/
def Reference.restarted (x : Reference) (now : Nat) : Reference := { x with
  state := .listen, count := 0, anchor := none, window := none, two := false
  failed := false, previous := none, learning := ⟨none, none, none⟩
  lossFrom := now }

/-- The REF_STATE record of a reference that did not listen. -/
def State.restartRefState (s : State) (r : RefId) : List Entry :=
  if (s.ref r).state = .listen then []
  else [s.ownRecord .refState (BitVec.ofNat 16 (r.code * 256 + 1))]

theorem State.restartRef_frame (r : RefId) : ∃ (g : Ring) (p : PerPort PortState),
    s.restartRef r = { s with
      refs := s.refs.set r ((s.ref r).restarted s.tb.runClock), ring := g, ports := p } := by
  unfold State.restartRef
  simp only
  split
  · exact ⟨s.ring, s.ports, rfl⟩
  · generalize held : s.setRef r _ = t
    obtain ⟨g, p, e⟩ := t.note_frame .refState (datumOf r.code RefState.listen.code)
    exact ⟨g, p, by rw [e, ← held]; rfl⟩

theorem State.restartRef_tells (r : RefId) : s.Tells (s.restartRef r) (s.restartRefState r) [] := by
  unfold State.restartRef State.restartRefState
  simp only
  split
  · exact State.Tells.of_eq rfl rfl
  · exact (State.note_tells _ _ _).after_silence rfl rfl

/-- The REF_SELECT record of a restart that takes a selected reference away. -/
def State.restartRefSelect (s : State) : List Entry :=
  if s.sel.selected = none then []
  else [s.ownRecord .refSelect (BitVec.ofNat 16 (s.sel.mode.code * 256))]

theorem State.restartSelection_frame : ∃ (g : Ring) (p : PerPort PortState),
    s.restartSelection = { s with
      sel := { s.sel with
        selected := none
        lost := if s.sel.selected = none then s.sel.lost else PerPort.all true }
      ring := g, ports := p } := by
  unfold State.restartSelection
  split
  · rename_i unselected
    exact ⟨s.ring, s.ports, by rw [← unselected]⟩
  · obtain ⟨g, p, e⟩ := s.recordSelection_frame none
    exact ⟨g, p, by rw [e]; rfl⟩

theorem State.restartSelection_tells : s.Tells s.restartSelection s.restartRefSelect
    (if s.sel.selected = none then [] else [.ref]) := by
  unfold State.restartSelection State.restartRefSelect
  split
  · exact State.Tells.of_eq rfl rfl
  · have told := s.recordSelection_tells none
    rw [datumOf, selectionCode, Nat.add_zero] at told
    exact told.then_silence rfl rfl

/-- The DISAGREE record of a restart that clears the flag. -/
def State.restartDisagree (s : State) : List Entry :=
  if s.sel.disagree then [s.ownRecord .disagree 0] else []

theorem State.restartComparison_frame : ∃ (g : Ring) (p : PerPort PortState),
    s.restartComparison = { s with
      sel := { s.sel with unpaired := none, disagree := false, disagreeCount := 0, agreeCount := 0 }
      ring := g, ports := p } := by
  unfold State.restartComparison
  split
  · obtain ⟨g, p, e⟩ := (s.withSel { s.sel with unpaired := none }).moveDisagree_frame false
    exact ⟨g, p, by rw [e]; rfl⟩
  · rename_i agree
    exact ⟨s.ring, s.ports, by rw [← Bool.eq_false_iff.2 agree]; rfl⟩

theorem State.moveDisagree_tells (flag : Bool) : s.Tells (s.moveDisagree flag)
    [s.ownRecord .disagree (BitVec.ofNat 16 flag.toNat)] [.ref] :=
  ((State.note_tells _ _ _).trans (State.raiseAll_tells _ _)).after_silence rfl rfl

theorem State.restartComparison_tells : s.Tells s.restartComparison s.restartDisagree
    (if s.sel.disagree then [.ref] else []) := by
  unfold State.restartComparison State.restartDisagree
  split
  · exact (State.moveDisagree_tells _ false).after_silence rfl rfl
  · exact State.Tells.of_eq rfl rfl

/-- The references, the selection and the comparison at restart. -/
theorem State.restartReferences_frame : ∃ (g : Ring) (p : PerPort PortState),
    s.restartReferences = { s with
      refs := ⟨(s.ref .ref1).restarted s.tb.runClock, (s.ref .ref2).restarted s.tb.runClock⟩
      sel := { s.sel with
        selected := none, unpaired := none, disagree := false, disagreeCount := 0, agreeCount := 0
        lost := if s.sel.selected = none then s.sel.lost else PerPort.all true }
      ring := g, ports := p } := by
  unfold State.restartReferences
  obtain ⟨g1, p1, e1⟩ := s.restartRef_frame .ref1
  obtain ⟨g2, p2, e2⟩ := (s.restartRef .ref1).restartRef_frame .ref2
  obtain ⟨g3, p3, e3⟩ := ((s.restartRef .ref1).restartRef .ref2).restartSelection_frame
  obtain ⟨g4, p4, e4⟩ := ((s.restartRef .ref1).restartRef .ref2).restartSelection.restartComparison_frame
  exact ⟨g4, p4, by rw [e4, e3, e2, e1]; rfl⟩

/-- The records of the references, in their order. -/
def State.restartReferenceEntries (s : State) : List Entry :=
  s.restartRefState .ref1 ++ s.restartRefState .ref2 ++ s.restartRefSelect ++ s.restartDisagree

theorem State.restartReferences_tells : s.Tells s.restartReferences s.restartReferenceEntries
    ((if s.sel.selected = none then [] else [.ref]) ++ (if s.sel.disagree then [.ref] else [])) := by
  obtain ⟨g1, p1, e1⟩ := s.restartRef_frame .ref1
  obtain ⟨g2, p2, e2⟩ := (s.restartRef .ref1).restartRef_frame .ref2
  obtain ⟨g3, p3, e3⟩ := ((s.restartRef .ref1).restartRef .ref2).restartSelection_frame
  have second := (s.restartRef .ref1).restartRef_tells .ref2
  have selection := ((s.restartRef .ref1).restartRef .ref2).restartSelection_tells
  have comparison := ((s.restartRef .ref1).restartRef .ref2).restartSelection.restartComparison_tells
  have entries2 : (s.restartRef .ref1).restartRefState .ref2 = s.restartRefState .ref2 := by rw [e1]; rfl
  have entries3 : ((s.restartRef .ref1).restartRef .ref2).restartRefSelect = s.restartRefSelect := by
    rw [e2, e1]; rfl
  have entries4 : ((s.restartRef .ref1).restartRef .ref2).restartSelection.restartDisagree
      = s.restartDisagree := by
    rw [e3, e2, e1]; rfl
  have selected : ((s.restartRef .ref1).restartRef .ref2).sel = s.sel := by rw [e2, e1]
  have disagree : ((s.restartRef .ref1).restartRef .ref2).restartSelection.sel.disagree = s.sel.disagree := by
    rw [e3, e2, e1]
  rw [entries2] at second
  rw [entries3, selected] at selection
  rw [entries4, disagree] at comparison
  exact (((s.restartRef_tells .ref1).trans second).trans selection).trans comparison

/-! ### From the Timebase to the lines (R26, R46, R52, R77) -/

/-- The selection after a restart: latches set when a reference was selected, or on entry to HOLDOVER (R43). -/
def State.restartedSel (s : State) : Selection := { s.sel with
  selected := none, disagree := false, disagreeCount := 0, agreeCount := 0, unpaired := none
  lost := if s.sel.selected ≠ none ∨ s.tb.state = .locked then PerPort.all true else s.sel.lost }

/-- The lines after a restart, a baseline awaited under the plans of the settings. -/
def State.restartedLines (s : State) : Lines where
  tab := s.lines.tab.mapIdx fun l (x : Line) => x.stop.takePlan s.settings.working l
  period := s.settings.working.scanPeriod
  awaiting := true

/-- The blocks of a restart that time and lines belong to. -/
def State.restartFront (s : State) : State :=
  let r := s.timebaseReviewed.restartReferences
  (r.withDist { r.dist with latency := 2 }).awaitBaseline

theorem State.restartBlocks_eq :
    s.restartBlocks = s.restartFront.restartModes.restartTrips.restartJournal.restartPorts := rfl

theorem State.restartFront_frame : ∃ (g : Ring) (p : PerPort PortState), s.restartFront = { s with
    tb := { s.tb.restarted with alarm := Decidable.decide (s.settings.working.alarmClass < s.cls) }
    refs := ⟨(s.ref .ref1).restarted s.tb.runClock, (s.ref .ref2).restarted s.tb.runClock⟩
    sel := s.restartedSel
    dist := { s.dist with latency := 2 }
    lines := s.restartedLines
    due := { s.due with scan := false }
    ring := g, ports := p } := by
  obtain ⟨g1, p1, e1⟩ := s.timebaseReviewed_frame
  obtain ⟨g2, p2, e2⟩ := s.timebaseReviewed.restartReferences_frame
  have lost : (if s.sel.selected = none
      then (if s.tb.state = .locked then PerPort.all true else s.sel.lost) else PerPort.all true)
        = if s.sel.selected ≠ none ∨ s.tb.state = .locked then PerPort.all true else s.sel.lost := by
    by_cases unselected : s.sel.selected = none <;> simp [unselected]
  refine ⟨g2, p2, ?_⟩
  unfold State.restartFront State.restartedSel
  simp only
  rw [e2, e1, ← lost]
  rfl

/-- The records that these blocks write because of the restart. -/
def State.restartFrontEntries (s : State) : List Entry := s.restartQuality ++ s.restartReferenceEntries

/-- The notices that they raise. -/
def State.restartFrontNotices (s : State) : List Notice :=
  (if s.restartQuality = [] then [] else [.quality])
    ++ ((if s.sel.selected = none then [] else [.ref]) ++ (if s.sel.disagree then [.ref] else []))

theorem State.restartFront_tells : s.Tells s.restartFront s.restartFrontEntries s.restartFrontNotices := by
  obtain ⟨g1, p1, e1⟩ := s.timebaseReviewed_frame
  have references := s.timebaseReviewed.restartReferences_tells
  have entries : s.timebaseReviewed.restartReferenceEntries = s.restartReferenceEntries := by
    rw [e1]; rfl
  have selected : s.timebaseReviewed.sel.selected = s.sel.selected := by rw [e1]
  have disagree : s.timebaseReviewed.sel.disagree = s.sel.disagree := by rw [e1]
  rw [entries, selected, disagree] at references
  have ring : s.restartFront.ring = s.timebaseReviewed.restartReferences.ring := by
    simp only [State.restartFront, State.awaitBaseline, State.withDist]
  have ports : s.restartFront.ports = s.timebaseReviewed.restartReferences.ports := by
    simp only [State.restartFront, State.awaitBaseline, State.withDist]
  exact (s.timebaseReviewed_tells.trans references).then_silence ring ports

theorem State.restartFrontEntries_length : s.restartFrontEntries.length ≤ 5 := by
  have quality : s.restartQuality.length ≤ 1 := by unfold State.restartQuality; split <;> simp
  have ref (r : RefId) : (s.restartRefState r).length ≤ 1 := by
    unfold State.restartRefState; split <;> simp
  have select : s.restartRefSelect.length ≤ 1 := by unfold State.restartRefSelect; split <;> simp
  have disagree : s.restartDisagree.length ≤ 1 := by unfold State.restartDisagree; split <;> simp
  have ref1 := ref .ref1
  have ref2 := ref .ref2
  simp only [State.restartFrontEntries, State.restartReferenceEntries, List.length_append]
  omega


/-! ### The tests end (R86, R92) -/

/-- The Shift Controller has taken the end of a unit's test (R177). -/
def Shift.testEnded (x : Shift) (u : UnitId) : Shift := { x with
  units := x.units.modify u fun y => { y with inTest := false }
  running := x.running.map fun m => { m with
    units := m.units.modify u fun y => { y with inTest := false } } }

theorem State.shiftTakesTest_off (u : UnitId) :
    s.shiftTakesTest u false = s.withShift (s.shift.testEnded u) := rfl

/-- The mode of a unit at restart (R92). -/
def UnitMode.restarted (x : UnitMode) : UnitMode := { x with test := none, candidate := none }

/-- The TEST_OFF record of a restart. -/
def State.restartTestOff (s : State) (u : UnitId) : Entry :=
  { kind := .testOff, field := BitVec.ofNat 8 (u.val + 1), stamp := s.reading
    datum := BitVec.ofNat 16 (2 * 256 + u.val + 1) }

theorem State.closeTest_frame (u : UnitId) : ∃ (g : Ring) (p : PerPort PortState),
    s.closeTest u 2 = { s with
      modes := s.modes.set u { s.modeOf u with test := none }
      shift := s.shift.testEnded u, ring := g, ports := p } := by
  unfold State.closeTest
  rw [State.shiftTakesTest_off]
  generalize held : s.setMode u _ = t
  obtain ⟨g, p, e⟩ := t.noteUnit_frame .testOff u s.reading (datumOf 2 (u.val + 1)) false
  exact ⟨g, p, by rw [e, ← held]; rfl⟩

theorem State.closeTest_tells (u : UnitId) : s.Tells (s.closeTest u 2) [s.restartTestOff u] [] := by
  unfold State.closeTest
  rw [State.shiftTakesTest_off, State.restartTestOff, Nat.add_assoc]
  generalize held : s.setMode u _ = t
  have quiet : s.Tells t [] [] := State.Tells.of_eq (by rw [← held]; rfl) (by rw [← held]; rfl)
  exact (quiet.trans (t.append_tells _)).then_silence rfl rfl

theorem State.restartUnit_of_out {u : UnitId} (out : (s.modeOf u).test.isSome = false) :
    s.restartUnit u = s.setMode u (s.modeOf u).restarted := by
  have test : (s.modeOf u).test = none := by simpa using out
  have kept : (s.modeOf u).restarted = { s.modeOf u with candidate := none } := by
    rw [UnitMode.restarted, ← test]
  unfold State.restartUnit State.inTest
  rw [kept, if_neg (by rw [State.modeOf] at out; rw [out]; decide)]

theorem State.restartUnit_of_in {u : UnitId} (test : (s.modeOf u).test.isSome = true) :
    s.restartUnit u
      = (s.closeTest u 2).setMode u { (s.closeTest u 2).modeOf u with candidate := none } := by
  unfold State.restartUnit State.inTest
  rw [State.modeOf] at test
  rw [if_pos test]

theorem Table.set_set {n : Nat} {α : Type} (t : Table n α) (i : Fin n) (a b : α) :
    (t.set i a).set i b = t.set i b :=
  Table.ext_list (List.set_set a)

theorem State.restartUnit_frame (u : UnitId) : ∃ (g : Ring) (p : PerPort PortState),
    s.restartUnit u = { s with
      modes := s.modes.set u (s.modeOf u).restarted
      shift := if (s.modeOf u).test.isSome then s.shift.testEnded u else s.shift
      ring := g, ports := p } := by
  cases test : (s.modeOf u).test.isSome with
  | false => exact ⟨s.ring, s.ports, s.restartUnit_of_out test⟩
  | true =>
    obtain ⟨g, p, e⟩ := s.closeTest_frame u
    have mode : (s.closeTest u 2).modeOf u = { s.modeOf u with test := none } := by
      rw [e]
      exact Table.get_set_same _ _ _
    refine ⟨g, p, ?_⟩
    rw [s.restartUnit_of_in test, mode, e]
    unfold State.setMode
    rw [Table.set_set]
    rfl

theorem State.restartUnit_tells (u : UnitId) : s.Tells (s.restartUnit u)
    (if (s.modeOf u).test.isSome then [s.restartTestOff u] else []) [] := by
  cases test : (s.modeOf u).test.isSome with
  | false =>
    rw [s.restartUnit_of_out test]
    exact State.Tells.of_eq rfl rfl
  | true =>
    rw [s.restartUnit_of_in test]
    exact (s.closeTest_tells u).then_silence rfl rfl

/-- Of the Shift Controller nothing has moved but the test marks of the units whose tests have ended, there
and in the running summary (R177). -/
structure Shift.EndsTests (x y : Shift) (ended : UnitId → Bool) : Prop where
  frame : y = { x with units := y.units, running := y.running }
  unit : ∀ u, y.units.get u
    = { x.units.get u with inTest := if ended u then false else (x.units.get u).inTest }
  closed : x.running = none → y.running = none
  summary : ∀ m, x.running = some m → ∃ n, y.running = some { m with units := n }
    ∧ ∀ u, n.get u = { m.units.get u with inTest := if ended u then false else (m.units.get u).inTest }

theorem Shift.EndsTests.refl (x : Shift) : x.EndsTests x fun _ => false where
  frame := rfl
  unit _ := rfl
  closed h := h
  summary m h := ⟨m.units, h, fun _ => rfl⟩

theorem Shift.EndsTests.trans {x y z : Shift} {a b : UnitId → Bool} (h : x.EndsTests y a)
    (g : y.EndsTests z b) : x.EndsTests z fun u => a u || b u where
  frame := by
    have whole := g.frame
    rw [h.frame] at whole
    exact whole
  unit u := by
    rw [g.unit, h.unit]
    cases a u <;> cases b u <;> rfl
  closed off := g.closed (h.closed off)
  summary m on := by
    obtain ⟨n, running, units⟩ := h.summary m on
    obtain ⟨k, running', units'⟩ := g.summary _ running
    refine ⟨k, running', fun u => ?_⟩
    rw [units', units]
    cases a u <;> cases b u <;> rfl

theorem Shift.testEnded_endsTests (x : Shift) (u : UnitId) :
    x.EndsTests (x.testEnded u) fun w => Decidable.decide (w = u) where
  frame := rfl
  unit w := by
    by_cases same : w = u
    · rw [same, Shift.testEnded, Table.modify, Table.get_set_same]
      simp
    · rw [Shift.testEnded, Table.modify, Table.get_set_other _ _ same]
      simp [same]
  closed off := by rw [Shift.testEnded, off]; rfl
  summary m on := by
    refine ⟨_, by rw [Shift.testEnded, on]; rfl, fun w => ?_⟩
    by_cases same : w = u
    · rw [same, Table.modify, Table.get_set_same]
      simp
    · rw [Table.modify, Table.get_set_other _ _ same]
      simp [same]

/-- The unit is in test and among the units named. -/
def State.testOf (s : State) (us : List UnitId) (u : UnitId) : Bool :=
  Decidable.decide (u ∈ us) && (s.modeOf u).test.isSome

/-- Units at restart: what their blocks have become, and the TEST_OFF records of those in test. -/
structure State.RestartsUnits (s t : State) (us : List UnitId) : Prop where
  frame : ∃ (m : Table 6 UnitMode) (x : Shift) (g : Ring) (p : PerPort PortState),
    t = { s with modes := m, shift := x, ring := g, ports := p }
  mode : ∀ u, t.modeOf u = if u ∈ us then (s.modeOf u).restarted else s.modeOf u
  shift : s.shift.EndsTests t.shift (s.testOf us)
  tells : s.Tells t ((us.filter (s.testOf us)).map s.restartTestOff) []

theorem State.restartUnit_modeOf_same (u : UnitId) :
    (s.restartUnit u).modeOf u = (s.modeOf u).restarted := by
  obtain ⟨g, p, e⟩ := s.restartUnit_frame u
  rw [e]
  exact Table.get_set_same _ _ _

theorem State.restartUnit_modeOf_other {u w : UnitId} (other : w ≠ u) :
    (s.restartUnit u).modeOf w = s.modeOf w := by
  obtain ⟨g, p, e⟩ := s.restartUnit_frame u
  rw [e]
  exact Table.get_set_other _ _ other

theorem State.restartUnit_endsTests (u : UnitId) :
    s.shift.EndsTests (s.restartUnit u).shift (s.testOf [u]) := by
  obtain ⟨g, p, e⟩ := s.restartUnit_frame u
  rw [e]
  cases test : (s.modeOf u).test.isSome with
  | false =>
    have none_ends : s.testOf [u] = fun _ => false := by
      funext w
      by_cases same : w = u <;> simp [State.testOf, same, test]
    rw [none_ends]
    exact Shift.EndsTests.refl _
  | true =>
    have one_ends : s.testOf [u] = fun w => Decidable.decide (w = u) := by
      funext w
      by_cases same : w = u <;> simp [State.testOf, same, test]
    rw [one_ends]
    exact s.shift.testEnded_endsTests u

/-- Once a unit has been taken, the tests that remain are those of the other units. -/
theorem State.testOf_cons (u : UnitId) (us : List UnitId) (w : UnitId) :
    s.testOf (u :: us) w = (s.testOf [u] w || (s.restartUnit u).testOf us w) := by
  by_cases same : w = u
  · simp [State.testOf, same, State.restartUnit_modeOf_same, UnitMode.restarted]
  · simp [State.testOf, same, State.restartUnit_modeOf_other]

theorem State.restartUnits (us : List UnitId) (distinct : us.Nodup) :
    s.RestartsUnits (s.forEach us fun u t => t.restartUnit u) us := by
  induction us generalizing s with
  | nil =>
    exact ⟨⟨s.modes, s.shift, s.ring, s.ports, rfl⟩, fun u => by simp [State.forEach_nil],
      Shift.EndsTests.refl _, State.Tells.of_eq rfl rfl⟩
  | cons u us ih =>
    rw [State.forEach_cons]
    obtain ⟨fresh, distinct⟩ := List.nodup_cons.1 distinct
    have rest := ih (s.restartUnit u) distinct
    obtain ⟨g, p, e⟩ := s.restartUnit_frame u
    have record : (s.restartUnit u).restartTestOff = s.restartTestOff := by rw [e]; rfl
    refine ⟨?_, fun w => ?_, ?_, ?_⟩
    · obtain ⟨m, x, g', p', e'⟩ := rest.frame
      exact ⟨m, x, g', p', by rw [e', e]⟩
    · rw [rest.mode]
      by_cases same : w = u
      · rw [same, if_neg fresh, s.restartUnit_modeOf_same, if_pos List.mem_cons_self]
      · simp [same, s.restartUnit_modeOf_other same]
    · rw [show s.testOf (u :: us) = _ from funext (s.testOf_cons u us)]
      exact (s.restartUnit_endsTests u).trans rest.shift
    · have later : us.filter ((s.restartUnit u).testOf us) = us.filter (s.testOf (u :: us)) := by
        refine List.filter_congr fun w hw => ?_
        have other : w ≠ u := fun same => fresh (same ▸ hw)
        simp [State.testOf, hw, s.restartUnit_modeOf_other other]
      have told := (s.restartUnit_tells u).trans rest.tells
      rw [record, later] at told
      rw [List.filter_cons]
      cases test : (s.modeOf u).test.isSome with
      | true =>
        have first : s.testOf (u :: us) u = true := by simp [State.testOf, test]
        rw [first, if_pos rfl, List.map_cons]
        rw [test, if_pos rfl] at told
        exact told
      | false =>
        have first : s.testOf (u :: us) u = false := by simp [State.testOf, test]
        rw [first, if_neg Bool.false_ne_true]
        rw [test, if_neg Bool.false_ne_true] at told
        exact told


/-! ### The OPEN files are cut (R130, R137) -/

/-- The slot holds an OPEN file. -/
def State.holdsOpen (s : State) (i : SlotId) : Bool :=
  match s.file i with
  | some f => Decidable.decide (f.state = .opened)
  | none => false

theorem State.holdsOpen_of_opened {i : SlotId} {f : TripFile} (file : s.file i = some f)
    (opened : f.state = .opened) : s.holdsOpen i = true := by
  simp [State.holdsOpen, file, opened]

theorem State.opened_of_holdsOpen {i : SlotId} (h : s.holdsOpen i = true) :
    ∃ f, s.file i = some f ∧ f.state = .opened := by
  unfold State.holdsOpen at h
  cases file : s.file i with
  | none => rw [file] at h; cases h
  | some f => rw [file] at h; exact ⟨f, rfl, by simpa using h⟩

/-- The file of a slot after the cut of what is OPEN (R130). -/
def TripFile.cutOff (f : TripFile) : TripFile := if f.state = .opened then f.closed true else f

theorem TripFile.closed_state (f : TripFile) (cut : Bool) : (f.closed cut).state ≠ .opened := by
  unfold TripFile.closed
  cases f.test <;> simp

/-- The FILE_CLOSED record of a file that a restart cuts. -/
def State.cutRecord (s : State) (c : SlotId × TripFile) : Entry :=
  { kind := .fileClosed, field := BitVec.ofNat 8 (c.2.unit.val + 1)
    stamp := s.reading, datum := BitVec.ofNat 16 c.1.val, test := c.2.test }

/-- What a unit's tallies make of a file that closes: the first-out of a counted trip (R137). -/
def UnitTally.hears (u : UnitId) (x : UnitTally) (c : SlotId × TripFile) : UnitTally :=
  if c.2.unit = u ∧ c.2.test = false then
    { x with lastTrip := x.lastTrip.map fun l => { l with firstOut := c.2.firstOut } }
  else x

/-- The slots given have been gone through in their order, and the files named, those of them that were
OPEN, cut one after another. -/
structure State.CutsFiles (s t : State) (is : List SlotId) (cs : List (SlotId × TripFile)) : Prop where
  frame : ∃ (x : Trips) (y : TallyUnit) (g : Ring) (p : PerPort PortState),
    t = { s with trips := x, tally := y, ring := g, ports := p }
  mem : ∀ i f, (i, f) ∈ cs ↔ i ∈ is ∧ s.file i = some f ∧ f.state = .opened
  distinct : (cs.map Prod.fst).Nodup
  file : ∀ i, t.file i = if i ∈ is then (s.file i).map TripFile.cutOff else s.file i
  order : t.trips.order
    = s.trips.order.filter fun i => !(Decidable.decide (i ∈ is) && s.holdsOpen i)
  locked : t.tally.locked = s.tally.locked
  tally : ∀ u, t.tallyOf u = cs.foldl (UnitTally.hears u) (s.tallyOf u)
  tells : s.Tells t (cs.map s.cutRecord) (cs.map fun _ => .file)

/-- The slot of a file that closes: the file in its new state, gone from the opening order, its record
written (R122, R130). -/
def State.fileRecorded (s : State) (i : SlotId) (f : TripFile) (cut : Bool) : State :=
  let v := s.setSlot i (some (f.closed cut))
  let t := v.withTrips { v.trips with order := v.trips.order.filter fun j => Decidable.decide (j ≠ i) }
  (t.noteUnit .fileClosed f.unit t.reading (slotDatum (some i)) f.test).raiseAll .file

theorem State.closeFile_eq (i : SlotId) (f : TripFile) (cut : Bool) :
    s.closeFile i f cut = if f.test then s.fileRecorded i f cut
      else (s.fileRecorded i f cut).tallyTakesFirstOut f.unit f.firstOut := rfl

theorem State.fileRecorded_frame (i : SlotId) (f : TripFile) (cut : Bool) :
    ∃ (g : Ring) (p : PerPort PortState), s.fileRecorded i f cut = { s with
      trips := ⟨s.trips.slots.set i (some (f.closed cut)),
        s.trips.order.filter fun j => Decidable.decide (j ≠ i)⟩
      ring := g, ports := p } := by
  unfold State.fileRecorded
  simp only
  generalize held : State.withTrips _ _ = t
  obtain ⟨g, p, e⟩ := t.noteUnit_frame .fileClosed f.unit t.reading (slotDatum (some i)) f.test
  exact ⟨g, _, by rw [e, ← held]; rfl⟩

theorem State.fileRecorded_tells (i : SlotId) (f : TripFile) (cut : Bool) :
    s.Tells (s.fileRecorded i f cut) [s.cutRecord (i, f)] [.file] := by
  unfold State.fileRecorded
  simp only
  generalize held : State.withTrips _ _ = t
  have quiet : s.Tells t [] [] := State.Tells.of_eq (by rw [← held]; rfl) (by rw [← held]; rfl)
  have reading : t.reading = s.reading := by rw [← held]; rfl
  rw [reading]
  exact (quiet.trans (t.append_tells _)).trans (State.raiseAll_tells _ .file)

/-- The close of one OPEN file by the restart's cut. -/
theorem State.closeFile_cutsFiles {i : SlotId} {f : TripFile} (file : s.file i = some f)
    (opened : f.state = .opened) : s.CutsFiles (s.closeFile i f true) [i] [(i, f)] := by
  obtain ⟨g, p, e⟩ := s.fileRecorded_frame i f true
  obtain ⟨y, locked, units, closed⟩ : ∃ y : TallyUnit, y.locked = s.tally.locked
      ∧ (∀ u, y.units.get u = UnitTally.hears u (s.tallyOf u) (i, f))
      ∧ s.closeFile i f true = { s.fileRecorded i f true with tally := y } := by
    rw [s.closeFile_eq]
    cases test : f.test with
    | true => exact ⟨s.tally, rfl, fun u => by simp [UnitTally.hears, test, State.tallyOf], by rw [e]; rfl⟩
    | false =>
      refine ⟨((s.fileRecorded i f true).tallyTakesFirstOut f.unit f.firstOut).tally, by rw [e]; rfl,
        fun u => ?_, rfl⟩
      rw [e]
      by_cases own : u = f.unit
      · subst own
        simp [UnitTally.hears, test, State.tallyTakesFirstOut, State.setTally, State.tallyOf]
      · simp [UnitTally.hears, test, State.tallyTakesFirstOut, State.setTally, State.tallyOf,
          Table.get_set_other _ _ own, Ne.symm own]
  have slot : ∀ j, (s.closeFile i f true).file j
      = (s.trips.slots.set i (some (f.closed true))).get j := fun j => by rw [closed, e]; rfl
  refine ⟨⟨_, y, g, p, by rw [closed, e]⟩, fun j h => ?_, by simp, fun j => ?_, ?_, by rw [closed]; exact locked,
    fun u => by rw [closed]; exact units u, ?_⟩
  · simp only [List.mem_singleton, Prod.mk.injEq]
    constructor
    · rintro ⟨rfl, rfl⟩
      exact ⟨rfl, file, opened⟩
    · rintro ⟨rfl, held, -⟩
      exact ⟨rfl, Option.some.inj (held.symm.trans file)⟩
  · rw [slot]
    by_cases same : j = i
    · subst same
      simp [file, TripFile.cutOff, opened]
    · rw [Table.get_set_other _ _ same]
      simp [same, State.file]
  · rw [closed, e]
    refine List.filter_congr fun j _ => ?_
    by_cases same : j = i
    · subst same
      simp [s.holdsOpen_of_opened file opened]
    · simp [same]
  · rw [closed]
    exact (s.fileRecorded_tells i f true).then_silence rfl rfl


/-- A cut of one file goes before the cut of the rest, whose OPEN files are the other slots'. -/
theorem State.CutsFiles.cons {s t v : State} {i : SlotId} {f : TripFile} {is : List SlotId}
    {cs : List (SlotId × TripFile)} (file : s.file i = some f) (opened : f.state = .opened)
    (h : s.CutsFiles t [i] [(i, f)]) (g : t.CutsFiles v is cs) :
    s.CutsFiles v (i :: is) ((i, f) :: cs) := by
  have now : t.file i = some (f.closed true) := by
    rw [h.file, if_pos (List.mem_singleton.2 rfl), file, Option.map_some, TripFile.cutOff, if_pos opened]
  have other {j : SlotId} (ne : j ≠ i) : t.file j = s.file j := by
    rw [h.file, if_neg (by simpa using ne)]
  have gone : t.holdsOpen i = false := by
    simp [State.holdsOpen, now, TripFile.closed_state]
  have holds {j : SlotId} (ne : j ≠ i) : t.holdsOpen j = s.holdsOpen j := by
    rw [State.holdsOpen, other ne, State.holdsOpen]
  obtain ⟨x, y, r, p, e⟩ := h.frame
  obtain ⟨x', y', r', p', e'⟩ := g.frame
  have record : t.cutRecord = s.cutRecord := by rw [e]; rfl
  refine ⟨⟨x', y', r', p', by rw [e', e]⟩, fun j k => ?_, ?_, fun j => ?_, ?_, g.locked.trans h.locked,
    fun u => ?_, ?_⟩
  · rw [List.mem_cons, g.mem, List.mem_cons, Prod.mk.injEq]
    by_cases same : j = i
    · subst same
      have closed : ¬ (j ∈ is ∧ t.file j = some k ∧ k.state = .opened) := fun ⟨_, held, still⟩ =>
        f.closed_state true (Option.some.inj (now.symm.trans held) ▸ still)
      rw [file]
      constructor
      · rintro (⟨-, rfl⟩ | impossible)
        · exact ⟨.inl rfl, rfl, opened⟩
        · exact absurd impossible closed
      · rintro ⟨-, held, -⟩
        exact .inl ⟨rfl, (Option.some.inj held).symm⟩
    · simp [same, other same]
  · refine List.nodup_cons.2 ⟨fun again => ?_, g.distinct⟩
    obtain ⟨⟨j, k⟩, mem, rfl⟩ := List.mem_map.1 again
    obtain ⟨-, held, still⟩ := (g.mem j k).1 mem
    exact f.closed_state true (Option.some.inj (now.symm.trans held) ▸ still)
  · rw [g.file]
    by_cases same : j = i
    · subst same
      rw [if_pos List.mem_cons_self, now, file, Option.map_some, Option.map_some, TripFile.cutOff,
        if_neg (f.closed_state true), TripFile.cutOff, if_pos opened, ite_self]
    · simp [same, other same]
  · rw [g.order, h.order, List.filter_filter]
    refine List.filter_congr fun j _ => ?_
    by_cases same : j = i
    · subst same
      simp [gone, s.holdsOpen_of_opened file opened]
    · simp [same, holds same]
  · rw [g.tally, h.tally]
    rfl
  · have told := h.tells.trans g.tells
    rw [record] at told
    exact told

/-- A slot without an OPEN file is passed over. -/
theorem State.CutsFiles.cons_other {s v : State} {i : SlotId} {is : List SlotId}
    {cs : List (SlotId × TripFile)} (idle : s.holdsOpen i = false) (g : s.CutsFiles v is cs) :
    s.CutsFiles v (i :: is) cs := by
  refine ⟨g.frame, fun j k => ?_, g.distinct, fun j => ?_, ?_, g.locked, g.tally, g.tells⟩
  · rw [g.mem, List.mem_cons]
    constructor
    · rintro ⟨mem, rest⟩
      exact ⟨.inr mem, rest⟩
    · rintro ⟨rfl | mem, held, opened⟩
      · rw [s.holdsOpen_of_opened held opened] at idle
        cases idle
      · exact ⟨mem, held, opened⟩
  · rw [g.file]
    by_cases same : j = i
    · subst same
      have kept : (s.file j).map TripFile.cutOff = s.file j := by
        cases file : s.file j with
        | none => rfl
        | some f =>
          have closed : f.state ≠ .opened := fun opened => by
            rw [s.holdsOpen_of_opened file opened] at idle
            cases idle
          rw [Option.map_some, TripFile.cutOff, if_neg closed]
      rw [kept, ite_self, ite_self]
    · simp [same]
  · rw [g.order]
    refine List.filter_congr fun j _ => ?_
    by_cases same : j = i
    · subst same
      simp [idle]
    · simp [same]

theorem State.cutFile_of_idle {i : SlotId} (idle : s.holdsOpen i = false) : s.cutFile i = s := by
  unfold State.holdsOpen at idle
  unfold State.cutFile
  cases file : s.file i with
  | none => rfl
  | some f =>
    rw [file] at idle
    simp only [decide_eq_false_iff_not] at idle
    simp only [if_neg idle]

theorem State.cutFile_of_opened {i : SlotId} {f : TripFile} (file : s.file i = some f)
    (opened : f.state = .opened) : s.cutFile i = s.closeFile i f true := by
  simp only [State.cutFile, file, if_pos opened]

theorem State.cutFiles (is : List SlotId) :
    ∃ cs, s.CutsFiles (s.forEach is fun i t => t.cutFile i) is cs := by
  induction is generalizing s with
  | nil =>
    exact ⟨[], ⟨s.trips, s.tally, s.ring, s.ports, rfl⟩, by simp, List.nodup_nil, by simp [State.forEach_nil],
      by simp [State.forEach_nil], rfl, fun _ => rfl, State.Tells.of_eq rfl rfl⟩
  | cons i is ih =>
    rw [State.forEach_cons]
    cases idle : s.holdsOpen i with
    | false =>
      rw [s.cutFile_of_idle idle]
      obtain ⟨cs, rest⟩ := ih s
      exact ⟨cs, rest.cons_other idle⟩
    | true =>
      obtain ⟨f, file, opened⟩ := s.opened_of_holdsOpen idle
      rw [s.cutFile_of_opened file opened]
      obtain ⟨cs, rest⟩ := ih (s.closeFile i f true)
      exact ⟨(i, f) :: cs, (s.closeFile_cutsFiles file opened).cons file opened rest⟩


/-! ### The first-out of the files cut (R137) -/

section
variable {u : UnitId} {x : UnitTally} {cs : List (SlotId × TripFile)}

theorem UnitTally.hears_of_foreign {c : SlotId × TripFile} (h : c.2.unit = u → c.2.test = true) :
    UnitTally.hears u x c = x := by
  rw [UnitTally.hears, if_neg]
  rintro ⟨own, counted⟩
  rw [h own] at counted
  cases counted

theorem UnitTally.hearsAll_frame :
    cs.foldl (UnitTally.hears u) x = { x with lastTrip := (cs.foldl (UnitTally.hears u) x).lastTrip } := by
  induction cs generalizing x with
  | nil => rfl
  | cons c cs ih =>
    rw [List.foldl_cons]
    have whole := ih (x := UnitTally.hears u x c)
    unfold UnitTally.hears at whole ⊢
    split <;> rename_i own
    · rw [if_pos own] at whole
      exact whole
    · rw [if_neg own] at whole
      exact whole

theorem UnitTally.hearsAll_dates :
    ((cs.foldl (UnitTally.hears u) x).lastTrip.map fun l => (l.second, l.cls))
      = x.lastTrip.map fun l => (l.second, l.cls) := by
  induction cs generalizing x with
  | nil => rfl
  | cons c cs ih =>
    rw [List.foldl_cons, ih, UnitTally.hears]
    split
    · rw [Option.map_map]
      rfl
    · rfl

theorem UnitTally.hearsAll_of_foreign (h : ∀ c ∈ cs, c.2.unit = u → c.2.test = true) :
    cs.foldl (UnitTally.hears u) x = x := by
  induction cs with
  | nil => rfl
  | cons c cs ih =>
    rw [List.foldl_cons, UnitTally.hears_of_foreign (h c List.mem_cons_self),
      ih fun d mem => h d (List.mem_cons_of_mem _ mem)]

/-- Of a unit's files only one counts: its first-out is the one that stays. -/
theorem UnitTally.hearsAll_of_one {i : SlotId} {f : TripFile} (mem : (i, f) ∈ cs)
    (distinct : (cs.map Prod.fst).Nodup) (own : f.unit = u) (counted : f.test = false)
    (only : ∀ c ∈ cs, c.2.unit = u → c.2.test = false → c.1 = i) :
    (cs.foldl (UnitTally.hears u) x).lastTrip
      = x.lastTrip.map fun l => { l with firstOut := f.firstOut } := by
  obtain ⟨before, after, rfl⟩ := List.append_of_mem mem
  rw [List.map_append, List.map_cons, List.nodup_append] at distinct
  obtain ⟨-, later, apart⟩ := distinct
  have earlier : ∀ c ∈ before, c.2.unit = u → c.2.test = true := fun c hc unit => by
    by_contra uncounted
    exact apart c.1 (List.mem_map_of_mem hc) i List.mem_cons_self
      (only c (List.mem_append_left _ hc) unit (by simpa using uncounted))
  have rest : ∀ c ∈ after, c.2.unit = u → c.2.test = true := fun c hc unit => by
    by_contra uncounted
    have same := only c (List.mem_append_right _ (List.mem_cons_of_mem _ hc)) unit (by simpa using uncounted)
    refine (List.nodup_cons.1 later).1 ?_
    rw [← same]
    exact List.mem_map.2 ⟨c, hc, rfl⟩
  rw [List.foldl_append, UnitTally.hearsAll_of_foreign earlier, List.foldl_cons,
    UnitTally.hearsAll_of_foreign rest, UnitTally.hears, if_pos ⟨own, counted⟩]

end

/-! ### The journal (R162) -/

/-- An erase in flight has been abandoned, and nothing else has become of flash and journal. -/
structure State.AbandonsErase (s t : State) : Prop where
  abandoned : ∀ sector, s.flash.op = .erase sector → t.journal = { s.journal with reErase := some sector }
    ∧ t.flash = { s.flash with mem := t.flash.mem, op := .none }
    ∧ (s.flash.sound → s.flash.mem.SameOutside sector.val t.flash.mem)
  kept : (∀ sector, s.flash.op ≠ .erase sector) →
    t.journal = s.journal ∧ t.flash = s.flash ∧ t.freeCount = s.freeCount

theorem Memory.eraseSector_sameOutside {m : Memory} (h : Memory.wf m = true) (sector : Nat)
    (left : List Byte) : m.SameOutside sector (m.eraseSector sector left) := by
  intro a outside
  refine Memory.read_replace_outside h _ _ a left ?_
  rw [show Config.sectorSize = 4096 from rfl]
  omega

theorem State.restartJournal_abandonsErase : s.AbandonsErase s.restartJournal := by
  refine ⟨fun sector erase => ?_, fun other => ?_⟩
  · unfold State.restartJournal
    rw [erase]
    exact ⟨rfl, rfl, fun sound => Memory.eraseSector_sameOutside sound _ _⟩
  · unfold State.restartJournal
    split
    · rename_i sector erase
      exact absurd erase (other sector)
    · exact ⟨rfl, rfl, rfl⟩

theorem State.restartJournal_frame : ∃ (j : Journal) (f : Flash) (n : Nat),
    s.restartJournal = { s with journal := j, flash := f, freeCount := n } := by
  unfold State.restartJournal
  split
  · exact ⟨_, _, _, rfl⟩
  · exact ⟨s.journal, s.flash, s.freeCount, rfl⟩

/-! ### The ports (R195) -/

theorem State.restartPorts_port (q : Port) :
    s.restartPorts.port q = ((s.port q).restart).raise .restart := by
  simp [State.restartPorts, State.raiseAll, State.port]

theorem State.restartPorts_noticed_restart : s.restartPorts.noticed .restart := fun q => by
  rw [State.restartPorts_port, PortState.raise_latch]
  simp

theorem State.restartPorts_noticed {k : Notice} (h : s.noticed k) : s.restartPorts.noticed k := fun q => by
  rw [State.restartPorts_port, PortState.raise_latch, PortState.restart, PortState.emptySlots, h q,
    Bool.true_or]


/-! ### The blocks together (R199) -/

/-- The records of the blocks, in their order, when the files `cs` are cut. -/
def State.restartEntries (s : State) (cs : List (SlotId × TripFile)) : List Entry :=
  s.restartFrontEntries ++ (allUnits.filter fun u => (s.modeOf u).test.isSome).map s.restartTestOff
    ++ cs.map s.cutRecord

/-- The notices of the blocks. -/
def State.restartNotices (s : State) (cs : List (SlotId × TripFile)) : List Notice :=
  s.restartFrontNotices ++ cs.map fun _ => .file

/-- The blocks of a restart up to the journal: what they have become. -/
structure State.RestartsBlocks (s t : State) (cs : List (SlotId × TripFile)) : Prop where
  frame : ∃ (m : Table 6 UnitMode) (x : Shift) (r : Trips) (y : TallyUnit) (j : Journal) (f : Flash) (n : Nat)
      (g : Ring) (p : PerPort PortState), t = { s with
    tb := { s.tb.restarted with alarm := Decidable.decide (s.settings.working.alarmClass < s.cls) }
    refs := ⟨(s.ref .ref1).restarted s.tb.runClock, (s.ref .ref2).restarted s.tb.runClock⟩
    sel := s.restartedSel, dist := { s.dist with latency := 2 }, lines := s.restartedLines
    due := { s.due with scan := false }
    modes := m, shift := x, trips := r, tally := y, journal := j, flash := f, freeCount := n
    ring := g, ports := p }
  mode : ∀ u, t.modeOf u = (s.modeOf u).restarted
  shift : s.shift.EndsTests t.shift fun u => (s.modeOf u).test.isSome
  cut : ∀ i f, (i, f) ∈ cs ↔ i ∈ s.trips.order ∧ s.file i = some f ∧ f.state = .opened
  distinct : (cs.map Prod.fst).Nodup
  file : ∀ i, t.file i = if i ∈ s.trips.order then (s.file i).map TripFile.cutOff else s.file i
  order : t.trips.order = s.trips.order.filter fun i => !s.holdsOpen i
  locked : t.tally.locked = s.tally.locked
  tally : ∀ u, t.tallyOf u = cs.foldl (UnitTally.hears u) (s.tallyOf u)
  journal : s.AbandonsErase t

theorem State.testOf_allUnits : s.testOf allUnits = fun u => (s.modeOf u).test.isSome := by
  funext u
  simp [State.testOf, allUnits]

theorem State.restartModes_restartsUnits : s.RestartsUnits s.restartModes allUnits := by
  unfold State.restartModes
  exact s.restartUnits allUnits (List.nodup_finRange 6)

theorem State.restartTrips_cutsFiles : ∃ cs, s.CutsFiles s.restartTrips s.trips.order cs := by
  unfold State.restartTrips
  exact s.cutFiles s.trips.order

theorem State.restartsBlocks :
    ∃ cs, s.RestartsBlocks s.restartFront.restartModes.restartTrips.restartJournal cs
      ∧ s.Tells s.restartFront.restartModes.restartTrips.restartJournal (s.restartEntries cs)
        (s.restartNotices cs) := by
  obtain ⟨g1, p1, e1⟩ := s.restartFront_frame
  have units := s.restartFront.restartModes_restartsUnits
  obtain ⟨m, x, g2, p2, e2⟩ := units.frame
  obtain ⟨cs, files⟩ := s.restartFront.restartModes.restartTrips_cutsFiles
  obtain ⟨r, y, g3, p3, e3⟩ := files.frame
  obtain ⟨j, f, n, e4⟩ := s.restartFront.restartModes.restartTrips.restartJournal_frame
  have erase := s.restartFront.restartModes.restartTrips.restartJournal_abandonsErase
  have trips : s.restartFront.restartModes.trips = s.trips := by rw [e2, e1]
  have modes : s.restartFront.modes = s.modes := by rw [e1]
  have modeOf (u : UnitId) : s.restartFront.modeOf u = s.modeOf u := by rw [State.modeOf, modes, State.modeOf]
  have file (i : SlotId) : s.restartFront.restartModes.file i = s.file i := by
    rw [State.file, trips, State.file]
  have holds (i : SlotId) : s.restartFront.restartModes.holdsOpen i = s.holdsOpen i := by
    rw [State.holdsOpen, file, State.holdsOpen]
  have tested : s.restartFront.testOf allUnits = fun u => (s.modeOf u).test.isSome := by
    rw [State.testOf_allUnits]
    exact funext fun u => by rw [modeOf]
  have modes4 : s.restartFront.restartModes.restartTrips.restartJournal.modes
      = s.restartFront.restartModes.modes := by rw [e4, e3]
  have shift4 : s.restartFront.restartModes.restartTrips.restartJournal.shift
      = s.restartFront.restartModes.shift := by rw [e4, e3]
  have shift1 : s.restartFront.shift = s.shift := by rw [e1]
  have trips4 : s.restartFront.restartModes.restartTrips.restartJournal.trips
      = s.restartFront.restartModes.restartTrips.trips := by rw [e4]
  have tally4 : s.restartFront.restartModes.restartTrips.restartJournal.tally
      = s.restartFront.restartModes.restartTrips.tally := by rw [e4]
  have tally2 : s.restartFront.restartModes.tally = s.tally := by rw [e2, e1]
  refine ⟨cs, ⟨⟨m, x, r, y, j, f, n, g3, p3, by rw [e4, e3, e2, e1]⟩, fun u => ?_, ?_, fun i f => ?_,
    files.distinct, fun i => ?_, ?_, ?_, fun u => ?_, ?_⟩, ?_⟩
  · rw [State.modeOf, modes4]
    exact (units.mode u).trans (by rw [if_pos (show u ∈ allUnits from List.mem_finRange u), modeOf])
  · have ended := units.shift
    rw [tested, shift1] at ended
    rw [shift4]
    exact ended
  · rw [files.mem, trips, file]
  · rw [State.file, trips4]
    exact (files.file i).trans (by rw [trips, file])
  · rw [trips4, files.order, trips]
    exact List.filter_congr fun i mem => by simp [mem, holds]
  · rw [tally4, files.locked, tally2]
  · rw [State.tallyOf, tally4]
    exact (files.tally u).trans (by rw [State.tallyOf, tally2, State.tallyOf])
  · have journal : s.restartFront.restartModes.restartTrips.journal = s.journal := by rw [e3, e2, e1]
    have flash : s.restartFront.restartModes.restartTrips.flash = s.flash := by rw [e3, e2, e1]
    have free : s.restartFront.restartModes.restartTrips.freeCount = s.freeCount := by rw [e3, e2, e1]
    refine ⟨fun sector op => ?_, fun other => ?_⟩
    · have done := erase.abandoned sector (by rw [flash]; exact op)
      rw [journal, flash] at done
      exact done
    · have done := erase.kept (by rw [flash]; exact other)
      rw [journal, flash, free] at done
      exact done
  · have off : s.restartFront.restartTestOff = s.restartTestOff := by rw [e1]; rfl
    have record : s.restartFront.restartModes.cutRecord = s.cutRecord := by rw [e2, e1]; rfl
    have told := (s.restartFront_tells.trans units.tells).trans files.tells
    rw [tested, off, record, List.append_nil] at told
    have ring : s.restartFront.restartModes.restartTrips.restartJournal.ring
        = s.restartFront.restartModes.restartTrips.ring := by rw [e4]
    have ports : s.restartFront.restartModes.restartTrips.restartJournal.ports
        = s.restartFront.restartModes.restartTrips.ports := by rw [e4]
    exact told.then_silence ring ports

theorem State.restartEntries_length {cs : List (SlotId × TripFile)} (distinct : (cs.map Prod.fst).Nodup) :
    (s.restartEntries cs).length ≤ 27 := by
  have front := s.restartFrontEntries_length
  have units : (allUnits.filter fun u => (s.modeOf u).test.isSome).length ≤ 6 :=
    (List.length_filter_le _ _).trans (by simp [allUnits])
  have files : cs.length ≤ 16 := by
    simpa using distinct.length_le_card
  simp only [State.restartEntries, List.length_append, List.length_map]
  omega

/-- Ring and ports have no part in what the blocks become. -/
theorem State.RestartsBlocks.congr {s t : State} {cs : List (SlotId × TripFile)} (h : s.RestartsBlocks t cs)
    (g : Ring) (p p' : PerPort PortState) :
    ({ s with ring := g, ports := p } : State).RestartsBlocks { t with ports := p' } cs := by
  obtain ⟨m, x, r, y, j, f, n, g', q, e⟩ := h.frame
  refine ⟨⟨m, x, r, y, j, f, n, g', p', by rw [e]; rfl⟩, h.mode, h.shift, h.cut, h.distinct, h.file, h.order,
    h.locked, h.tally, h.journal.abandoned, h.journal.kept⟩

/-! ### A restart in place (R199) -/

/-- The ring as the START record of a restart finds it. -/
def Ring.opened (r : Ring) : Ring := { r with started := true, deferred := [] }

/-- A restart in place, the ports but for their latches left aside. -/
structure State.Restarted (s t : State) (cs : List (SlotId × TripFile)) : Prop where
  blocks : s.reloadSettings.RestartsBlocks t cs
  gains : s.ring.opened.Gains t.ring (s.ownRecord .start 1 :: s.reloadSettings.restartEntries cs)
  noticed : ∀ k ∈ .restart :: s.reloadSettings.restartNotices cs, k ≠ .loss → t.noticed k

theorem State.start_of_empty (datum : BitVec 16) (empty : s.ring.deferred = []) :
    s.start datum = (s.withRing s.ring.opened).append (s.ownRecord .start datum) := by
  unfold State.start
  simp only [empty]
  rfl

theorem State.restart_of_running (running : s.phase = .running) :
    s.restart = (s.reloadSettings.start 1).restartBlocks := by
  rw [State.restart, if_pos running]

theorem State.restart_restarted (running : s.phase = .running) (empty : s.ring.deferred = []) :
    ∃ cs, s.Restarted s.restart cs ∧ ∀ q,
      s.restart.port q = { (s.port q).restart with latches := (s.restart.port q).latches } := by
  have start := s.reloadSettings.start_of_empty 1 empty
  have record := (s.reloadSettings.withRing s.reloadSettings.ring.opened).append_tells
    (s.reloadSettings.ownRecord .start 1)
  obtain ⟨g, p, e⟩ := (s.reloadSettings.withRing s.reloadSettings.ring.opened).append_frame
    (s.reloadSettings.ownRecord .start 1)
  rw [← start] at record e
  rw [s.restart_of_running running, State.restartBlocks_eq]
  generalize s.reloadSettings.start 1 = b at record e
  obtain ⟨cs, blocks, told⟩ := b.restartsBlocks
  have before : s.reloadSettings = { b with ring := s.ring, ports := s.ports } := by rw [e]; rfl
  have entries : b.restartEntries cs = s.reloadSettings.restartEntries cs := by rw [e]; rfl
  have notices : b.restartNotices cs = s.reloadSettings.restartNotices cs := by rw [e]; rfl
  rw [entries, notices] at told
  generalize b.restartFront.restartModes.restartTrips.restartJournal = v at blocks told
  have ports : v.ports = s.latched v := (record.trans told).ports
  refine ⟨cs, ⟨before ▸ blocks.congr s.ring s.ports v.restartPorts.ports, record.ring.trans told.ring,
    fun k mem other => ?_⟩, fun q => ?_⟩
  · rcases List.mem_cons.1 mem with rfl | mem
    · exact v.restartPorts_noticed_restart
    · exact v.restartPorts_noticed (told.noticed mem other)
  · have port : v.port q = { s.port q with latches := (v.port q).latches } := by
      rw [State.port, ports, State.latched, PerPort.get_map2]
      rfl
    rw [v.restartPorts_port, port]
    rfl

/-- The ports before the restart, and of those after it all but the latches, have no part in it. -/
theorem State.Restarted.congr {s t : State} {cs : List (SlotId × TripFile)} (h : s.Restarted t cs)
    (p : PerPort PortState) {t' : State} (ports : t' = { t with ports := t'.ports })
    (latches : ∀ q, (t'.port q).latches = (t.port q).latches) :
    ({ s with ports := p } : State).Restarted t' cs where
  blocks := by
    rw [ports]
    exact h.blocks.congr s.ring p t'.ports
  gains := by
    rw [ports]
    exact h.gains
  noticed k mem other := State.noticed_congr (h.noticed k mem other) latches


/-! ### What stands after a restart -/

section
variable {s t : State} {cs : List (SlotId × TripFile)}

/-- What the blocks wrote stands within the next 31 sequences after START. -/
theorem State.Restarted.wrote (h : s.Restarted t cs) {e : Entry} (mem : e ∈ s.reloadSettings.restartEntries cs) :
    ∃ n : Nat, 1 ≤ n ∧ n ≤ 31 ∧ t.ring.holds (s.ring.next + BitVec.ofNat 32 n) e := by
  have short := s.reloadSettings.restartEntries_length h.blocks.distinct
  have gains := h.gains
  obtain ⟨before, after, split⟩ := List.append_of_mem mem
  rw [split] at gains short
  rw [List.length_append, List.length_cons] at short
  refine ⟨before.length + 1, by omega, by omega, ?_⟩
  exact Ring.Gains.holds (r := s.ring.opened) (before := s.ownRecord .start 1 :: before) gains rfl
    (by rw [List.length_cons]; omega)

theorem State.Restarted.started (h : s.Restarted t cs) : t.ring.holds s.ring.next (s.ownRecord .start 1) := by
  have short := s.reloadSettings.restartEntries_length h.blocks.distinct
  have held : t.ring.holds (s.ring.next + BitVec.ofNat 32 0) (s.ownRecord .start 1) :=
    Ring.Gains.holds (r := s.ring.opened) (before := []) h.gains rfl (by rw [List.length_nil]; omega)
  simpa using held

/-- The whole state after a restart, with the parts whose values the blocks' own facts give. -/
theorem State.Restarted.whole (h : s.Restarted t cs) : t = { s with
    settings := { s.settings with working := s.settings.reloaded }
    tb := { s.tb.restarted with
      alarm := Decidable.decide (s.settings.reloaded.alarmClass < s.cls) }
    refs := ⟨(s.ref .ref1).restarted s.tb.runClock, (s.ref .ref2).restarted s.tb.runClock⟩
    sel := s.restartedSel, dist := { s.dist with latency := 2 }
    lines := s.reloadSettings.restartedLines, due := { s.due with scan := false }
    modes := t.modes, ring := t.ring, trips := t.trips, tally := t.tally
    shift := t.shift, journal := t.journal, flash := t.flash, freeCount := t.freeCount
    ports := t.ports } := by
  obtain ⟨m, x, r, y, j, f, n, g, p, e⟩ := h.blocks.frame
  rw [e]
  rfl

theorem State.Restarted.settings (h : s.Restarted t cs) :
    t.settings = { s.settings with working := s.settings.reloaded } := congrArg State.settings h.whole

theorem State.Restarted.tb (h : s.Restarted t cs) : t.tb = { s.tb.restarted with
    alarm := Decidable.decide (t.settings.working.alarmClass < s.cls) } := by
  rw [h.settings]
  exact congrArg State.tb h.whole

theorem State.Restarted.ref (h : s.Restarted t cs) (r : RefId) :
    t.ref r = (s.ref r).restarted s.tb.runClock := by
  have refs := congrArg State.refs h.whole
  rw [State.ref, refs]
  cases r <;> rfl

theorem State.Restarted.sel (h : s.Restarted t cs) : t.sel = s.restartedSel := congrArg State.sel h.whole

theorem State.Restarted.dist (h : s.Restarted t cs) : t.dist = { s.dist with latency := 2 } :=
  congrArg State.dist h.whole

theorem State.Restarted.lines (h : s.Restarted t cs) : t.lines = s.reloadSettings.restartedLines :=
  congrArg State.lines h.whole

theorem State.Restarted.frame (h : s.Restarted t cs) : t = { s with
    settings := t.settings, tb := t.tb, refs := t.refs, sel := t.sel, dist := t.dist
    lines := t.lines, modes := t.modes, ring := t.ring, trips := t.trips, tally := t.tally
    shift := t.shift, journal := t.journal, flash := t.flash, freeCount := t.freeCount
    ports := t.ports, due := { s.due with scan := false } } := by
  have refs : t.refs = _ := congrArg State.refs h.whole
  have tb : t.tb = _ := congrArg State.tb h.whole
  rw [h.settings, tb, refs, h.sel, h.dist, h.lines]
  exact h.whole

theorem State.Restarted.line (h : s.Restarted t cs) (l : LineId) :
    t.line l = (s.line l).stop.takePlan t.settings.working l := by
  rw [State.line, h.lines, h.settings, State.restartedLines, Table.get_mapIdx]
  rfl

theorem LineId.unit_lineOf (u : UnitId) (k : Fin 8) : LineId.unit (lineOf u k) = u := by
  apply Fin.ext
  simp only [LineId.unit, lineOf]
  omega

theorem LineId.index_lineOf (u : UnitId) (k : Fin 8) : LineId.index (lineOf u k) = k.val := by
  simp only [LineId.index, lineOf]
  omega

theorem State.Restarted.file (h : s.Restarted t cs) {i : SlotId} {f : TripFile} (file : s.file i = some f) :
    t.file i = if i ∈ s.trips.order ∧ f.state = .opened then some (f.closed true) else some f := by
  have now : t.file i = if i ∈ s.trips.order then (s.file i).map TripFile.cutOff else s.file i :=
    h.blocks.file i
  rw [now, file, Option.map_some, TripFile.cutOff]
  by_cases listed : i ∈ s.trips.order <;> by_cases opened : f.state = .opened <;> simp [listed, opened]

theorem State.Restarted.noFile (h : s.Restarted t cs) {i : SlotId} (file : s.file i = none) :
    t.file i = none := by
  have now : t.file i = if i ∈ s.trips.order then (s.file i).map TripFile.cutOff else s.file i :=
    h.blocks.file i
  rw [now, file, Option.map_none, ite_self]

theorem State.Restarted.order (h : s.Restarted t cs) :
    t.trips.order = s.trips.order.filter fun i => !s.holdsOpen i := h.blocks.order

/-- The test marks, and the running summary's. -/
theorem State.Restarted.shift (h : s.Restarted t cs) :
    s.shift.EndsTests t.shift fun u => (s.modeOf u).test.isSome := h.blocks.shift

theorem State.Restarted.cut (h : s.Restarted t cs) (i : SlotId) (f : TripFile) :
    (i, f) ∈ cs ↔ i ∈ s.trips.order ∧ s.file i = some f ∧ f.state = .opened := h.blocks.cut i f

theorem State.Restarted.tally (h : s.Restarted t cs) (u : UnitId) :
    t.tallyOf u = cs.foldl (UnitTally.hears u) (s.tallyOf u) := h.blocks.tally u

theorem State.Restarted.quality (h : s.Restarted t cs) (moved : t.tb.alarm ≠ s.tb.alarm) :
    s.ownRecord .quality (BitVec.ofNat 16 (s.cls * 256 + s.cls)) ∈ s.reloadSettings.restartEntries cs
      ∧ .quality ∈ s.reloadSettings.restartNotices cs := by
  rw [h.tb, h.settings] at moved
  have written : s.reloadSettings.restartQuality
      = [s.ownRecord .quality (BitVec.ofNat 16 (s.cls * 256 + s.cls))] := if_neg moved
  constructor
  · simp [State.restartEntries, State.restartFrontEntries, written]
  · simp [State.restartNotices, State.restartFrontNotices, written]

theorem State.restartRefState_mem {r : RefId} (h : (s.ref r).state ≠ .listen) :
    s.ownRecord .refState (BitVec.ofNat 16 (r.code * 256 + 1)) ∈ s.restartEntries cs := by
  have written : s.restartRefState r = [s.ownRecord .refState (BitVec.ofNat 16 (r.code * 256 + 1))] := if_neg h
  cases r <;> simp [State.restartEntries, State.restartFrontEntries, State.restartReferenceEntries, written]

theorem State.restartRefSelect_mem (h : s.sel.selected ≠ none) :
    s.ownRecord .refSelect (BitVec.ofNat 16 (s.sel.mode.code * 256)) ∈ s.restartEntries cs
      ∧ .ref ∈ s.restartNotices cs := by
  have written : s.restartRefSelect = [s.ownRecord .refSelect (BitVec.ofNat 16 (s.sel.mode.code * 256))] := if_neg h
  constructor
  · simp [State.restartEntries, State.restartFrontEntries, State.restartReferenceEntries, written]
  · simp [State.restartNotices, State.restartFrontNotices, h]

theorem State.restartDisagree_mem (h : s.sel.disagree = true) :
    s.ownRecord .disagree 0 ∈ s.restartEntries cs ∧ .ref ∈ s.restartNotices cs := by
  have written : s.restartDisagree = [s.ownRecord .disagree 0] := if_pos h
  constructor
  · simp [State.restartEntries, State.restartFrontEntries, State.restartReferenceEntries, written]
  · simp [State.restartNotices, State.restartFrontNotices, h]

theorem State.restartTestOff_mem {u : UnitId} (h : (s.modeOf u).test.isSome = true) :
    s.restartTestOff u ∈ s.restartEntries cs := by
  have mem : s.restartTestOff u ∈ (allUnits.filter fun u => (s.modeOf u).test.isSome).map s.restartTestOff :=
    List.mem_map_of_mem (List.mem_filter.2 ⟨List.mem_finRange u, h⟩)
  simp only [State.restartEntries, List.mem_append]
  exact .inl (.inr mem)

theorem State.cutRecord_mem {c : SlotId × TripFile} (mem : c ∈ cs) :
    s.cutRecord c ∈ s.restartEntries cs ∧ .file ∈ s.restartNotices cs := by
  constructor
  · simp only [State.restartEntries, List.mem_append]
    exact .inr (List.mem_map_of_mem mem)
  · exact List.mem_append.2 (.inr (List.mem_map.2 ⟨c, mem, rfl⟩))

end


/-! ### The request (R187, R195) -/

theorem changeFirst_none {α : Type} (c : α → Bool) (l : List α) :
    changeFirst c (fun _ => none) l = l.eraseP c := by
  induction l with
  | nil => rfl
  | cons a l ih => rw [changeFirst, List.eraseP_cons, ih]; cases c a <;> rfl

/-- RESTART leaves no response: the orphan that it became is removed (R195; log 13). -/
theorem PortState.settle_removed {x : PortState} {r : Request} (orphan : x.orphans.any (Build.waits r) = true) :
    x.settle r .removed = { x with orphans := x.orphans.eraseP (Build.waits r) } := by
  rw [PortState.settle, PortState.changeBuild, if_pos orphan,
    show Build.settle .removed = fun _ => none from rfl, changeFirst_none]

theorem State.take_restart {s : State} {q : Port} (h : (s.port q).waits .restart = true) :
    s.take q .restart = s.restart.modPort q fun x => x.settle .restart .removed := by
  rw [State.take, if_pos h]
  rfl

theorem PortState.restart_orphans (x : PortState) : x.restart.orphans = x.builds := rfl

/-- A RESTART that waits is taken: the restart in place, and the build that brought it is gone. -/
theorem State.take_restart_spec {s : State} {q : Port} (h : (s.port q).waits .restart = true)
    (running : s.phase = .running) (empty : s.ring.deferred = []) :
    ∃ cs, s.Restarted (s.take q .restart) cs ∧ ∀ each,
      (s.take q .restart).port each = { (s.port each).restart with
        orphans := if each = q then (s.port q).builds.eraseP (Build.waits .restart) else (s.port each).builds
        latches := ((s.take q .restart).port each).latches } := by
  obtain ⟨cs, restarted, ports⟩ := s.restart_restarted running empty
  rw [State.take_restart h]
  have orphan : (s.restart.port q).orphans = (s.port q).builds := by
    rw [ports q]
    rfl
  have own : (s.restart.modPort q fun x => x.settle .restart .removed).port q = { s.restart.port q with
      orphans := (s.port q).builds.eraseP (Build.waits .restart) } := by
    rw [State.modPort, State.setPort, State.port, PerPort.get_set_same,
      PortState.settle_removed (by rw [orphan]; exact h), orphan]
  have other {each : Port} (ne : each ≠ q) :
      (s.restart.modPort q fun x => x.settle .restart .removed).port each = s.restart.port each := by
    rw [State.modPort, State.setPort, State.port, PerPort.get_set_other _ _ ne]
    rfl
  refine ⟨cs, restarted.congr s.ports rfl fun each => ?_, fun each => ?_⟩
  · by_cases same : each = q
    · rw [same, own]
    · rw [other same]
  · by_cases same : each = q
    · rw [same, own, if_pos rfl, ports q]
    · rw [other same, if_neg same]
      exact ports each


/-! ### A frame that hands RESTART on (R187 case 9, R195) -/

/-- The port of a frame at its end, its SENDING slot emptied. -/
def PortState.frameClosed (x : PortState) : PortState :=
  { x with inFrame := false, slotA := x.slotA.dropSending, slotB := x.slotB.dropSending }

theorem PortState.closeFrame_of_inFrame {x : PortState} (inFrame : x.inFrame = true) (starting : Bool) :
    x.closeFrame starting = x.frameClosed := by
  rw [PortState.closeFrame, PortState.ensureFrame, if_pos inFrame]
  rfl

theorem PortState.frameClosed_busy (x : PortState) : x.frameClosed.busy = x.busy := by
  have same (slot : Slot) : slot.dropSending.isBuilding = slot.isBuilding := by cases slot <;> rfl
  simp [PortState.busy, PortState.frameClosed, same]

theorem judgeRequest_restart : judgeRequest .g Request.restart.frame = .hand .restart := by
  decide +kernel

theorem isClearPort_restart : isClearPort Request.restart.frame = false := by
  decide +kernel

/-- The build of a RESTART that has been handed on. -/
def Build.restartHanded : Build := ⟨.restart, false, none⟩

/-- Port G at the end of a frame with RESTART. -/
def PortState.restartHanded (x : PortState) : PortState :=
  x.frameClosed.place x.slotA.isSending (.building Build.restartHanded)

section
variable {x : PortState}

theorem PortState.endVerdict_restart (inFrame : x.inFrame = true) (idle : x.busy = false) :
    x.endVerdict false .g Request.restart.frame = .hand .restart := by
  rw [PortState.endVerdict, PortState.closeFrame_of_inFrame inFrame, PortState.verdict,
    if_neg Bool.false_ne_true, isClearPort_restart, if_neg Bool.false_ne_true, x.frameClosed_busy, idle,
    if_neg Bool.false_ne_true, judgeRequest_restart]

theorem PortState.endFrame_restart (inFrame : x.inFrame = true) (idle : x.busy = false) (code : Byte) :
    x.endFrame false .g Request.restart.frame code = x.restartHanded := by
  rw [PortState.endFrame, PortState.endVerdict_restart inFrame idle,
    PortState.closeFrame_of_inFrame inFrame, PortState.ensureFrame, if_pos inFrame]
  rfl

theorem Slot.builds_of_idle {slot : Slot} (idle : slot.isBuilding = false) : slot.builds = [] := by
  cases slot with
  | building => cases idle
  | empty | finished | sending => rfl

theorem Slot.dropSending_keepSending (slot : Slot) : slot.dropSending.keepSending = .empty := by
  cases slot <;> rfl

theorem Slot.dropSending_builds (slot : Slot) : slot.dropSending.builds = slot.builds := by
  cases slot <;> rfl

theorem Slot.keepSending_building (b : Build) : (Slot.building b).keepSending = .empty := rfl

theorem Slot.builds_building (b : Build) : (Slot.building b).builds = [b] := rfl

theorem Slot.keepSending_builds (slot : Slot) : slot.keepSending.builds = [] := by
  cases slot <;> rfl

theorem PortState.builds_of_idle (idle : x.busy = false) :
    x.slotA.builds = [] ∧ x.slotB.builds = [] := by
  rw [PortState.busy, Bool.or_eq_false_iff] at idle
  exact ⟨Slot.builds_of_idle idle.1, Slot.builds_of_idle idle.2⟩

/-- The restart makes the new build an orphan and leaves the port otherwise as without it. -/
theorem PortState.restartHanded_restart (idle : x.busy = false) :
    x.restartHanded.restart
      = { x.frameClosed.restart with orphans := x.orphans ++ [Build.restartHanded] } := by
  obtain ⟨a, b⟩ := PortState.builds_of_idle idle
  unfold PortState.restartHanded PortState.place
  split
  · simp [PortState.restart, PortState.emptySlots, PortState.frameClosed, Slot.dropSending_keepSending,
      Slot.dropSending_builds, b, Slot.keepSending_building, Slot.builds_building]
  · simp [PortState.restart, PortState.emptySlots, PortState.frameClosed, Slot.dropSending_keepSending,
      Slot.dropSending_builds, a, Slot.keepSending_building, Slot.builds_building]

theorem PortState.restartHanded_builds (idle : x.busy = false) :
    x.restartHanded.builds = x.builds ++ [Build.restartHanded] := by
  have orphans := congrArg PortState.orphans (PortState.restartHanded_restart idle)
  rw [PortState.restart_orphans] at orphans
  obtain ⟨a, b⟩ := PortState.builds_of_idle idle
  rw [orphans, PortState.builds, a, b, List.append_nil, List.append_nil]

theorem PortState.restartHanded_waits (idle : x.busy = false) : x.restartHanded.waits .restart = true := by
  change x.restartHanded.builds.any (Build.waits .restart) = true
  rw [PortState.restartHanded_builds idle, List.any_append]
  simp [Build.restartHanded, Build.waits]

/-- Of builds of which none waited, the new one is the one removed. -/
theorem PortState.restartHanded_removed (idle : x.busy = false) (fresh : x.waits .restart = false) :
    x.restartHanded.builds.eraseP (Build.waits .restart) = x.builds := by
  have none_waits : ∀ b ∈ x.builds, ¬ Build.waits .restart b = true := by
    have none_any : x.builds.any (Build.waits .restart) = false := fresh
    simpa using none_any
  rw [PortState.restartHanded_builds idle, List.eraseP_append_right _ none_waits]
  simp [Build.restartHanded, Build.waits]

end

theorem State.frameEnd_restart {s : State} (running : s.phase = .running) (inFrame : (s.port .g).inFrame = true)
    (idle : (s.port .g).busy = false) (noNop : (s.port .g).waits .nop = false) :
    s.frameEnd .g Request.restart.frame
      = (s.setPort .g (s.port .g).restartHanded).take .g .restart := by
  have awake : (Decidable.decide (s.phase = .off) || s.noFrame .g Request.restart.frame) = false := by
    simp [running, State.noFrame, inFrame]
  have answered : s.answerNop .g = s := s.take_of_not_waiting .g .nop noNop
  have settled : s.isStarting = false := by simp [State.isStarting, running]
  have handed : (s.port .g).handsRestart false .g Request.restart.frame = true := by
    rw [PortState.handsRestart, PortState.endVerdict_restart inFrame idle]
    rfl
  have ended : s.endFrame .g Request.restart.frame = s.setPort .g (s.port .g).restartHanded := by
    have frame : ∃ code rest, Request.restart.frame = code :: rest := ⟨_, _, rfl⟩
    obtain ⟨code, rest, e⟩ := frame
    have port := PortState.endFrame_restart inFrame idle code
    rw [e] at port ⊢
    rw [State.endFrame, settled]
    simp only [State.modPort, port]
  rw [State.frameEnd, awake, if_neg Bool.false_ne_true]
  simp only [answered, settled, ended]
  rw [if_pos handed]


theorem State.restart_of_not_running (s : State) (other : s.phase ≠ .running) : s.restart = s := by
  rw [State.restart, if_neg other]

/-- Both rows that a frame with RESTART can be run by. -/
theorem State.frame_restarts {s : State} {c : Instr} (running : s.phase = .running)
    (empty : s.ring.deferred = []) (inFrame : (s.port .g).inFrame = true) (idle : (s.port .g).busy = false)
    (noNop : (s.port .g).waits .nop = false) (noRestart : (s.port .g).waits .restart = false)
    (row : c = .frameEnd .g Request.restart.frame ∨ c = .restart .g) :
    ∃ t, exec c s = .next t ∧ (∃ cs, s.Restarted t cs) ∧ ∀ each,
      t.port each = { (if each = .g then (s.port .g).frameClosed else s.port each).restart with
        orphans := (s.port each).builds, latches := (t.port each).latches } := by
  have waits : ((s.setPort .g (s.port .g).restartHanded).port .g).waits .restart = true := by
    rw [State.port, State.setPort, PerPort.get_set_same]
    exact PortState.restartHanded_waits idle
  obtain ⟨cs, restarted, ports⟩ := State.take_restart_spec waits running empty
  have ended := State.frameEnd_restart running inFrame idle noNop
  rw [← ended] at restarted ports
  have own : (s.setPort .g (s.port .g).restartHanded).port .g = (s.port .g).restartHanded := by
    rw [State.port, State.setPort, PerPort.get_set_same]
  have other {each : Port} (ne : each ≠ .g) :
      (s.setPort .g (s.port .g).restartHanded).port each = s.port each := PerPort.get_set_other _ _ ne
  have now (each : Port) : (s.frameEnd .g Request.restart.frame).port each
      = { (if each = .g then (s.port .g).frameClosed else s.port each).restart with
        orphans := (s.port each).builds
        latches := ((s.frameEnd .g Request.restart.frame).port each).latches } := by
    by_cases same : each = .g
    · subst same
      rw [if_pos rfl]
      refine (ports .g).trans ?_
      rw [if_pos rfl, own, PortState.restartHanded_restart idle,
        PortState.restartHanded_removed idle noRestart]
    · rw [if_neg same]
      refine (ports each).trans ?_
      rw [if_neg same, other same]
  refine ⟨s.frameEnd .g Request.restart.frame, ?_, ⟨cs, restarted.congr s.ports rfl fun _ => rfl⟩, now⟩
  rcases row with rfl | rfl
  · rfl
  · have taken : ((s.frameEnd .g Request.restart.frame).port .g).waits .restart = false := by
      have builds : ((s.frameEnd .g Request.restart.frame).port .g).builds = (s.port .g).builds := by
        rw [now .g, PortState.builds]
        simp [PortState.restart, PortState.emptySlots, Slot.keepSending_builds]
      change ((s.frameEnd .g Request.restart.frame).port .g).builds.any _ = false
      rw [builds]
      exact noRestart
    refine congrArg Host.Outcome.next ?_
    rw [State.request, if_neg (by rw [noRestart]; decide), State.take_of_not_waiting _ _ _ taken]

/-! ### The obligation -/

/-- Settles O57: the blocks one after another, their records counted from START on; the frame that brings the
request moves nothing but its own port. -/
theorem restartReloadsAndRestartsBlocks : Obligations.RestartReloadsAndRestartsBlocks := by
  unfold Obligations.RestartReloadsAndRestartsBlocks
  intro cuts wrote after emptied
  have after_of {s t : State} {cs : List (SlotId × TripFile)} (h : s.Restarted t cs) : after s t := by
    refine ⟨h.settings, h.tb, h.ref, ?_, ?_, h.dist, ?_, ?_, fun l => ?_, fun u k => ?_, h.blocks.mode,
      fun i f file => h.file file, fun i file => h.noFile file, ?_, h.blocks.locked, fun u => ?_, fun u => ?_,
      fun u tests => ?_, fun i f cut counted only => ?_, h.shift.frame, h.shift.unit, h.shift.closed,
      h.shift.summary, ?_, h.noticed .restart List.mem_cons_self (by decide), h.started, fun moved => ?_,
      fun r moved => ?_, fun selected => ?_, fun disagree => ?_, fun u test => ?_, fun i f cut => ?_, h.frame⟩
    · rw [h.sel]
      rfl
    · intro lost each
      rw [h.sel, State.restartedSel, if_pos lost, PerPort.get_all]
    · rw [h.lines]
      rfl
    · rw [h.lines, h.settings]
      rfl
    · rw [h.line]
      rfl
    · rw [h.line]
      simp only [Line.takePlan, LineId.unit_lineOf, LineId.index_lineOf, and_self]
    · refine h.order.trans (List.filter_congr fun i _ => ?_)
      unfold State.holdsOpen
      cases s.file i with
      | none => rfl
      | some f => exact decide_not.symm
    · rw [h.tally]
      exact UnitTally.hearsAll_frame
    · rw [h.tally]
      exact UnitTally.hearsAll_dates
    · rw [h.tally]
      exact UnitTally.hearsAll_of_foreign fun c mem unit =>
        tests c.1 c.2 ((h.cut c.1 c.2).1 mem) unit
    · rw [h.tally]
      exact UnitTally.hearsAll_of_one ((h.cut i f).2 cut) h.blocks.distinct rfl counted
        fun c mem unit uncounted => only c.1 c.2 ((h.cut c.1 c.2).1 mem) unit uncounted
    · cases op : s.flash.op with
      | erase sector => exact h.blocks.journal.abandoned sector op
      | none | program | settingsErase | settingsProgram =>
        exact h.blocks.journal.kept fun sector erase => by cases op.symm.trans erase
    · obtain ⟨entry, notice⟩ := h.quality moved
      exact ⟨h.noticed _ (List.mem_cons_of_mem _ notice) (by decide), h.wrote entry⟩
    · exact h.wrote (s.reloadSettings.restartRefState_mem moved)
    · obtain ⟨entry, notice⟩ := s.reloadSettings.restartRefSelect_mem (cs := cs) selected
      exact ⟨h.noticed _ (List.mem_cons_of_mem _ notice) (by decide), h.wrote entry⟩
    · obtain ⟨entry, notice⟩ := s.reloadSettings.restartDisagree_mem (cs := cs) disagree
      exact ⟨h.noticed _ (List.mem_cons_of_mem _ notice) (by decide), h.wrote entry⟩
    · exact h.wrote (s.reloadSettings.restartTestOff_mem test)
    · obtain ⟨entry, notice⟩ := s.reloadSettings.cutRecord_mem ((h.cut i f).2 cut)
      exact ⟨h.noticed _ (List.mem_cons_of_mem _ notice) (by decide), h.wrote entry⟩
  have empties {x y : PortState} {orphans : List Build}
      (h : y = { x.restart with orphans := orphans, latches := y.latches }) : emptied x y orphans := h
  refine ⟨fun s running empty _ => ⟨?_, fun q waits => ?_⟩,
    fun s c running empty _ inFrame idle noNop noRestart row => ?_, fun s other => ?_⟩
  · obtain ⟨cs, restarted, ports⟩ := s.restart_restarted running empty
    exact ⟨s.restart, rfl, after_of restarted, fun each => empties (ports each)⟩
  · obtain ⟨cs, restarted, ports⟩ := State.take_restart_spec waits running empty
    exact ⟨s.take q .restart, congrArg Host.Outcome.next (State.request_of_waits waits), after_of restarted,
      fun each => empties (ports each)⟩
  · obtain ⟨t, run, ⟨cs, restarted⟩, ports⟩ := State.frame_restarts running empty inFrame idle noNop noRestart row
    exact ⟨t, run, after_of restarted, fun each => empties (ports each)⟩
  · exact congrArg Host.Outcome.next (s.restart_of_not_running other)


end Sys2Proof.Machine
end

section
/-! A pulse that comes too early, too late or not at all (R27, R30, R32, R35, R43): O10. -/

namespace Sys2Proof.Machine

/-! ### A reference rewritten, then moved -/

section
variable (s : State) (r : RefId) (x : Reference) (new : RefState)

/-- Beside the reference, a move changes the Timebase, the selection and the ring, and of the ports latches
alone. -/
theorem State.setRef_moveRef_frame : (s.setRef r x).moveRef r new = { s with
    refs := ((s.setRef r x).moveRef r new).refs
    tb := ((s.setRef r x).moveRef r new).tb
    sel := ((s.setRef r x).moveRef r new).sel
    ring := ((s.setRef r x).moveRef r new).ring
    ports := s.latched ((s.setRef r x).moveRef r new) } := by
  have ports := ((State.Disturbs.setRef (s := s) r x).trans (State.Disturbs.moveRef r new)).few.ports
  obtain ⟨t, y, g, p, e⟩ := (s.setRef r x).moveRef_frame r new
  rw [← ports, e]
  rfl

theorem State.setRef_moveRef_ref_same :
    ((s.setRef r x).moveRef r new).ref r = { x with state := new } := by
  rw [State.moveRef_ref_same, State.ref_setRef_same]

theorem State.setRef_moveRef_ref_other :
    ((s.setRef r x).moveRef r new).ref r.other = s.ref r.other := by
  rw [State.moveRef_ref_other, State.ref_setRef_other]

end

section
variable {s : State} {r : RefId} {rising : Bool} {a : Capture}

/-! ### An early pulse (R32) -/

theorem State.placeEdge_of_early {edge : Capture} (anchor : (s.ref r).anchor = some a)
    (early : edge.runClock + s.settings.working.spacingTolerance * 1000 < a.runClock + 1000000000) :
    s.placeEdge r edge = if (s.ref r).failed then s
      else (s.setRef r { s.ref r with
        failed := true, lastFailure := some .earlyPulse, count := 0 }).moveRef r .check := by
  rw [State.placeEdge, anchor]
  simp only [Config.second_eq, if_pos early, State.failSecond_setRef]

/-- An active edge before the spacing window restarts the loss timer, and fails a second that has not failed
yet. -/
theorem State.pulseEdge_of_early (arrived : (s.ref r).arrived = none) (judging : (s.ref r).judging = true)
    (polarity : (s.ref r).polarity = some rising) (anchor : (s.ref r).anchor = some a)
    (early : s.tb.runClock + s.settings.working.spacingTolerance * 1000 < a.runClock + 1000000000) :
    s.pulseEdge r rising = if (s.ref r).failed then s.setRef r { s.ref r with lossFrom := s.tb.runClock }
      else (s.setRef r { s.ref r with
        lossFrom := s.tb.runClock
        failed := true
        lastFailure := some .earlyPulse
        count := 0 }).moveRef r .check := by
  have inTime : s.failLate r = s := State.failLate_of_inside anchor (by omega)
  have placed := State.placeEdge_of_early (edge := s.capture) (r := r) (a := a)
    (s := s.setRef r { s.ref r with lossFrom := s.tb.runClock })
    (by rw [State.ref_setRef_same]; exact anchor) early
  rw [State.ref_setRef_same, State.setRef_setRef] at placed
  rw [State.pulseEdge_of_active arrived judging polarity, State.secondEdge, if_pos rfl, inTime]
  exact placed

theorem State.earlyPulse_failsSecondOnce : Claims.EarlyPulseFailsSecondOnce := by
  intro s r rising a watch arrived judging polarity anchor early
  rw [exec_pulseEdge watch, State.pulseEdge_of_early arrived judging polarity anchor early]
  rcases failed : (s.ref r).failed with _ | _
  · refine ⟨_, rfl, s.setRef_moveRef_ref_other _ _ _, fun _ => ⟨?_, s.setRef_moveRef_frame _ _ _⟩,
      fun again => absurd again (by decide)⟩
    exact s.setRef_moveRef_ref_same _ _ _
  · exact ⟨_, rfl, s.ref_setRef_other _ _, fun first => absurd first (by decide),
      fun _ => ⟨s.ref_setRef_same _ _, rfl⟩⟩

/-! ### A late pulse (R32) -/

theorem State.failLate_of_no_anchor (anchor : (s.ref r).anchor = none) : s.failLate r = s := by
  have undue : s.latePulseDue r = false := by rw [State.latePulseDue, anchor]
  rw [State.failLate, undue]
  rfl

/-- Past the late end of the window the second fails, and no second is open. -/
theorem State.failLate_of_late (judging : (s.ref r).judging = true) (anchor : (s.ref r).anchor = some a)
    (late : a.runClock + 1000000000 + s.settings.working.spacingTolerance * 1000 < s.tb.runClock) :
    s.failLate r = (s.setRef r { (s.ref r).openSecond none with
      lastFailure := some .latePulse, count := 0 }).moveRef r .check := by
  have due : s.latePulseDue r = true := by
    rw [State.latePulseDue, anchor]
    exact Bool.and_eq_true_iff.2 ⟨judging, decide_eq_true late⟩
  rw [State.failLate, if_pos due, State.failSecond_setRef]

theorem State.latePulse_failsSecond : Claims.LatePulseFailsSecond := by
  refine ⟨fun s r a judging anchor late => ?_, fun s r inTime => congrArg Host.Outcome.next ?_⟩
  · have run : exec (.latePulse r) s = .next _ :=
      congrArg Host.Outcome.next (State.failLate_of_late judging anchor late)
    have own := s.setRef_moveRef_ref_same r { (s.ref r).openSecond none with
      lastFailure := some .latePulse, count := 0 } .check
    refine ⟨_, run, congrArg Reference.state own, congrArg Reference.anchor own, congrArg Reference.window own,
      congrArg Reference.count own, congrArg Reference.lastFailure own, (congrArg Reference.polarity own :),
      (congrArg Reference.claim own :), s.setRef_moveRef_ref_other _ _ _, fun was selected => ?_,
      s.setRef_moveRef_frame _ _ _⟩
    refine State.moveRef_drops ?_ (by decide) selected
    rw [State.ref_setRef_same]
    exact was
  · rcases anchor : (s.ref r).anchor with _ | a
    · exact State.failLate_of_no_anchor anchor
    · exact State.failLate_of_inside anchor (inTime a anchor)

/-! ### No pulse (R27, R30) -/

/-- A reference that enters ABSENT stands as at power-on, but for its last failure, its loss timer and the
message receiver. -/
theorem State.loseRef_ref_same : (s.loseRef r).ref r = { Reference.powerOn with
    lastFailure := (s.ref r).lastFailure
    lossFrom := (s.ref r).lossFrom
    received := (s.ref r).received
    lastByteEnd := (s.ref r).lastByteEnd
    arrived := (s.ref r).arrived } :=
  s.setRef_moveRef_ref_same _ _ _

theorem State.expirePulse_of_due (state : (s.ref r).state ≠ .absent)
    (late : (s.ref r).lossFrom + 3000000000 ≤ s.tb.runClock) : s.expirePulse r = s.loseRef r :=
  if_pos (decide_eq_true ⟨state, late⟩)

theorem State.expirePulse_of_not_due
    (h : (s.ref r).state = .absent ∨ s.tb.runClock < (s.ref r).lossFrom + 3000000000) :
    s.expirePulse r = s := by
  have undue : s.pulseLossDue r = false := by
    refine decide_eq_false fun ⟨state, late⟩ => ?_
    rw [Config.second_eq] at late
    rcases h with absent | early
    · exact state absent
    · omega
  rw [State.expirePulse, undue]
  rfl

end

theorem State.pulseLoss_makesReferenceAbsent : Claims.PulseLossMakesReferenceAbsent := by
  refine ⟨fun s r state late => ?_, fun s r early =>
    congrArg Host.Outcome.next (State.expirePulse_of_not_due early)⟩
  have run : exec (.pulseLossTimeout r) s = .next (s.loseRef r) :=
    congrArg Host.Outcome.next (State.expirePulse_of_due state late)
  have own := State.loseRef_ref_same (s := s) (r := r)
  exact ⟨_, run, congrArg Reference.state own, congrArg Reference.polarity own, congrArg Reference.count own,
    congrArg Reference.anchor own, congrArg Reference.window own, congrArg Reference.previous own,
    congrArg Reference.lastMessage own, congrArg Reference.claim own, congrArg Reference.learning own,
    (congrArg Reference.lastFailure own :), s.setRef_moveRef_ref_other _ _ _, s.setRef_moveRef_frame _ _ _⟩

/-- Settles O10: an early and a late pulse fail the second, and 3 s without an edge lose the reference. -/
theorem missingOrStrayPulsesFailReference : Obligations.MissingOrStrayPulsesFailReference :=
  ⟨State.earlyPulse_failsSecondOnce, State.latePulse_failsSecond, State.pulseLoss_makesReferenceAbsent⟩

end Sys2Proof.Machine
end

section
/-! Time messages: the receiver that assembles them and the second they belong to (R28, R29): O11 and O12. -/

namespace Sys2Proof.Machine

/-! ### What a complete message says (R28) -/

theorem ofBe_pair (a b : Byte) : ofBe [a, b] = 256 * a.toNat + b.toNat := by
  simp [ofBe, Nat.mul_comm]

/-- The check and the claim class of a complete message, as R28 reads. -/
theorem messageFault_eq {bytes : List Byte} (whole : bytes.length = 12) :
    messageFault bytes =
      if (((bytes.take 10).map BitVec.toNat).sum + 256 * (bytes.getD 10 0).toNat
          + (bytes.getD 11 0).toNat) % 65536 ≠ 0 then some .badCheck
      else if (bytes.getD 6 0).toNat = 0 ∨ 6 < (bytes.getD 6 0).toNat then some .badMessage else none := by
  have check : (bytes.drop 10).take 2 = [bytes.getD 10 0, bytes.getD 11 0] := by
    rw [List.getD_eq_getElem _ _ (by omega), List.getD_eq_getElem _ _ (by omega),
      List.drop_eq_getElem_cons (by omega), List.drop_eq_getElem_cons (by omega)]
    rfl
  have total : (bytes.take 10).foldl (fun acc b => acc + b.toNat) 0
      = ((bytes.take 10).map BitVec.toNat).sum := by
    rw [List.sum_eq_foldl, List.foldl_map]
  have claim : 1 ≤ (bytes.getD 6 0).toNat ∧ (bytes.getD 6 0).toNat ≤ 6
      ↔ ¬ ((bytes.getD 6 0).toNat = 0 ∨ 6 < (bytes.getD 6 0).toNat) := by omega
  simp only [messageFault, total, check, ofBe_pair, claim, ite_not, Nat.add_assoc]

/-! ### The second a message belongs to (R29) -/

/-- A message that completes at the instant belongs to the current second. -/
def Reference.takesAt (x : Reference) (done : Nat) : Bool :=
  x.judging && match x.anchor with
    | some a => Decidable.decide (a.runClock + 100000000 ≤ done ∧ done ≤ a.runClock + 900000000)
    | none => false

section
variable {x : Reference} {m : Arrived}

theorem Reference.placeMessage_of_foreign (h : x.takesAt m.runClock = false) : x.placeMessage m = x := by
  rcases anchor : x.anchor with _ | a
  · rw [Reference.placeMessage, anchor]
  · rw [Reference.takesAt, anchor] at h
    rw [Reference.placeMessage, anchor]
    exact if_neg (Bool.eq_false_iff.1 h)

theorem Reference.placeMessage_of_own (h : x.takesAt m.runClock = true) : x.placeMessage m = { x with
    two := x.two || x.window.isSome
    window := if x.window.isSome then x.window else some ⟨messageInfo m.bytes, messageFault m.bytes⟩
    lastMessage :=
      if (messageFault m.bytes).isNone then some (messageInfo m.bytes) else x.lastMessage } := by
  rcases anchor : x.anchor with _ | a
  · rw [Reference.takesAt, anchor, Bool.and_false] at h
    exact absurd h (by decide)
  · rw [Reference.takesAt, anchor] at h
    rw [Reference.placeMessage, anchor]
    exact if_pos h

end

/-- Whichever form the message has, it is placed once (log 14). -/
theorem State.timeMessage_of_given {s : State} {r : RefId} {bytes : List Byte} {done : Nat}
    (sound : wellFormedMessage bytes = true)
    (given : (s.ref r).arrived = some ⟨bytes, done⟩ ∨ ((s.ref r).arrived = none ∧ done = s.tb.runClock)) :
    s.timeMessage r bytes
      = s.setRef r (({ s.ref r with arrived := none } : Reference).placeMessage ⟨bytes, done⟩) := by
  rcases given with held | ⟨none_held, rfl⟩
  · simp only [State.timeMessage, State.takeArrived, held, if_true, State.takeMessage, State.ref_setRef_same,
      State.setRef_setRef]
  · have own : ({ s.ref r with arrived := none } : Reference) = s.ref r := by rw [← none_held]
    simp only [State.timeMessage, none_held, State.wholeMessage, sound, if_true, State.takeMessage, own]

/-- Settles O11: the message is placed by its completion time and judged by its check and its claim class. -/
theorem messageIsPlacedInItsSecond : Obligations.MessageIsPlacedInItsSecond := by
  intro s r bytes done watch sound given x info sum fault belongs
  have whole : bytes.length = 12 := by
    have parts : wellFormedMessage bytes = true := sound
    simp only [wellFormedMessage, Bool.and_eq_true, beq_iff_eq] at parts
    exact parts.1.1
  have judged : messageFault bytes = fault := messageFault_eq whole
  have placed : belongs = ({ x with arrived := none } : Reference).takesAt done := rfl
  have run : exec (.timeMessage r bytes) s
      = .next (s.setRef r (({ x with arrived := none } : Reference).placeMessage ⟨bytes, done⟩)) :=
    congrArg Host.Outcome.next ((if_pos watch).trans (State.timeMessage_of_given sound given))
  refine ⟨_, run, fun foreign => ?_, fun own => ?_, s.ref_setRef_other _ _, rfl⟩
  · rw [State.ref_setRef_same]
    exact Reference.placeMessage_of_foreign (placed.symm.trans foreign)
  · rw [State.ref_setRef_same, Reference.placeMessage_of_own (placed.symm.trans own)]
    simp only [judged, Option.isNone_iff_eq_none]
    rfl

/-! ### The message receiver (R28) -/

theorem assemble_of_hunting (b : Byte) : assemble [] b = if b = 0xA7 then [b] else [] := rfl

theorem assemble_of_length {first : List Byte} (one : first.length = 1) : assemble first 12 = first ++ [12] := by
  obtain ⟨c, rfl⟩ := List.length_eq_one_iff.1 one
  rfl

/-- A second byte that is not the length is examined as a sync. -/
theorem assemble_of_other_length {first : List Byte} {b : Byte} (one : first.length = 1) (other : b ≠ 12) :
    assemble first b = if b = 0xA7 then [b] else [] := by
  obtain ⟨c, rfl⟩ := List.length_eq_one_iff.1 one
  exact if_neg other

theorem assemble_of_more {received : List Byte} {b : Byte} (more : 2 ≤ received.length) :
    assemble received b = received ++ [b] := by
  match received, more with
  | _ :: _ :: _, _ => rfl

section
variable {x : Reference} {now gap : Nat} {b : Byte} {bytes : List Byte}

/-- The partial message that a byte finds: none after a gap of more than 5 ms. -/
def Reference.keptBefore (x : Reference) (now gap : Nat) : List Byte :=
  if x.lastByteEnd + 5000000 + gap < now then [] else x.received

theorem Reference.receive_of_low_stop :
    x.receive now b false gap = { x with received := [], lastByteEnd := now } := rfl

theorem Reference.receive_of_high_stop (h : assemble (x.keptBefore now gap) b = bytes) :
    x.receive now b true gap =
      if bytes.length = 12 then
        { x with received := [], lastByteEnd := now, arrived := some ⟨bytes, now⟩ }
      else { x with received := bytes, lastByteEnd := now } := by
  by_cases late : x.lastByteEnd + 5000000 + gap < now
  · rw [Reference.keptBefore, if_pos late] at h
    simp only [Reference.receive, late, decide_true, if_true, h]
  · rw [Reference.keptBefore, if_neg late] at h
    simp only [Reference.receive, late, decide_false, Bool.false_eq_true, if_true, if_false, h]

theorem Reference.receive_of_part (h : assemble (x.keptBefore now gap) b = bytes) (part : bytes.length < 12) :
    x.receive now b true gap = { x with received := bytes, lastByteEnd := now } := by
  rw [Reference.receive_of_high_stop h, if_neg (Nat.ne_of_lt part)]

end

theorem sync_short (b : Byte) : (if b = 0xA7 then [b] else []).length < 12 := by
  split <;> simp

theorem State.receiver_assemblesMessage : Claims.ReceiverAssemblesMessage := by
  intro s r b stopHigh gap watch arrived x kept
  have run : exec (.messageByte r b stopHigh gap) s
      = .next (s.setRef r (x.receive s.tb.runClock b stopHigh gap)) := by
    refine congrArg Host.Outcome.next ((if_pos watch).trans ?_)
    simp only [State.messageByte, State.takeArrived_of_none arrived]
    rfl
  refine ⟨_, run, ?_, ?_, ?_, ?_, ?_, ?_, rfl⟩
  all_goals
    rw [State.ref_setRef_same]
    rintro rfl
  · exact Reference.receive_of_low_stop
  · intro none_kept
    exact Reference.receive_of_part ((congrArg (assemble · b) none_kept).trans (assemble_of_hunting b))
      (sync_short b)
  · rintro one rfl
    exact Reference.receive_of_part (assemble_of_length one) (by rw [List.length_append, one]; decide)
  · intro one other
    exact Reference.receive_of_part (assemble_of_other_length one other) (sync_short b)
  · intro more most
    exact Reference.receive_of_part (assemble_of_more more)
      (by rw [List.length_append, List.length_singleton]; omega)
  · intro eleven
    have more : 2 ≤ kept.length := by omega
    refine (Reference.receive_of_high_stop (assemble_of_more more)).trans (if_pos ?_)
    rw [List.length_append]
    exact congrArg (· + 1) eleven

theorem State.dropPartial_of_late {s : State} {r : RefId}
    (late : (s.ref r).lastByteEnd + 5000000 < s.tb.runClock) :
    s.dropPartial r = s.setRef r { s.ref r with received := [] } := by
  rcases held : (s.ref r).received with _ | ⟨c, rest⟩
  · have empty : ({ s.ref r with received := [] } : Reference) = s.ref r := by rw [← held]
    rw [empty, State.setRef_same]
    exact if_neg (by simp [State.byteGapDue, held])
  · exact if_pos (by simp [State.byteGapDue, held, late])

theorem State.dropPartial_of_early {s : State} {r : RefId}
    (early : s.tb.runClock ≤ (s.ref r).lastByteEnd + 5000000) : s.dropPartial r = s := by
  have undue : s.byteGapDue r = false :=
    Bool.and_eq_false_iff.2 (.inr (decide_eq_false (Nat.not_lt.2 early)))
  rw [State.dropPartial, undue]
  rfl

theorem State.partialMessage_timesOut : Claims.PartialMessageTimesOut := fun _ _ =>
  ⟨fun late => congrArg Host.Outcome.next (State.dropPartial_of_late late),
    fun early => congrArg Host.Outcome.next (State.dropPartial_of_early early)⟩

/-- Settles O12: what a byte makes of the partial message, by the bytes it holds, and when that is dropped. -/
theorem receiverAssemblesOrDropsMessage : Obligations.ReceiverAssemblesOrDropsMessage :=
  ⟨State.receiver_assemblesMessage, State.partialMessage_timesOut⟩

end Sys2Proof.Machine
end

section
/-! The comparison of the two references: pairs of marks, marks without a partner, and the disagreement flag
(R39, R41, R42): O13. -/

namespace Sys2Proof.Machine

/-! ### The judgement of a pair, case by case (R42) -/

section
variable {s : State} {agrees naming : Bool}

theorem State.judgePair_of_agreement (clear : s.sel.disagree = false) :
    s.judgePair true naming = s.withSel { s.sel with disagreeCount := 0 } := by
  rw [State.judgePair, clear]
  rfl

/-- A disagreement that is counted: no naming disagreement, and not the third in a row. -/
theorem State.judgePair_of_counted (clear : s.sel.disagree = false) (few : s.sel.disagreeCount ≠ 2) :
    s.judgePair false false = s.withSel { s.sel with disagreeCount := s.sel.disagreeCount + 1 } := by
  have more : (s.sel.disagreeCount + 1 == 3) = false := beq_false_of_ne (by omega)
  rw [State.judgePair, clear, Bool.false_or, more]
  rfl

/-- A disagreement that sets the flag: a naming one, or the third in a row. -/
theorem State.judgePair_of_setting (clear : s.sel.disagree = false)
    (h : naming = true ∨ s.sel.disagreeCount = 2) : s.judgePair false naming = s.moveDisagree true := by
  have sets : (naming || s.sel.disagreeCount + 1 == 3) = true := by
    rcases h with rfl | two
    · rfl
    · rw [two]
      exact Bool.or_true naming
  rw [State.judgePair, clear, sets]
  rfl

theorem State.judgePair_of_recovering (flagged : s.sel.disagree = true) (few : s.sel.agreeCount ≠ 9) :
    s.judgePair true naming = s.withSel { s.sel with agreeCount := s.sel.agreeCount + 1 } := by
  rw [State.judgePair, if_pos flagged, if_pos rfl, if_neg (by omega)]

theorem State.judgePair_of_relapse (flagged : s.sel.disagree = true) :
    s.judgePair false naming = s.withSel { s.sel with agreeCount := 0 } := by
  rw [State.judgePair, flagged]
  rfl

/-- The tenth agreement in a row clears the flag, and the selection is evaluated (R39). -/
theorem State.judgePair_of_clearing (flagged : s.sel.disagree = true) (nine : s.sel.agreeCount = 9) :
    s.judgePair true naming = (s.moveDisagree false).evaluateSelection := by
  rw [State.judgePair, if_pos flagged, if_pos rfl, if_pos (by omega)]

end

/-! ### The flag moved after a change of the selection's own counts -/

section
variable (s : State) (x : Selection)

theorem State.withSel_moveDisagree_tells (flag : Bool) : s.Tells ((s.withSel x).moveDisagree flag)
    [s.ownRecord .disagree (BitVec.ofNat 16 flag.toNat)] [.ref] :=
  ((s.withSel x).moveDisagree_tells flag).after_silence rfl rfl

/-- The flag set: the selection, the record and the notice, and nothing else (R42). -/
theorem State.withSel_moveDisagree_sets : (s.withSel x).moveDisagree true = { s with
      sel := { x with disagree := true, disagreeCount := 0, agreeCount := 0 }
      ring := ((s.withSel x).moveDisagree true).ring
      ports := s.latched ((s.withSel x).moveDisagree true) }
    ∧ ((s.withSel x).moveDisagree true).noticed .ref
    ∧ (s.ring.started = true →
        ((s.withSel x).moveDisagree true).ring.holds s.ring.next (s.ownRecord .disagree 1)) := by
  have told := s.withSel_moveDisagree_tells x true
  refine ⟨?_, told.noticed (by simp) (by decide), fun on => told.holds_first on (by simp)⟩
  rw [← told.ports]
  obtain ⟨g, p, e⟩ := (s.withSel x).moveDisagree_frame true
  rw [e]
  rfl

/-- The flag cleared after a pair, and the selection evaluated without it (R39, R42). -/
theorem State.withSel_moveDisagree_clears (d : Int) :
    let paired : Selection := { s.sel with unpaired := none, lastDifference := d }
    let t := ((s.withSel paired).moveDisagree false).evaluateSelection
    t.sel = { paired with
        disagree := false, disagreeCount := 0, agreeCount := 0, lost := t.sel.lost
        selected := ({ s with sel := { s.sel with disagree := false } } : State).choice }
      ∧ t.noticed .ref
      ∧ (s.ring.started = true → t.ring.holds s.ring.next (s.ownRecord .disagree 0))
      ∧ t = { s with tb := t.tb, sel := t.sel, ring := t.ring, ports := s.latched t } := by
  intro paired t
  obtain ⟨g, p, e⟩ := (s.withSel paired).moveDisagree_frame false
  have choice : ((s.withSel paired).moveDisagree false).choice
      = ({ s with sel := { s.sel with disagree := false } } : State).choice := by
    rw [e]
    rfl
  have told := (s.withSel_moveDisagree_tells paired false).trans
    ((s.withSel paired).moveDisagree false).evaluateSelection_tells
  refine ⟨?_, told.noticed (by simp) (by decide), fun on => told.holds_first on ?_, ?_⟩
  · have selects := ((s.withSel paired).moveDisagree false).evaluateSelection_sel
    rw [choice, (State.Disturbs.moveDisagree (s.withSel paired) false).2.2] at selects
    exact selects
  · split <;> simp
  · obtain ⟨tb, y, r, q, moves⟩ := ((s.withSel paired).moveDisagree false).evaluateSelection_moves
    have whole : t = { s with tb := tb, sel := y, ring := r, ports := q } := by
      refine moves.trans ?_
      rw [e]
      rfl
    rw [← told.ports]
    change t = { s with tb := t.tb, sel := t.sel, ring := t.ring, ports := t.ports }
    rw [whole]

end

/-! ### A pair (R41) -/

theorem pairDifference_eq (o m : Mark) :
    pairDifference o m = if o.ref = .ref1 then (m.runClock : Int) - o.runClock
      else (o.runClock : Int) - m.runClock := by
  unfold pairDifference
  rcases o.ref with _ | _ <;> rfl

/-- A mark whose partner waits within 500 ms of it is judged with it. -/
theorem State.comparePulse_of_partner {s : State} {o m : Mark} (one : (s.ref .ref1).state = .qualified)
    (two : (s.ref .ref2).state = .qualified) (waits : s.sel.unpaired = some o) (other : o.ref ≠ m.ref)
    (near : s.tb.runClock ≤ o.runClock + 500000000) : s.comparePulse m = s.pairUp o m := by
  have fresh : s.markExpired o = false := decide_eq_false (Nat.not_lt.2 near)
  have both : ((s.ref .ref1).qualified && (s.ref .ref2).qualified) = true :=
    Bool.and_eq_true_iff.2 ⟨decide_eq_true one, decide_eq_true two⟩
  rw [State.comparePulse, if_pos both, waits]
  exact if_pos ⟨other, fresh⟩

theorem State.pair_isJudged : Claims.PairOfMarksIsJudged := by
  intro s o m one two waits other inTime d near agrees paired t
  have judged : t = (s.withSel paired).judgePair
      (!Decidable.decide (o.second ≠ m.second) && Decidable.decide near)
      (Decidable.decide (o.second ≠ m.second)) := by
    refine (State.comparePulse_of_partner one two waits other inTime).trans ?_
    unfold State.pairUp
    rw [pairDifference_eq]
  have agreeing (h : agrees) : t = (s.withSel paired).judgePair true false := by
    rw [judged, decide_eq_true h.2, decide_eq_false (not_not.2 h.1)]
    rfl
  have naming (h : o.second ≠ m.second) : t = (s.withSel paired).judgePair false true := by
    rw [judged, decide_eq_true h]
    rfl
  have far (h : o.second = m.second) (g : ¬ near) : t = (s.withSel paired).judgePair false false := by
    rw [judged, decide_eq_false g, decide_eq_false (not_not.2 h)]
    rfl
  have differing (h : ¬ agrees) : ∃ n, t = (s.withSel paired).judgePair false n := by
    by_cases same : o.second = m.second
    · exact ⟨false, far same fun close => h ⟨same, close⟩⟩
    · exact ⟨true, naming same⟩
  refine ⟨fun clear agree => ?_, fun clear same apart few => ?_, fun clear sets => ?_,
    fun flagged agree few => ?_, fun flagged differ => ?_, fun flagged agree nine => ?_⟩
  · exact (agreeing agree).trans (State.judgePair_of_agreement (s := s.withSel paired) clear)
  · exact (far same apart).trans
      (State.judgePair_of_counted (s := s.withSel paired) clear (Nat.ne_of_lt few))
  · have setting : t = (s.withSel paired).moveDisagree true := by
      by_cases same : o.second = m.second
      · rcases sets with name | ⟨apart, two⟩
        · exact absurd same name
        · exact (far same apart).trans (State.judgePair_of_setting (s := s.withSel paired) clear (.inr two))
      · exact (naming same).trans (State.judgePair_of_setting (s := s.withSel paired) clear (.inl rfl))
    obtain ⟨whole, noticed, held⟩ := s.withSel_moveDisagree_sets paired
    rw [setting]
    have sel := congrArg State.sel whole
    refine ⟨sel, noticed, held, ?_⟩
    rw [sel]
    exact whole
  · exact (agreeing agree).trans (State.judgePair_of_recovering (s := s.withSel paired) flagged few)
  · obtain ⟨n, run⟩ := differing differ
    exact run.trans (State.judgePair_of_relapse (s := s.withSel paired) flagged)
  · obtain ⟨sel, noticed, held, whole⟩ := s.withSel_moveDisagree_clears d
    have clearing := State.judgePair_of_clearing (s := s.withSel paired) (naming := false) flagged nine
    rw [agreeing agree, clearing]
    exact ⟨congrArg Selection.disagree sel, congrArg Selection.disagreeCount sel,
      congrArg Selection.agreeCount sel, congrArg Selection.unpaired sel,
      congrArg Selection.lastDifference sel, congrArg Selection.selected sel, noticed, held, whole⟩

/-! ### A mark without a partner (R41) -/

theorem State.expireUnpaired_of_due {s : State} {m : Mark} (waits : s.sel.unpaired = some m)
    (late : m.runClock + 500000000 < s.tb.runClock) : s.expireUnpaired = s.dropUnpaired := by
  refine if_pos ?_
  rw [State.unpairedDue, waits]
  exact decide_eq_true late

theorem State.expireUnpaired_of_early {s : State}
    (early : ∀ m, s.sel.unpaired = some m → s.tb.runClock ≤ m.runClock + 500000000) :
    s.expireUnpaired = s := by
  have undue : s.unpairedDue = false := by
    rcases waits : s.sel.unpaired with _ | m
    · rw [State.unpairedDue, waits]
    · rw [State.unpairedDue, waits]
      exact decide_eq_false (Nat.not_lt.2 (early m waits))
  rw [State.expireUnpaired, undue]
  rfl

theorem State.unpairedMark_countsAsDisagreement : Claims.UnpairedMarkCountsAsDisagreement := by
  refine ⟨fun s m waits late => ?_, fun s early =>
    congrArg Host.Outcome.next (State.expireUnpaired_of_early early)⟩
  have run : exec .unpairedMarkTimeout s = .next s.dropUnpaired :=
    congrArg Host.Outcome.next (State.expireUnpaired_of_due waits late)
  refine ⟨_, run, fun flagged => ?_, fun clear few => ?_, fun clear two => ?_⟩
  · exact State.judgePair_of_relapse (s := s.withSel _) flagged
  · exact State.judgePair_of_counted (s := s.withSel _) clear few
  · have setting : s.dropUnpaired = (s.withSel { s.sel with unpaired := none }).moveDisagree true :=
      State.judgePair_of_setting (s := s.withSel _) clear (.inr two)
    rw [setting]
    exact s.withSel_moveDisagree_sets _

/-- Settles O13: pairs of marks and marks without a partner, through one judgement. -/
theorem marksAreJudgedInPairsOrAlone : Obligations.MarksAreJudgedInPairsOrAlone :=
  ⟨State.pair_isJudged, State.unpairedMark_countsAsDisagreement⟩

end Sys2Proof.Machine
end

section
/-! The Distribution Driver between two boundaries: the echo check (R56, R57), the release of the strobe (R49) and
the clocking of the word (R51): O17, O16. -/

namespace Sys2Proof.Machine

/-! ### The echo check (R56, R57) -/

section
variable {s : State} {correct : Bool}

theorem State.checkEcho_of_due (pending : s.dist.echoPending = true)
    (reached : s.dist.lead + s.dist.width / 2 ≤ s.tb.runClock) :
    s.checkEcho correct = (s.withDist { s.dist with echoPending := false }).judgeEcho correct :=
  if_pos (decide_eq_true ⟨pending, reached⟩)

theorem State.judgeEcho_of_sound (clear : s.dist.fault = false) : s.judgeEcho true = s := by
  rw [State.judgeEcho, clear]
  rfl

theorem State.judgeEcho_of_failing (clear : s.dist.fault = false) :
    s.judgeEcho false
      = ((s.withDist { s.dist with fault := true, correct := 0 }).note .distFault 1).raiseAll .dist := by
  rw [State.judgeEcho, clear]
  rfl

theorem State.judgeEcho_of_relapse (latched : s.dist.fault = true) :
    s.judgeEcho false = s.withDist { s.dist with correct := 0 } := by
  rw [State.judgeEcho, if_pos latched]
  rfl

theorem State.judgeEcho_of_recovering (latched : s.dist.fault = true) (few : s.dist.correct ≠ 9) :
    s.judgeEcho true = s.withDist { s.dist with correct := s.dist.correct + 1 } := by
  rw [State.judgeEcho, if_pos latched, if_pos rfl, if_neg (by omega)]

/-- The tenth correct reading in a row clears the latch. -/
theorem State.judgeEcho_of_tenth (latched : s.dist.fault = true) (nine : s.dist.correct = 9) :
    s.judgeEcho true
      = ((s.withDist { s.dist with fault := false, correct := 0 }).note .distFault 0).raiseAll .dist := by
  rw [State.judgeEcho, if_pos latched, if_pos rfl, if_pos (by omega)]

end

/-- A move of the fault latch: the Driver, its record and its notice, and nothing else (R57). -/
theorem State.faultLatch_isRecorded (s : State) (d : Distribution) (datum : BitVec 16)
    (on : s.ring.started = true) :
    let t := ((s.withDist d).note .distFault datum).raiseAll .dist
    t = { s with dist := d, ring := t.ring, ports := s.latched t }
      ∧ t.noticed .dist ∧ t.ring.holds s.ring.next (s.ownRecord .distFault datum) := by
  intro t
  have told : s.Tells t [s.ownRecord .distFault datum] [.dist] :=
    ((State.note_tells _ _ _).trans (State.raiseAll_tells _ _)).after_silence rfl rfl
  refine ⟨?_, told.noticed (by simp) (by decide), told.holds_first on (by simp)⟩
  obtain ⟨r, p, e⟩ := (s.withDist d).note_frame .distFault datum
  have ring : t.ring = r := congrArg State.ring e
  rw [← told.ports, ring]
  exact congrArg (fun u : State => { u with ports := t.ports }) e

/-- Settles O17: the reading is judged by the latch, in the state where the pin's level has been kept and the
check is done. -/
theorem echoCheckDrivesFaultLatch : Obligations.EchoCheckDrivesFaultLatch := by
  intro s correct pending reached on done
  have run : exec (.echoCheck correct) s = .next ((s.withDist done).judgeEcho correct) :=
    congrArg Host.Outcome.next
      (State.checkEcho_of_due (s := s.setReadsBack correct) pending reached)
  refine ⟨_, run, ?_, ?_, ?_, ?_, ?_⟩
  · rintro clear rfl
    exact State.judgeEcho_of_sound (s := s.withDist done) clear
  · rintro latched rfl
    exact State.judgeEcho_of_relapse (s := s.withDist done) latched
  · rintro latched rfl few
    exact State.judgeEcho_of_recovering (s := s.withDist done) latched few
  · rintro clear rfl
    rw [State.judgeEcho_of_failing (s := s.withDist done) clear]
    exact s.faultLatch_isRecorded { done with fault := true, correct := 0 } 1 on
  · rintro latched rfl nine
    rw [State.judgeEcho_of_tenth (s := s.withDist done) latched nine]
    exact s.faultLatch_isRecorded { done with fault := false, correct := 0 } 0 on

/-! ### The release of the strobe (R49) -/

section
variable {s : State}

theorem State.releaseStrobe_of_due (asserted : s.dist.asserted = true)
    (reached : s.dist.lead + s.dist.width ≤ s.tb.runClock) :
    s.releaseStrobe = s.withDist { s.dist with asserted := false } :=
  if_pos (decide_eq_true ⟨asserted, reached⟩)

theorem State.releaseStrobe_of_early (early : s.tb.runClock < s.dist.lead + s.dist.width) :
    s.releaseStrobe = s :=
  if_neg fun due => absurd (of_decide_eq_true due).2 (Nat.not_le_of_lt early)

theorem State.strobe_releasesAtItsWidth : Claims.StrobeReleasesAtItsWidth := fun _ =>
  ⟨fun asserted reached => congrArg Host.Outcome.next (State.releaseStrobe_of_due asserted reached),
    fun early => congrArg Host.Outcome.next (State.releaseStrobe_of_early early)⟩

/-! ### The clocking of the word (R51) -/

/-- An even change drives the next bit and lets DCLK fall. -/
theorem Distribution.change_of_even {d : Distribution} {w : TimeWord} (loaded : d.word = some w)
    (even : d.changes % 2 = 0) :
    d.change = { d with
      wordState := .sending, bit := d.changes / 2, ddata := w.bitAt (d.changes / 2), dclk := false
      changes := d.changes + 1 } := by
  rw [Distribution.change, if_pos even, loaded]

/-- An odd change lets DCLK rise in the middle of the bit. -/
theorem Distribution.change_of_odd {d : Distribution} (odd : d.changes % 2 = 1) :
    d.change = { d with dclk := true, changes := d.changes + 1 } :=
  if_neg (by omega)

theorem State.clockWord_of_due (busy : s.dist.wordState ≠ .idle) (more : s.dist.changes < 96)
    (reached : s.dist.changeAt s.dist.changes ≤ s.tb.runClock) :
    s.clockWord = s.withDist s.dist.change :=
  if_pos (decide_eq_true ⟨busy, more, reached⟩)

theorem State.clockWord_of_idle (idle : s.dist.wordState = .idle) : s.clockWord = s :=
  if_neg fun due => (of_decide_eq_true due).1 idle

theorem State.endWord_of_due (busy : s.dist.wordState ≠ .idle)
    (reached : s.dist.wordEnds ≤ s.tb.runClock) : s.endWord = s.withDist s.dist.endWord :=
  if_pos (decide_eq_true ⟨busy, reached⟩)

theorem State.endWord_of_idle (idle : s.dist.wordState = .idle) : s.endWord = s :=
  if_neg fun due => (of_decide_eq_true due).1 idle

end

theorem State.word_isClockedFromItsLeadingEdge : Claims.WordIsClockedFromItsLeadingEdge := by
  refine ⟨fun s w busy loaded more reached => ?_, fun s busy reached => ?_, fun s idle => ⟨?_, ?_⟩⟩
  · exact ⟨_, congrArg Host.Outcome.next (State.clockWord_of_due busy more reached), rfl,
      Distribution.change_of_even loaded, Distribution.change_of_odd⟩
  · exact congrArg Host.Outcome.next (State.endWord_of_due busy reached)
  · exact congrArg Host.Outcome.next (State.endWord_of_idle idle)
  · exact congrArg Host.Outcome.next (State.clockWord_of_idle idle)

/-- Settles O16: release, changes and end of the word, each at its run-clock value from the leading edge. -/
theorem strobeAndWordRunFromLeadingEdge : Obligations.StrobeAndWordRunFromLeadingEdge :=
  ⟨State.strobe_releasesAtItsWidth, State.word_isClockedFromItsLeadingEdge⟩

end Sys2Proof.Machine
end

section
/-! The trip file's list of operates, its first-out, and what the table makes of the changes handed to it (R67,
R113, R118 to R121): O32. -/

namespace Sys2Proof.Machine

/-! ### The order of the list (R118, R119) -/

/-- An entry begun earlier, or as early on a line with no higher number (R119). -/
def Operate.UpTo (a b : Operate) : Prop :=
  a.runClock < b.runClock ∨ (a.runClock = b.runClock ∧ a.line ≤ b.line)

theorem Operate.before_iff (a b : Operate) : a.before b = true ↔ ¬ b.UpTo a := by
  rw [Operate.before, decide_eq_true_iff, Operate.UpTo, Fin.lt_def, Fin.le_def]
  omega

theorem Operate.UpTo.trans {a b c : Operate} (h : a.UpTo b) (g : b.UpTo c) : a.UpTo c := by
  unfold Operate.UpTo at *
  simp only [Fin.le_def] at *
  omega

theorem Operate.UpTo.total (a b : Operate) : a.UpTo b ∨ b.UpTo a := by
  unfold Operate.UpTo
  simp only [Fin.le_def]
  omega

theorem Operate.UpTo.runClock_le {a b : Operate} (h : a.UpTo b) : a.runClock ≤ b.runClock := by
  unfold Operate.UpTo at h
  omega

/-- In a list that stands in order an entry's place is after all that come up to it. -/
theorem insertOperate_splits {xs : List Operate} (sorted : xs.Pairwise Operate.UpTo) (e : Operate) :
    ∃ before after, xs = before ++ after ∧ (∀ x ∈ before, x.UpTo e) ∧ (∀ x ∈ after, ¬ x.UpTo e)
      ∧ insertOperate e xs = before ++ e :: after := by
  induction xs with
  | nil => exact ⟨[], [], rfl, by simp, by simp, rfl⟩
  | cons x rest ih =>
    obtain ⟨first, sorted⟩ := List.pairwise_cons.1 sorted
    by_cases place : e.before x = true
    · have later := (e.before_iff x).1 place
      refine ⟨[], x :: rest, rfl, by simp, fun y hy up => ?_, by simp [insertOperate, place]⟩
      rcases List.mem_cons.1 hy with rfl | hy
      · exact later up
      · exact later ((first y hy).trans up)
    · have up : x.UpTo e := not_not.1 ((e.before_iff x).not.1 place)
      obtain ⟨before, after, split, low, high, whole⟩ := ih sorted
      refine ⟨x :: before, after, by rw [split]; rfl, fun y hy => ?_, high, by
        simp [insertOperate, place, whole]⟩
      rcases List.mem_cons.1 hy with rfl | hy
      · exact up
      · exact low y hy

theorem insertOperate_length (e : Operate) (xs : List Operate) :
    (insertOperate e xs).length = xs.length + 1 := by
  induction xs with
  | nil => rfl
  | cons x rest ih =>
    unfold insertOperate
    split
    · rfl
    · rw [List.length_cons, ih, List.length_cons]

/-- An entry that began after all others stands last. -/
theorem insertOperate_last {e : Operate} {xs : List Operate} (h : ∀ x ∈ xs, x.runClock < e.runClock) :
    insertOperate e xs = xs ++ [e] := by
  induction xs with
  | nil => rfl
  | cons x rest ih =>
    have later : ¬ e.before x = true := by
      rw [e.before_iff, not_not]
      exact .inl (h x List.mem_cons_self)
    rw [insertOperate, if_neg later, ih fun y hy => h y (List.mem_cons_of_mem _ hy)]
    rfl

/-- An entry that began before all others stands first. -/
theorem insertOperate_first {e : Operate} {xs : List Operate} (h : ∀ x ∈ xs, e.runClock < x.runClock) :
    insertOperate e xs = e :: xs := by
  cases xs with
  | nil => rfl
  | cons x rest =>
    have earlier : e.before x = true := by
      rw [Operate.before, decide_eq_true_iff]
      exact .inl (h x List.mem_cons_self)
    rw [insertOperate, if_pos earlier]

theorem insertOperate_sorted {xs : List Operate} (sorted : xs.Pairwise Operate.UpTo) (e : Operate) :
    (insertOperate e xs).Pairwise Operate.UpTo := by
  obtain ⟨before, after, split, low, high, whole⟩ := insertOperate_splits sorted e
  rw [split, List.pairwise_append] at sorted
  obtain ⟨front, back, across⟩ := sorted
  rw [whole, List.pairwise_append, List.pairwise_cons]
  refine ⟨front, ⟨fun y hy => (Operate.UpTo.total e y).resolve_right (high y hy), back⟩, fun x hx y hy => ?_⟩
  rcases List.mem_cons.1 hy with rfl | hy
  · exact low x hx
  · exact across x hx y hy

/-! ### The list of the 16 earliest (R119) -/

theorem TripFile.list_operates (f : TripFile) (e : Operate) :
    (f.list e).operates = (insertOperate e f.operates).take 16 := by
  rw [TripFile.list, show Config.listSize = 16 from rfl]
  split
  · rename_i room
    exact (List.take_of_length_le room).symm
  · rfl

theorem TripFile.list_overflow (f : TripFile) (e : Operate) :
    (f.list e).overflow = if f.operates.length < 16 then f.overflow else min 65535 (f.overflow + 1) := by
  rw [TripFile.list, insertOperate_length, show Config.listSize = 16 from rfl]
  by_cases room : f.operates.length < 16
  · rw [if_pos (by omega), if_pos room]
  · rw [if_neg (by omega), if_neg room]
    rfl

/-! ### The first-out (R120) -/

theorem lowestLine_cons_cons (x y : LineId) (ys : List LineId) :
    lowestLine (x :: y :: ys) = lowestLine (min x y :: ys) := by
  have first : (if y < x then some y else some x) = some (min x y) := by
    split
    · rename_i lower
      rw [min_eq_right lower.le]
    · rename_i lower
      rw [min_eq_left (not_lt.1 lower)]
  unfold lowestLine
  rw [List.foldl_cons, List.foldl_cons, List.foldl_cons, ← first]

theorem lowestLine_eq_min? (xs : List LineId) : lowestLine xs = xs.min? := by
  cases xs with
  | nil => rfl
  | cons x ys =>
    rw [List.min?_cons']
    induction ys generalizing x with
    | nil => rfl
    | cons y ys ih => rw [lowestLine_cons_cons, ih, List.foldl_cons]

/-- The TRIP_CAUSE lines at the earliest place are those of the scanned entries that share the list's lowest
run clock. -/
theorem TripFile.mem_firstCauses_iff {f : TripFile} (sorted : f.operates.Pairwise Operate.UpTo) (l : LineId) :
    l ∈ f.firstCauses ↔ ∃ x, (x ∈ f.operates ∧ x.scanned = true
      ∧ ∀ y ∈ f.operates, x.runClock ≤ y.runClock) ∧ x.line = l := by
  unfold TripFile.firstCauses
  cases all : f.operates with
  | nil => simp
  | cons first rest =>
    rw [all] at sorted
    obtain ⟨lowest, -⟩ := List.pairwise_cons.1 sorted
    have low : ∀ y ∈ first :: rest, first.runClock ≤ y.runClock := fun y hy => by
      rcases List.mem_cons.1 hy with rfl | hy
      · exact le_rfl
      · exact (lowest y hy).runClock_le
    simp only [List.mem_map, List.mem_filter, Bool.and_eq_true, decide_eq_true_eq]
    refine exists_congr fun x => and_congr_left fun _ => ?_
    constructor
    · rintro ⟨mem, same, scanned⟩
      exact ⟨mem, scanned, fun y hy => same ▸ low y hy⟩
    · rintro ⟨mem, scanned, least⟩
      exact ⟨mem, le_antisymm (least first List.mem_cons_self) (low x mem), scanned⟩

/-! ### An operate offered (R118) -/

/-- The entry that a change becomes in a file's list (R118). -/
def TripFile.entry (f : TripFile) (c : Change) : Operate :=
  ⟨c.line, f.offsetOf c.stamp.runClock, LineId.scanned c.line, c.stamp.runClock⟩

theorem TripFile.offer_of_early {f : TripFile} {c : Change}
    (h : c.stamp.runClock + f.lookback * 1000000 < f.runClock) : f.offer c = f :=
  if_neg fun admits => by
    rw [TripFile.admits, decide_eq_true_iff] at admits
    omega

theorem TripFile.offer_of_admitted {f : TripFile} {c : Change}
    (h : f.runClock ≤ c.stamp.runClock + f.lookback * 1000000) :
    f.offer c = (f.list (f.entry c)).findFirstOut :=
  if_pos (decide_eq_true h)

theorem TripFile.offer_operates {f : TripFile} {c : Change}
    (h : f.runClock ≤ c.stamp.runClock + f.lookback * 1000000) :
    (f.offer c).operates = (insertOperate (f.entry c) f.operates).take 16 := by
  rw [TripFile.offer_of_admitted h]
  exact f.list_operates _

theorem TripFile.offer_overflow {f : TripFile} {c : Change}
    (h : f.runClock ≤ c.stamp.runClock + f.lookback * 1000000) :
    (f.offer c).overflow = if f.operates.length < 16 then f.overflow else min 65535 (f.overflow + 1) := by
  rw [TripFile.offer_of_admitted h]
  exact f.list_overflow _

theorem TripFile.offer_firstOut {f : TripFile} {c : Change}
    (h : f.runClock ≤ c.stamp.runClock + f.lookback * 1000000) :
    (f.offer c).firstOut = lowestLine (f.offer c).firstCauses := by
  rw [TripFile.offer_of_admitted h]
  rfl

/-- The ambiguous flag says that the lines at the earliest place are not all one (R120). -/
theorem TripFile.offer_ambiguous_iff {f : TripFile} {c : Change}
    (h : f.runClock ≤ c.stamp.runClock + f.lookback * 1000000) :
    (f.offer c).ambiguous = true
      ↔ ∃ l ∈ (f.offer c).firstCauses, ∃ k ∈ (f.offer c).firstCauses, l ≠ k := by
  have flag : (f.offer c).ambiguous = (f.offer c).firstCauses.any fun l =>
      decide (some l ≠ lowestLine (f.offer c).firstCauses) := by
    rw [TripFile.offer_of_admitted h]
    rfl
  rw [flag, List.any_eq_true]
  generalize (f.offer c).firstCauses = xs
  simp only [decide_eq_true_eq]
  constructor
  · rintro ⟨l, mem, other⟩
    by_contra one
    push Not at one
    rw [lowestLine_eq_min?] at other
    exact other (List.min?_eq_some_iff.2 ⟨mem, fun k hk => (one l mem k hk).le⟩).symm
  · rintro ⟨l, hl, k, hk, differ⟩
    by_contra one
    push Not at one
    exact differ (Option.some.inj ((one l hl).trans (one k hk).symm))

theorem TripFile.offer_sorted {f : TripFile} {c : Change}
    (h : f.runClock ≤ c.stamp.runClock + f.lookback * 1000000) (sorted : f.operates.Pairwise Operate.UpTo) :
    (f.offer c).operates.Pairwise Operate.UpTo := by
  rw [TripFile.offer_operates h]
  exact (insertOperate_sorted sorted _).sublist (List.take_sublist _ _)

/-- An operate begun before every entry is the first-out alone. -/
theorem TripFile.offer_firstCauses_of_first {f : TripFile} {c : Change} (scanned : LineId.scanned c.line = true)
    (h : f.runClock ≤ c.stamp.runClock + f.lookback * 1000000)
    (earliest : ∀ x ∈ f.operates, c.stamp.runClock < x.runClock) : (f.offer c).firstCauses = [c.line] := by
  have place : (f.offer c).operates = f.entry c :: f.operates.take 15 := by
    rw [TripFile.offer_operates h, insertOperate_first earliest]
    rfl
  have others : (f.operates.take 15).filter
      (fun e => decide (e.runClock = (f.entry c).runClock) && e.scanned) = [] := by
    rw [List.filter_eq_nil_iff]
    intro x hx same
    rw [Bool.and_eq_true, decide_eq_true_eq] at same
    exact (earliest x (List.mem_of_mem_take hx)).ne' same.1
  have own : (decide ((f.entry c).runClock = (f.entry c).runClock) && (f.entry c).scanned) = true := by
    rw [decide_eq_true rfl, Bool.true_and]
    exact scanned
  rw [TripFile.firstCauses, place]
  dsimp only
  rw [List.filter_cons, if_pos own, others]
  rfl

theorem TripFile.operate_takesItsPlace : Claims.OperateTakesItsPlace := by
  intro f c scanned e
  have entry : f.entry c = e := by rw [TripFile.entry, scanned]; rfl
  refine ⟨TripFile.offer_of_early, fun admitted room later => ?_, fun admitted earlier => ?_,
    fun admitted full later => ?_⟩
  · rw [TripFile.offer_operates admitted, TripFile.offer_overflow admitted, if_pos room, entry,
      insertOperate_last later]
    exact ⟨List.take_of_length_le (by rw [List.length_append, List.length_singleton]; omega), rfl⟩
  · have causes := TripFile.offer_firstCauses_of_first scanned admitted earlier
    refine ⟨?_, TripFile.offer_overflow admitted, ?_, ?_⟩
    · rw [TripFile.offer_operates admitted, entry, insertOperate_first earlier]
    · rw [TripFile.offer_firstOut admitted, causes]
      rfl
    · rw [Bool.eq_false_iff, Ne, TripFile.offer_ambiguous_iff admitted, causes]
      simp
  · rw [TripFile.offer_operates admitted, TripFile.offer_overflow admitted, if_neg (by omega), entry,
      insertOperate_last later]
    exact ⟨List.take_left' full, rfl⟩

theorem TripFile.tiedOperates_keepLineOrder : Claims.TiedOperatesKeepLineOrder := by
  intro f c admitted _ upTo sorted e
  obtain ⟨before, after, split, low, high, whole⟩ := insertOperate_splits sorted (f.entry c)
  exact ⟨before, after, split, low, high, (TripFile.offer_operates admitted).trans (congrArg _ whole),
    TripFile.offer_overflow admitted⟩

theorem TripFile.firstOut_isLowestCause : Claims.FirstOutIsLowestCauseAtEarliestPlace := by
  intro f c admitted _ sorted g earliest
  have causes (l : LineId) : l ∈ g.firstCauses ↔ ∃ x, earliest x ∧ x.line = l :=
    TripFile.mem_firstCauses_iff (TripFile.offer_sorted admitted sorted) l
  refine ⟨fun l => ?_, ?_⟩
  · rw [show g.firstOut = _ from TripFile.offer_firstOut admitted, lowestLine_eq_min?, List.min?_eq_some_iff, causes]
    refine and_congr_right fun _ => ⟨fun low x hx => low _ ((causes _).2 ⟨x, hx, rfl⟩), fun low k hk => ?_⟩
    obtain ⟨x, hx, rfl⟩ := (causes k).1 hk
    exact low x hx
  · rw [show g.ambiguous = true ↔ _ from TripFile.offer_ambiguous_iff admitted]
    constructor
    · rintro ⟨l, hl, k, hk, differ⟩
      obtain ⟨x, hx, rfl⟩ := (causes l).1 hl
      obtain ⟨y, hy, rfl⟩ := (causes k).1 hk
      exact ⟨x, y, hx, hy, differ⟩
    · rintro ⟨x, y, hx, hy, differ⟩
      exact ⟨x.line, (causes _).2 ⟨x, hx, rfl⟩, y.line, (causes _).2 ⟨y, hy, rfl⟩, differ⟩

/-! ### What the table makes of a change (R67, R113, R118, R121) -/

section
variable {s : State} {u : UnitId} {i : SlotId} {f : TripFile} {c : Change}

theorem State.modFile_of_file (file : s.file i = some f) (g : TripFile → TripFile) :
    s.modFile i g = s.setSlot i (some (g f)) := by
  rw [State.modFile, file]
  rfl

theorem State.setSlot_file (file : s.file i = some f) : s.setSlot i (some f) = s := by
  have kept : s.trips.slots.set i (some f) = s.trips.slots := file ▸ Table.set_get _ i
  rw [State.setSlot, kept]

/-- An operate of a TRIP_CAUSE line, and a repeat of the MASTER_TRIP line, is offered to the OPEN file. -/
theorem State.tripsTake_operate {r : Role} (role : r = .tripCause ∨ r = .masterTrip) (operate : c.operate = true)
    (slot : s.openSlot (LineId.unit c.line) = some i) (file : s.file i = some f) :
    s.tripsTake r c = s.setSlot i (some (f.offer c)) := by
  rw [← State.modFile_of_file file fun g => g.offer c]
  simp only [State.tripsTake, operate, slot]
  rcases role with rfl | rfl <;> rfl

theorem State.tripsTake_release (operate : c.operate = false)
    (slot : s.openSlot (LineId.unit c.line) = some i) (file : s.file i = some f) :
    s.tripsTake .breaker c = s.setSlot i (some (f.noteRelease c.stamp.runClock)) := by
  rw [← State.modFile_of_file file fun g => g.noteRelease c.stamp.runClock]
  simp only [State.tripsTake, operate, slot]

/-- Without an OPEN file only a MASTER_TRIP operate concerns the table. -/
theorem State.tripsTake_of_noFile {r : Role} (role : r ≠ .masterTrip)
    (slot : s.openSlot (LineId.unit c.line) = none) : s.tripsTake r c = s := by
  simp only [State.tripsTake, slot]
  cases r with
  | masterTrip => exact absurd rfl role
  | _ => cases c.operate <;> rfl

/-- The changes that the table has no use for: releases of MASTER_TRIP and TRIP_CAUSE lines, operates of the
BREAKER, and anything of the other roles. -/
theorem State.tripsTake_of_idle {r : Role}
    (idle : c.operate = false ∧ (r = .masterTrip ∨ r = .tripCause) ∨ c.operate = true ∧ r = .breaker
      ∨ r ∈ [Role.running, .pump, .condenser, .event, .spare]) : s.tripsTake r c = s := by
  rcases idle with ⟨release, rfl | rfl⟩ | ⟨operate, rfl⟩ | other
  · simp only [State.tripsTake, release]
  · simp only [State.tripsTake, release]
  · simp only [State.tripsTake, operate]
  · cases r with
    | masterTrip | tripCause | breaker => simp at other
    | _ => rfl

theorem TripFile.noteRelease_first (absent : f.breakerOpen = none) {runClock : Nat}
    (admitted : f.runClock ≤ runClock + f.lookback * 1000000) :
    f.noteRelease runClock = { f with breakerOpen := some (((runClock : Int) - f.runClock).tdiv 1000) } :=
  if_pos (by rw [absent, TripFile.admits, decide_eq_true admitted]; rfl)

theorem TripFile.noteRelease_kept {runClock : Nat}
    (h : f.breakerOpen ≠ none ∨ runClock + f.lookback * 1000000 < f.runClock) : f.noteRelease runClock = f :=
  if_neg fun taken => by
    rw [Bool.and_eq_true, TripFile.admits, decide_eq_true_iff, Option.isNone_iff_eq_none] at taken
    rcases h with present | early
    · exact present taken.1
    · omega

end

theorem State.openFile_takesOperatesAndFirstRelease : Claims.OpenFileTakesOperatesAndFirstRelease := by
  intro s l x u release
  refine ⟨fun i f slot file => ⟨State.tripsTake_operate (.inl rfl) rfl slot file,
    State.tripsTake_operate (.inr rfl) rfl slot file, fun absent admitted => ?_, fun kept => ?_⟩,
    fun slot => ⟨State.tripsTake_of_noFile (by decide) slot, State.tripsTake_of_noFile (by decide) slot⟩,
    State.tripsTake_of_idle (.inr (.inl ⟨rfl, rfl⟩)), State.tripsTake_of_idle (.inl ⟨rfl, .inl rfl⟩),
    State.tripsTake_of_idle (.inl ⟨rfl, .inr rfl⟩), fun r active other => State.tripsTake_of_idle (.inr (.inr other))⟩
  · rw [show release = _ from State.tripsTake_release rfl slot file]
    exact congrArg (fun g => s.setSlot i (some g)) (TripFile.noteRelease_first absent admitted)
  · rw [show release = _ from State.tripsTake_release rfl slot file]
    exact (congrArg (fun g => s.setSlot i (some g)) (TripFile.noteRelease_kept kept)).trans
      (State.setSlot_file file)

/-- Settles O32: the place of an entry is that of `insertOperate`, the first-out follows from the lines at the
earliest place, and the table offers or notes what the role of a line gives it. -/
theorem operateIsListedInOrder : Obligations.OperateIsListedInOrder :=
  ⟨TripFile.operate_takesItsPlace, TripFile.tiedOperates_keepLineOrder, TripFile.firstOut_isLowestCause,
    State.openFile_takesOperatesAndFirstRelease⟩

end Sys2Proof.Machine
end

section
/-! The answers of LIST TRIP FILES, READ TRIP FILE, READ SUMMARY, READ JOURNAL and READ SETTINGS (R69, R126, R127,
R133, R163, R180, R202, R203, R205, R208): O59. -/

namespace Sys2Proof.Machine

variable (s : State)

/-! ### Small layouts (R203) -/

theorem byteOf_eq (v : Nat) : byteOf v = [BitVec.ofNat 8 v] := by
  simp [byteOf, be]

theorem modeCode_eq (m : Option Mode) : modeCode m = match m with | none => 0 | some m => m.code := by
  cases m <;> rfl

/-- A tally's saturated flag says that it stands at its cap (R133). -/
theorem satTally_eq (ms : Nat) : satTally ms = tallyBytes ms (Decidable.decide (ms = 3599999999999)) := rfl

theorem timeLeft_second (deadline now : Nat) :
    timeLeft deadline now Config.second = (deadline - now + 999999999) / 1000000000 := by
  rw [timeLeft, Config.second_eq]

theorem PerMode.toList_eq {α : Type} (x : PerMode α) :
    x.toList = [Mode.stand, .spin, .gen, .pump, .cond].map x.get := rfl

/-- Bytes laid out one after another are the bytes of the whole list. -/
theorem flatMap_byteOf {α : Type} (xs : List α) (f : α → Nat) :
    xs.flatMap (fun x => byteOf (f x)) = xs.map fun x => BitVec.ofNat 8 (f x) := by
  rw [List.map_eq_flatMap, show (fun x => byteOf (f x)) = _ from funext fun x => byteOf_eq (f x)]

/-! ### Trip files (R126, R127, R208) -/

theorem slotNamed_of_eq {b : Byte} {i : SlotId} (h : b.toNat = i.val) : slotNamed b = some i := by
  rw [slotNamed, dif_pos (by omega)]
  exact congrArg some (Fin.ext h)

theorem slotNamed_of_high {b : Byte} (h : 15 < b.toNat) : slotNamed b = none := dif_neg (by omega)

theorem fileListing_eq (f : Option TripFile) :
    fileListing f = match f with
      | none => [0, 0, 0, 0, 0, 0]
      | some f => byteOf f.state.code ++ byteOf (f.unit.val + 1) ++ secondBytes f.second := by
  cases f with
  | none => rfl
  | some f =>
    dsimp only
    rw [byteOf_eq (f.unit.val + 1)]
    rfl

/-- The four flags of a trip file, TEST in the lowest bit (R208). -/
theorem flagSet_four (a b c d : Bool) :
    flagSet [a, b, c, d] = a.toNat + 2 * b.toNat + 4 * c.toNat + 8 * d.toNat := by
  simp only [flagSet, List.foldr_cons, List.foldr_nil]
  omega

theorem State.tripFiles_areRead : Claims.TripFilesAreRead := by
  intro s q
  refine ⟨fun waits => ⟨_, rfl, State.request_gives waits (by simp) ?_⟩, fun slot waits => ?_⟩
  · rw [State.decide, State.listTripFiles, show fileListing = _ from funext fileListing_eq]
    rfl
  · intro tally
    refine ⟨_, rfl, fun outside => State.request_refused waits (by simp) ?_, fun i named => ⟨fun free => ?_,
      fun f file => ?_⟩⟩
    · rw [State.decide, State.readTripFile, slotNamed_of_high outside]
    · refine State.request_gives waits (by simp) ?_
      rw [State.decide, State.readTripFile, slotNamed_of_eq named]
      simp only [free]
      rfl
    · refine State.request_gives waits (by simp) ?_
      rw [State.decide, State.readTripFile, slotNamed_of_eq named]
      simp only [file, TripFile.bytes, flagSet_four, modeCode_eq, byteOf_eq (f.unit.val + 1),
        show (fun u : UnitId => byteOf (u.val + 1)) = fun u => [unitByte u] from funext fun u => byteOf_eq _,
        List.append_assoc]
      rfl

/-! ### Summaries (R168, R176, R180, R208) -/

theorem Shift.summaryAt_zero (x : Shift) : x.summaryAt 0 = x.running := rfl

/-- Index 1 names the newest summary of the log (R180). -/
theorem Shift.summaryAt_log (x : Shift) {index : Nat} (low : 1 ≤ index) (high : index ≤ x.log.length) :
    x.summaryAt index = x.log[x.log.length - index]? := by
  rw [Shift.summaryAt, if_neg (by omega), List.getElem?_reverse (by omega)]
  congr 1
  omega

theorem Shift.summaryAt_beyond (x : Shift) {index : Nat} (h : x.log.length < index) :
    x.summaryAt index = none := by
  rw [Shift.summaryAt, if_neg (by omega), List.getElem?_eq_none]
  rw [List.length_reverse]
  omega

/-- A set of slots as a sum over the 16 slots (R203). -/
theorem slotSet_eq (xs : List SlotId) :
    slotSet xs = ((List.finRange 16).map fun i => (Decidable.decide (i ∈ xs)).toNat * 2 ^ i.val).sum := by
  rw [slotSet, allSlots, flagSet_finRange]
  simp only [List.contains_eq_mem]

theorem State.readSummary_refused {index part : Byte} (h : 12 < index.toNat ∨ 6 < part.toNat) :
    s.readSummary index part = s.refuse .badValue := if_pos h

theorem State.readSummary_notHeld {index part : Byte} (named : index.toNat ≤ 12 ∧ part.toNat ≤ 6)
    (none_held : s.shift.summaryAt index.toNat = none) : s.readSummary index part = s.refuse .notHeld := by
  rw [State.readSummary, if_neg (by omega), none_held]

theorem State.readSummary_header {index : Byte} {m : Summary} (named : index.toNat ≤ 12)
    (held : s.shift.summaryAt index.toNat = some m) :
    s.readSummary index 0 = s.gives ([index, 0] ++ (byteOf s.shift.log.length
      ++ m.header (if index = 0 then s.overdueNow else 0) ++ if index = 0 then s.shiftOwn else [])) := by
  have first : unitNamed 0 = none := rfl
  rw [State.readSummary, if_neg (by simpa using named), held, first]

theorem State.readSummary_unit {index part : Byte} {m : Summary} {u : UnitId} (named : index.toNat ≤ 12)
    (unit : part.toNat = u.val + 1) (held : s.shift.summaryAt index.toNat = some m) :
    s.readSummary index part = s.gives ([index, part] ++ m.unitPart u) := by
  have bound := u.isLt
  rw [State.readSummary, if_neg (by omega), held, unitNamed_of_eq unit]

theorem State.summaries_areRead : Claims.SummariesAreRead := by
  intro s q index part waits r seconds header own entry
  have left (deadline : Nat) : timeLeft deadline s.tb.runClock Config.second = seconds deadline :=
    timeLeft_second _ _
  have ten : Config.tenMinutes = 600000000000 := rfl
  have whole (m : Summary) (running : Nat) :
      [index, 0] ++ (byteOf s.shift.log.length ++ m.header running) = header m running := by
    simp only [header, Summary.header, slotSet_eq, leftBytes, List.append_assoc]
  have part_eq (m : Summary) (u : UnitId) : [index, part] ++ m.unitPart u = entry m u := by
    simp only [entry, Summary.unitPart, PerMode.toList_eq, List.flatMap_map, List.append_assoc]
  have own_eq : s.shiftOwn = own := by
    simp only [own, State.shiftOwn, Shift.identityBytes, left, ten, List.append_assoc]
  refine ⟨_, rfl, fun outside => State.request_refused waits (by simp) (s.readSummary_refused outside),
    fun _ high named beyond => State.request_refused waits (by simp)
      (s.readSummary_notHeld ⟨high, named⟩ (s.shift.summaryAt_beyond beyond)),
    fun m zero running => ⟨fun first => ?_, fun u unit => ?_⟩,
    fun m low high held at_index => ?_⟩
  · subst zero first
    have now : s.shift.summaryAt (0 : Byte).toNat = some m := running
    refine State.request_gives waits (by simp) ((s.readSummary_header (by simp) now).trans ?_)
    rw [if_pos rfl, if_pos rfl, ← List.append_assoc, whole, own_eq]
    rfl
  · subst zero
    have now : s.shift.summaryAt (0 : Byte).toNat = some m := running
    exact State.request_gives waits (by simp)
      ((s.readSummary_unit (by simp) unit now).trans (by rw [part_eq]))
  · rw [← s.shift.summaryAt_log low held] at at_index
    refine ⟨fun first => ?_, fun u unit => State.request_gives waits (by simp)
      ((s.readSummary_unit high unit at_index).trans (by rw [part_eq]))⟩
    have logged : index ≠ 0 := by
      rintro rfl
      simp at low
    subst first
    refine State.request_gives waits (by simp) ((s.readSummary_header high at_index).trans ?_)
    rw [if_neg logged, if_neg logged, List.append_nil, whole]

/-! ### The journal (R148, R163) -/

theorem lastTripBytes_eq (x : Option LastTrip) :
    lastTripBytes x = optionBytes 7 (x.map fun d => secondBytes d.second ++ byteOf d.cls
      ++ optionBytes 1 (d.firstOut.map fun l => byteOf l.val)) := rfl

theorem Journal.since_eq (j : Journal) :
    j.since = match j.lastCapture with | some x => x | none => j.recoveredAt := by
  unfold Journal.since
  cases j.lastCapture <;> rfl

theorem State.intervalLeft_eq :
    s.intervalLeft = (s.journal.since + s.settings.working.checkpointInterval * 60 * 1000000000
      - s.tb.runClock + 999999999) / 1000000000 := by
  rw [State.intervalLeft, timeLeft_second, Config.second_eq]

theorem State.paceLeft_eq :
    s.paceLeft.map leftBytes = if s.journal.countChanged then
      some (leftBytes ((s.journal.since + 10000000000 - s.tb.runClock + 999999999) / 1000000000)) else none := by
  rw [State.paceLeft, timeLeft_second, show Config.countPace = 10000000000 from rfl]
  split <;> rfl

theorem JournalUnit.answerBytes_eq (x : JournalUnit) :
    x.answerBytes = [Mode.stand, .spin, .gen, .pump, .cond].flatMap (fun m => satTally (x.tallies.get m))
      ++ countBytes x.starts ++ countBytes x.trips ++ countBytes x.closings ++ lastTripBytes x.lastTrip := by
  rw [JournalUnit.answerBytes, PerMode.toList_eq, List.flatMap_map]

theorem State.readJournal_unit {part : Byte} {u : UnitId} (unit : part.toNat = u.val + 1) :
    s.readJournal part = s.gives (optionBytes 47 (s.journal.newest.map fun x =>
      (x.record.units.get u).answerBytes)) := by
  have other : part ≠ 0 := by
    rintro rfl
    simp at unit
  rw [State.readJournal, if_neg other, unitNamed_of_eq unit]

theorem State.readJournal_refused {part : Byte} (outside : 6 < part.toNat) :
    s.readJournal part = s.refuse .badValue := by
  have other : part ≠ 0 := by
    rintro rfl
    simp at outside
  rw [State.readJournal, if_neg other, unitNamed_of_outside (.inr outside)]

theorem State.journal_isRead : Claims.JournalIsRead := by
  intro s q part waits j since seconds sector tally op
  have from_capture : s.journal.since = since := Journal.since_eq _
  have operation : flashOpBytes s.flash.op = op := by
    simp only [op]
    cases s.flash.op <;> rfl
  refine ⟨_, rfl, fun outside => State.request_refused waits (by simp) (s.readJournal_refused outside),
    fun first => ?_, fun u unit => ?_⟩
  · subst first
    refine State.request_gives waits (by simp) (congrArg s.gives ?_)
    simp only [State.journalPart, s.intervalLeft_eq, s.paceLeft_eq, from_capture, operation,
      show NewestRecord.bytes = _ from funext fun _ => NewestRecord.bytes.eq_1 _, Shift.identityBytes,
      List.append_assoc]
    rfl
  · refine State.request_gives waits (by simp) ((s.readJournal_unit unit).trans (congrArg s.gives ?_))
    simp only [JournalUnit.answerBytes_eq, satTally_eq, lastTripBytes_eq]
    rfl

/-! ### Settings (R69, R202, R203, R205) -/

theorem State.planInForce_eq (u : UnitId) :
    s.planInForce u = ((List.finRange 8).drop 2).flatMap fun k => byteOf (s.line (lineOf u k)).role.code := by
  rw [flatMap_byteOf, State.planInForce, unitLines, ← List.map_drop, List.map_map]
  rfl

theorem State.polarityInForce_eq (u : UnitId) :
    [s.polarityInForce u] = byteOf ((List.finRange 8).map fun k =>
      (s.line (lineOf u k)).inverted.toNat * 2 ^ k.val).sum := by
  rw [byteOf_eq, ← flagSet_finRange, State.polarityInForce, unitLines, List.map_map]
  rfl

/-- Of the six units at most one has the number a body names. -/
theorem flatMap_unitNamed (qual : Byte) (f : UnitId → List Byte) :
    ((List.finRange 6).flatMap fun u => if qual.toNat = u.val + 1 then f u else [])
      = (unitNamed qual).elim [] f := by
  by_cases named : 1 ≤ qual.toNat ∧ qual.toNat ≤ 6
  · obtain ⟨u, unit⟩ : ∃ u : UnitId, qual.toNat = u.val + 1 := ⟨⟨qual.toNat - 1, by omega⟩, by simp; omega⟩
    rw [unitNamed_of_eq unit, unit]
    fin_cases u <;> simp [List.finRange_succ]
  · have none_named (u : UnitId) : qual.toNat ≠ u.val + 1 := by omega
    rw [unitNamed_of_outside (by omega)]
    simp [none_named]

theorem find?_unitNamed (qual : Byte) :
    ((List.finRange 6).find? fun u => qual.toNat == u.val + 1) = unitNamed qual := by
  by_cases named : 1 ≤ qual.toNat ∧ qual.toNat ≤ 6
  · obtain ⟨u, unit⟩ : ∃ u : UnitId, qual.toNat = u.val + 1 := ⟨⟨qual.toNat - 1, by omega⟩, by simp; omega⟩
    rw [unitNamed_of_eq unit, unit]
    fin_cases u <;> rfl
  · rw [unitNamed_of_outside (by omega), List.find?_eq_none]
    intro u _
    simp
    omega

theorem byte_toNat_ne {b : Byte} {n : Nat} (bound : n < 256) (other : b ≠ BitVec.ofNat 8 n) : b.toNat ≠ n :=
  fun same => other (BitVec.eq_of_toNat_eq (by rw [same, BitVec.toNat_ofNat, Nat.mod_eq_of_lt bound]))

/-- The value in force of an item that takes effect at a start only (R69). -/
theorem State.valueInForce_eq (item qual : Byte) :
    s.valueInForce item qual
      = if item = 0x0A then (unitNamed qual).elim [] s.planInForce
        else if item = 0x0B then (unitNamed qual).elim [] fun u => [s.polarityInForce u]
        else if item = 0x0C then be 2 s.lines.period else [] := by
  unfold State.valueInForce
  by_cases plan : item = 0x0A
  · subst plan
    cases unitNamed qual <;> rfl
  by_cases polarity : item = 0x0B
  · subst polarity
    cases unitNamed qual <;> rfl
  by_cases period : item = 0x0C
  · subst period
    cases unitNamed qual <;> rfl
  rw [if_neg plan, if_neg polarity, if_neg period]
  split
  · rename_i same _
    exact absurd same (byte_toNat_ne (by omega) plan)
  · rename_i same _
    exact absurd same (byte_toNat_ne (by omega) polarity)
  · rename_i same
    exact absurd same (byte_toNat_ne (by omega) period)
  · rfl

theorem State.readSettings_refused {item qual : Byte} (h : Settings.valueOf s.settings.working item qual = none) :
    s.readSettings item qual = s.refuse .badValue := by
  rw [State.readSettings, h]

theorem State.readSettings_gives {item qual : Byte} {w v : List Byte}
    (working : Settings.valueOf s.settings.working item qual = some w)
    (stored : Settings.valueOf s.settings.stored item qual = some v) :
    s.readSettings item qual = s.gives (w ++ v ++ flagByte (w != v || !s.settings.valid)
      ++ s.valueInForce item qual ++ flagByte (!s.settings.valid) ++ flagByte s.settings.fromDefaults
      ++ byteOf ((s.settings.save.map fun y => y.stage.code).getD 0)
      ++ optionBytes 1 (s.settings.outcome.map fun o => byteOf o.code)) := by
  rw [State.readSettings, working, stored]

theorem State.settings_areRead : Claims.SettingsAreRead := by
  intro s q item qual waits x inForce
  have force : s.valueInForce item qual = inForce := by
    simp only [inForce, flatMap_unitNamed, ← s.planInForce_eq, ← s.polarityInForce_eq]
    exact s.valueInForce_eq item qual
  refine ⟨_, rfl, fun nothing => State.request_refused waits (by simp) (s.readSettings_refused nothing),
    fun w v working stored => State.request_gives waits (by simp)
      ((s.readSettings_gives working stored).trans (congrArg s.gives ?_))⟩
  have differ : (w != v) = Decidable.decide (w ≠ v) := by
    rw [Bool.eq_iff_iff, bne_iff_ne, decide_eq_true_iff]
  rw [force, differ]
  dsimp only [x]
  cases s.settings.save with
  | none => rfl
  | some y =>
    obtain ⟨stage, values⟩ := y
    cases stage <;> rfl

theorem portNamed_eq (qual : Byte) :
    portNamed qual = if qual = 1 then some .g else if qual = 2 then some .p else if qual = 3 then some .s
      else none := by
  by_cases g : qual = 1
  · subst g
    rfl
  by_cases p : qual = 2
  · subst p
    rfl
  by_cases sp : qual = 3
  · subst sp
    rfl
  rw [if_neg g, if_neg p, if_neg sp, portNamed]
  split
  · rename_i same
    exact absurd same (byte_toNat_ne (by omega) g)
  · rename_i same
    exact absurd same (byte_toNat_ne (by omega) p)
  · rename_i same
    exact absurd same (byte_toNat_ne (by omega) sp)
  · rfl

theorem Settings.valueOf_of_no_item (w : Settings) (qual : Byte) {item : Byte} (h : item = 0 ∨ 0x19 < item.toNat) :
    Settings.valueOf w item qual = none := by
  have outside : item.toNat = 0 ∨ 0x19 < item.toNat := h.imp (fun zero => by rw [zero]; rfl) id
  unfold Settings.valueOf
  split
  all_goals first
    | rfl
    | omega

theorem Settings.items_haveTheirBytes : Claims.SettingsItemsHaveTheirBytes := by
  intro w qual value unit
  have named : unitNamed qual = unit := (find?_unitNamed qual).symm
  refine ⟨rfl, rfl, rfl, rfl, rfl, ?_, rfl, rfl, rfl, ?_, ?_, rfl, rfl, rfl, rfl, rfl, rfl, rfl, rfl, rfl, rfl, ?_, rfl,
    rfl, ?_, fun item => Settings.valueOf_of_no_item w qual⟩
  · change some (RefId.priorityByte w.priority) = _
    cases w.priority <;> rfl
  · rw [← named]
    simp only [flatMap_byteOf]
    rfl
  · rw [← named]
    rfl
  · rfl
  · change (portNamed qual).map _ = _
    rw [portNamed_eq]
    repeat' split
    all_goals rfl

/-- Settles O59: each answer is laid out value by value, and a request that gives values or is refused leaves the
state. -/
theorem filesSummariesJournalAndSettingsAreRead : Obligations.FilesSummariesJournalAndSettingsAreRead :=
  ⟨State.tripFiles_areRead, State.summaries_areRead, State.journal_isRead, State.settings_areRead,
    Settings.items_haveTheirBytes⟩

end Sys2Proof.Machine
end


section
/-! What the Line Scanner hands on: one line changed, the records of a line, what the Trip File Table and the Mode
Detector can move, and an accepted change as a whole (R65 to R67, R70 to R72). -/

namespace Sys2Proof.Machine

variable (s : State)

/-! ### One line changed -/

@[simp] theorem State.line_setLine_same (l : LineId) (x : Line) : (s.setLine l x).line l = x :=
  Table.get_set_same _ _ _

theorem State.line_setLine_other {l k : LineId} (x : Line) (other : k ≠ l) :
    (s.setLine l x).line k = s.line k :=
  Table.get_set_other _ _ other

theorem State.setLine_setLine (l : LineId) (x y : Line) : (s.setLine l x).setLine l y = s.setLine l y := by
  unfold State.setLine
  rw [Table.set_set]

theorem State.line_congr {s t : State} (h : t.lines = s.lines) (l : LineId) : t.line l = s.line l :=
  congrArg (fun x : Lines => x.tab.get l) h

/-- Only one line's entry has changed. -/
theorem State.line_of_lines {s t : State} {l : LineId} {x : Line} (h : t.lines = (s.setLine l x).lines) :
    t.line l = x ∧ ∀ k, k ≠ l → t.line k = s.line k :=
  ⟨(State.line_congr h l).trans (s.line_setLine_same l x),
    fun k other => (State.line_congr h k).trans (s.line_setLine_other x other)⟩

/-! ### The records of a line (R65, R71, R72) -/

/-- The LINE_ON or LINE_OFF entry of a level. -/
def State.levelEntry (s : State) (l : LineId) (active : Bool) (t : Stamp) (scanned derived : Bool) : Entry :=
  { kind := if active then .lineOn else .lineOff
    field := BitVec.ofNat 8 l.val, stamp := t, datum := 0
    test := s.inTest (LineId.unit l), scanned := scanned, derived := derived }

/-- The CHATTER_ON or CHATTER_OFF entry of a line. -/
def State.chatterEntry (s : State) (l : LineId) (kind : Kind) (t : Stamp) (datum : Nat) (scanned : Bool) : Entry :=
  { kind := kind
    field := BitVec.ofNat 8 l.val, stamp := t, datum := BitVec.ofNat 16 datum
    test := s.inTest (LineId.unit l), scanned := scanned }

section
variable (l : LineId) (active : Bool) (t : Stamp)

theorem State.noteLevel_eq (scanned derived : Bool) :
    s.noteLevel l active t scanned derived
      = (s.setLine l { s.line l with lastRecorded := active }).append (s.levelEntry l active t scanned derived) :=
  rfl

theorem State.noteLevel_tells (scanned derived : Bool) :
    s.Tells (s.noteLevel l active t scanned derived) [s.levelEntry l active t scanned derived] [] :=
  (State.append_tells _ _).after_silence rfl rfl

theorem State.noteLevel_lines (scanned derived : Bool) :
    (s.noteLevel l active t scanned derived).lines
      = (s.setLine l { s.line l with lastRecorded := active }).lines := by
  rw [s.noteLevel_eq, State.append_lines]

theorem State.noteLevel_frame (scanned derived : Bool) : ∃ (x : Lines) (r : Ring) (p : PerPort PortState),
    s.noteLevel l active t scanned derived = { s with lines := x, ring := r, ports := p } := by
  obtain ⟨r, p, e⟩ := (s.setLine l { s.line l with lastRecorded := active }).append_frame
    (s.levelEntry l active t scanned derived)
  exact ⟨_, r, p, (s.noteLevel_eq l active t scanned derived).trans e⟩

theorem State.noteChatter_tells (kind : Kind) (datum : Nat) (scanned : Bool) :
    s.Tells (s.noteChatter l kind t datum scanned) [s.chatterEntry l kind t datum scanned] [] :=
  s.append_tells _

theorem State.noteChatter_frame (kind : Kind) (datum : Nat) (scanned : Bool) :
    ∃ (r : Ring) (p : PerPort PortState),
      s.noteChatter l kind t datum scanned = { s with ring := r, ports := p } :=
  s.append_frame _

end

/-! ### What the Mode Detector can move (R78 to R83, R134, R177) -/

/-- From one state to another at most `n` records have been written, and nothing has moved outside the Mode
Detector and what hears of it; one unit has these levels, and its test stands. -/
structure State.MovesMode (u : UnitId) (n : Nat) (levels : ModeLevels) (s t : State) : Prop where
  few : s.TellsFew n t
  frame : t = { s with
    modes := t.modes, tally := t.tally, shift := t.shift, journal := t.journal, ring := t.ring, ports := t.ports }
  levels : (t.modeOf u).levels = levels
  test : (t.modeOf u).test = (s.modeOf u).test

theorem State.tallyTakesMode_frame (u : UnitId) (k : Mode) (start : Bool) : ∃ (y : TallyUnit) (j : Journal),
    s.tallyTakesMode u k start = { s with tally := y, journal := j } := by
  unfold State.tallyTakesMode
  dsimp only
  split
  · generalize counted : s.setTally u _ = v
    obtain ⟨j, e⟩ := v.noteRise_frame (s.tallyOf u).starts
    exact ⟨v.tally, j, by rw [e, ← counted]; rfl⟩
  · exact ⟨_, s.journal, rfl⟩

theorem State.tallyTakesClosing_frame (u : UnitId) : ∃ (y : TallyUnit) (j : Journal),
    s.tallyTakesClosing u = { s with tally := y, journal := j } := by
  unfold State.tallyTakesClosing
  dsimp only
  generalize counted : s.setTally u _ = v
  obtain ⟨j, e⟩ := v.noteRise_frame (s.tallyOf u).closings
  exact ⟨v.tally, j, by rw [e, ← counted]; rfl⟩

theorem State.shiftTakesMode_frame (u : UnitId) (k : Mode) (start : Bool) : ∃ x : Shift,
    s.shiftTakesMode u k start = { s with shift := x } := by
  unfold State.shiftTakesMode
  dsimp only
  split <;> exact ⟨_, rfl⟩

theorem State.MovesMode.refl (u : UnitId) (n : Nat) : s.MovesMode u n (s.modeOf u).levels s :=
  ⟨⟨[], [], State.Tells.of_eq rfl rfl, Nat.zero_le _⟩, rfl, rfl, rfl⟩

/-- A change of a unit's mode that keeps its test goes before what the Mode Detector moves. -/
theorem State.MovesMode.after_setMode {s t : State} {u : UnitId} {x : UnitMode} {n : Nat} {levels : ModeLevels}
    (h : (s.setMode u x).MovesMode u n levels t) (test : x.test = (s.modeOf u).test) : s.MovesMode u n levels t where
  few := by
    obtain ⟨es, ks, told, short⟩ := h.few
    exact ⟨es, ks, told.after_silence rfl rfl, short⟩
  frame := h.frame
  levels := h.levels
  test := h.test.trans ((congrArg UnitMode.test (Table.get_set_same _ _ _)).trans test)

/-- A change of the Tally Unit and the journal goes before what the Mode Detector moves. -/
theorem State.MovesMode.after_tally {s t : State} {y : TallyUnit} {j : Journal} {u : UnitId} {n : Nat}
    {levels : ModeLevels} (h : ({ s with tally := y, journal := j } : State).MovesMode u n levels t) :
    s.MovesMode u n levels t where
  few := by
    obtain ⟨es, ks, told, short⟩ := h.few
    exact ⟨es, ks, told.after_silence rfl rfl, short⟩
  frame := h.frame
  levels := h.levels
  test := h.test

@[simp] theorem State.modeOf_setMode_same (u : UnitId) (x : UnitMode) : (s.setMode u x).modeOf u = x :=
  Table.get_set_same _ _ _

/-- The record of a settled mode and its hand-offs (R81, R132, R177). -/
theorem State.modeNoted_moves (u : UnitId) (t : Stamp) (datum : BitVec 16) (k : Mode) (start : Bool) :
    s.MovesMode u 1 (s.modeOf u).levels
      (((s.noteUnit .mode u t datum false).tallyTakesMode u k start).shiftTakesMode u k start) := by
  obtain ⟨r, p, noted⟩ := s.noteUnit_frame .mode u t datum false
  obtain ⟨y, j, tally⟩ := (s.noteUnit .mode u t datum false).tallyTakesMode_frame u k start
  obtain ⟨x, shift⟩ := ((s.noteUnit .mode u t datum false).tallyTakesMode u k start).shiftTakesMode_frame u k start
  have told : s.Tells (s.noteUnit .mode u t datum false) [_] [] := s.append_tells _
  rw [shift, tally]
  refine ⟨⟨_, _, told.then_silence rfl rfl, le_rfl⟩, ?_, ?_, ?_⟩
  all_goals rw [noted]
  all_goals rfl

/-- A settling writes one record (R81). -/
theorem State.settleOn_moves (u : UnitId) (c : Candidate) :
    s.MovesMode u 1 (s.modeOf u).levels (s.settleOn u c) := by
  unfold State.settleOn
  dsimp only
  have noted := State.modeNoted_moves (s.setMode u { s.modeOf u with
    settled := some c.mode, since := some c.start, candidate := none }) u c.start
    (datumOf (modeCode (s.modeOf u).settled) c.mode.code) c.mode
    (Decidable.decide ((s.modeOf u).settled = some .stand ∧ c.mode ≠ .stand))
  rw [State.modeOf_setMode_same] at noted
  exact noted.after_setMode rfl

theorem State.settle_moves (u : UnitId) : s.MovesMode u 1 (s.modeOf u).levels (s.settle u) := by
  unfold State.settle
  split
  · split
    · exact s.settleOn_moves u _
    · exact State.MovesMode.refl s u 1
  · exact State.MovesMode.refl s u 1

theorem State.settleFormed_moves (u : UnitId) : s.MovesMode u 1 (s.modeOf u).levels (s.settleFormed u) := by
  unfold State.settleFormed
  split
  · split
    · exact s.settleOn_moves u _
    · exact State.MovesMode.refl s u 1
  · exact State.MovesMode.refl s u 1

/-- A derivation writes at most the record of one settling (R79, R80). -/
theorem State.derive_moves (u : UnitId) (t : Stamp) : s.MovesMode u 1 (s.modeOf u).levels (s.derive u t) := by
  unfold State.derive
  dsimp only
  generalize nextCandidate _ _ _ _ = c
  have settles := State.settle_moves (s.setMode u { s.modeOf u with candidate := c }) u
  have forms := State.settleFormed_moves (s.setMode u { s.modeOf u with candidate := c }) u
  rw [State.modeOf_setMode_same] at settles forms
  split
  · exact settles.after_setMode rfl
  · exact forms.after_setMode rfl

/-- In test a level is stored and nothing more (R85). -/
theorem State.handLevel_of_test {u : UnitId} (test : (s.modeOf u).test.isSome = true) (k : LevelName) (active : Bool)
    (t : Stamp) : s.handLevel u k active t
      = s.setMode u { s.modeOf u with levels := (s.modeOf u).levels.set k active } :=
  if_pos test

/-- Out of test a level is stored and the mode derived, a breaker closing counted first (R78, R135). -/
theorem State.handLevel_of_out {u : UnitId} (out : ¬ (s.modeOf u).test.isSome = true) (k : LevelName)
    (active : Bool) (t : Stamp) : ∃ (y : TallyUnit) (j : Journal), s.handLevel u k active t
      = (({ s with tally := y, journal := j } : State).setMode u
          { s.modeOf u with levels := (s.modeOf u).levels.set k active }).derive u t := by
  unfold State.handLevel
  dsimp only
  rw [if_neg out]
  split
  · obtain ⟨y, j, e⟩ := s.tallyTakesClosing_frame u
    exact ⟨y, j, by rw [e]⟩
  · exact ⟨s.tally, s.journal, rfl⟩

/-- A level handed to the Mode Detector is stored, and writes at most the record of one settling (R78, R83, R85). -/
theorem State.handLevel_moves (u : UnitId) (k : LevelName) (active : Bool) (t : Stamp) :
    s.MovesMode u 1 ((s.modeOf u).levels.set k active) (s.handLevel u k active t) := by
  by_cases test : (s.modeOf u).test.isSome = true
  · have stored := State.MovesMode.refl (s.setMode u { s.modeOf u with
      levels := (s.modeOf u).levels.set k active }) u 1
    rw [State.modeOf_setMode_same] at stored
    rw [s.handLevel_of_test test]
    exact stored.after_setMode rfl
  · obtain ⟨y, j, e⟩ := s.handLevel_of_out test k active t
    have derived := State.derive_moves (({ s with tally := y, journal := j } : State).setMode u { s.modeOf u with
      levels := (s.modeOf u).levels.set k active }) u t
    rw [State.modeOf_setMode_same] at derived
    rw [e]
    exact (derived.after_setMode rfl).after_tally

/-! ### What the Trip File Table can move (R113 to R121, R134, R136) -/

/-- From one state to another at most `n` records have been written, and nothing has moved outside the lines and
the blocks that hear of an accepted change. -/
structure State.HandsOn (n : Nat) (s t : State) : Prop where
  few : s.TellsFew n t
  frame : t = { s with
    lines := t.lines, trips := t.trips, modes := t.modes, tally := t.tally, shift := t.shift
    journal := t.journal, ring := t.ring, ports := t.ports }

section
variable {s t v : State} {n m : Nat}

theorem State.HandsOn.trans (h : s.HandsOn n t) (g : t.HandsOn m v) : s.HandsOn (n + m) v where
  few := h.few.trans g.few
  frame := by
    have whole := g.frame
    rw [h.frame] at whole
    exact whole

theorem State.HandsOn.mono (h : s.HandsOn n t) (le : n ≤ m) : s.HandsOn m t := by
  obtain ⟨es, ks, told, short⟩ := h.few
  exact ⟨⟨es, ks, told, short.trans le⟩, h.frame⟩

theorem State.HandsOn.refl (s : State) (n : Nat) : s.HandsOn n s :=
  ⟨⟨[], [], State.Tells.of_eq rfl rfl, Nat.zero_le _⟩, rfl⟩

theorem State.HandsOn.setLine (s : State) (l : LineId) (x : Line) : s.HandsOn 0 (s.setLine l x) :=
  ⟨State.TellsFew.none rfl rfl, rfl⟩

theorem State.MovesMode.handsOn {u : UnitId} {levels : ModeLevels} (h : s.MovesMode u n levels t) : s.HandsOn n t :=
  ⟨h.few, by rw [h.frame]⟩

theorem State.MovesMode.lines {u : UnitId} {levels : ModeLevels} (h : s.MovesMode u n levels t) :
    t.lines = s.lines := by
  rw [h.frame]

end

section
variable {s : State}

theorem State.tallyTakesTrip_frame (u : UnitId) (second : Second) (cls : Nat) : ∃ (y : TallyUnit) (j : Journal),
    s.tallyTakesTrip u second cls = { s with tally := y, journal := j } := by
  unfold State.tallyTakesTrip
  dsimp only
  generalize counted : s.setTally u _ = v
  obtain ⟨j, e⟩ := v.noteRise_frame (s.tallyOf u).trips
  exact ⟨v.tally, j, by rw [e, ← counted]; rfl⟩

theorem State.countTrip_frame (u : UnitId) (t : Stamp) (test : Bool) : ∃ (y : TallyUnit) (x : Shift) (j : Journal),
    s.countTrip u t test = { s with tally := y, shift := x, journal := j } := by
  unfold State.countTrip
  split
  · exact ⟨s.tally, s.shift, s.journal, rfl⟩
  · obtain ⟨y, j, e⟩ := s.tallyTakesTrip_frame u t.second t.cls
    exact ⟨y, _, j, by rw [e]; rfl⟩

/-- From one state to another at most `n` records have been written, and nothing has moved outside the Trip File
Table and what hears of it. -/
structure State.MovesTrips (n : Nat) (s t : State) : Prop where
  few : s.TellsFew n t
  frame : t = { s with
    trips := t.trips, tally := t.tally, shift := t.shift, journal := t.journal, ring := t.ring, ports := t.ports }

section
variable {t v : State} {n m : Nat}

theorem State.MovesTrips.trans (h : s.MovesTrips n t) (g : t.MovesTrips m v) : s.MovesTrips (n + m) v where
  few := h.few.trans g.few
  frame := by
    have whole := g.frame
    rw [h.frame] at whole
    exact whole

theorem State.MovesTrips.refl (s : State) (n : Nat) : s.MovesTrips n s :=
  ⟨⟨[], [], State.Tells.of_eq rfl rfl, Nat.zero_le _⟩, rfl⟩

theorem State.MovesTrips.handsOn (h : s.MovesTrips n t) : s.HandsOn n t := ⟨h.few, by rw [h.frame]⟩

theorem State.MovesTrips.lines (h : s.MovesTrips n t) : t.lines = s.lines := by rw [h.frame]

theorem State.MovesTrips.modes (h : s.MovesTrips n t) : t.modes = s.modes := by rw [h.frame]

end

theorem State.openFile_moves (i : SlotId) (u : UnitId) (t : Stamp) : s.MovesTrips 0 (s.openFile i u t) :=
  ⟨State.TellsFew.none rfl rfl, rfl⟩

theorem State.raiseAll_movesTrips (k : Notice) : s.MovesTrips 0 (s.raiseAll k) :=
  ⟨(s.raiseAll_tells k).few le_rfl, rfl⟩

/-- Opening a file writes no record, but may raise FILE (R114, R115). -/
theorem State.openSomeFile_moves (u : UnitId) (t : Stamp) : s.MovesTrips 0 (s.openSomeFile u t).1 := by
  unfold State.openSomeFile
  split
  · exact State.openFile_moves _ u t
  · split
    · exact (State.openFile_moves _ u t).trans (State.raiseAll_movesTrips .file)
    · exact State.MovesTrips.refl s 0

theorem State.tripNoted_moves (u : UnitId) (t : Stamp) (datum : BitVec 16) (test : Bool) :
    s.MovesTrips 1 (s.noteUnit .trip u t datum test) := by
  obtain ⟨r, p, e⟩ := s.noteUnit_frame .trip u t datum test
  have told : s.Tells (s.noteUnit .trip u t datum test) [_] [] := s.append_tells _
  exact ⟨told.few le_rfl, by rw [e]⟩

/-- A trip writes one record (R117). -/
theorem State.trip_moves (u : UnitId) (t : Stamp) : s.MovesTrips 1 (s.trip u t) := by
  unfold State.trip
  dsimp only
  have opened := s.openSomeFile_moves u t
  generalize s.openSomeFile u t = o at opened
  have noted := o.1.tripNoted_moves u t (slotDatum o.2) (s.inTest u)
  generalize o.1.noteUnit .trip u t (slotDatum o.2) (s.inTest u) = v at noted
  have counted : (v.raiseAll .trip).MovesTrips 0 ((v.raiseAll .trip).countTrip u t (s.inTest u)) := by
    obtain ⟨y, x, j, e⟩ := (v.raiseAll .trip).countTrip_frame u t (s.inTest u)
    rw [e]
    exact ⟨State.TellsFew.none rfl rfl, rfl⟩
  have told := ((opened.trans noted).trans (State.raiseAll_movesTrips .trip)).trans counted
  generalize (v.raiseAll .trip).countTrip u t (s.inTest u) = c at told
  split
  · obtain ⟨j, e⟩ := c.requestCheckpoint_frame .trip
    have asked : c.MovesTrips 0 (c.requestCheckpoint .trip) := by
      rw [e]
      exact ⟨State.TellsFew.none rfl rfl, rfl⟩
    exact told.trans asked
  · exact told

/-- The Trip File Table writes at most the record of a trip. -/
theorem State.tripsTake_moves (r : Role) (c : Change) : s.MovesTrips 1 (s.tripsTake r c) := by
  have slot (i : SlotId) (f : Option TripFile) : s.MovesTrips 1 (s.setSlot i f) :=
    ⟨State.TellsFew.none (n := 1) rfl rfl, rfl⟩
  unfold State.tripsTake
  dsimp only
  split
  · exact s.trip_moves _ _
  · exact slot _ _
  · exact slot _ _
  · exact slot _ _
  · exact State.MovesTrips.refl s 1

end

/-- What the table makes of a TRIP_CAUSE change depends on its own slots alone. -/
theorem State.tripsTake_tripCause (c : Change) : ∃ x : Trips,
    s.tripsTake .tripCause c = s.withTrips x
      ∧ ∀ v : State, v.trips = s.trips → v.tripsTake .tripCause c = v.withTrips x := by
  have slots {v : State} (h : v.trips = s.trips) (u : UnitId) : v.openSlot u = s.openSlot u := by
    unfold State.openSlot State.file
    rw [h]
  have kept {v : State} (h : v.trips = s.trips) : v = v.withTrips s.trips := by
    rw [← h]
    rfl
  by_cases idle : c.operate = false ∨ s.openSlot (LineId.unit c.line) = none
  · have same {v : State} (h : v.trips = s.trips) : v.tripsTake .tripCause c = v := by
      rcases idle with release | closed
      · exact State.tripsTake_of_idle (.inl ⟨release, .inr rfl⟩)
      · exact State.tripsTake_of_noFile (by decide) ((slots h _).trans closed)
    exact ⟨s.trips, (same rfl).trans (kept rfl), fun v h => (same h).trans (kept h)⟩
  · push Not at idle
    obtain ⟨operate, opened⟩ := idle
    obtain ⟨i, slot⟩ := Option.ne_none_iff_exists'.1 opened
    have taken {v : State} (h : v.trips = s.trips) : v.tripsTake .tripCause c
        = v.withTrips { s.trips with slots := s.trips.slots.set i ((s.file i).map fun f => f.offer c) } := by
      have on : c.operate = true := by simpa using operate
      have here : v.openSlot (LineId.unit c.line) = some i := (slots h _).trans slot
      have file : v.file i = s.file i := by rw [State.file, h, State.file]
      simp only [State.tripsTake, on, here, State.modFile, file, State.setSlot, h]
      rfl
    exact ⟨_, taken rfl, fun v h => taken h⟩

/-! ### An accepted change handed on (R65 to R67) -/

section
variable (l : LineId) (active : Bool) (t : Stamp)

/-- The state in which an accepted change has its record, ahead of its hand-offs (R65). -/
def State.noted : State := s.noteLevel l active t (LineId.scanned l) false

theorem State.noted_tells :
    s.Tells (s.noted l active t) [s.levelEntry l active t (LineId.scanned l) false] [] :=
  s.noteLevel_tells l active t _ _

theorem State.noted_lines : (s.noted l active t).lines = (s.setLine l { s.line l with lastRecorded := active }).lines :=
  s.noteLevel_lines l active t _ _

theorem State.noted_line : (s.noted l active t).line l = { s.line l with lastRecorded := active } :=
  (State.line_of_lines (s.noted_lines l active t)).1

theorem State.noted_frame : ∃ (x : Lines) (r : Ring) (p : PerPort PortState),
    s.noted l active t = { s with lines := x, ring := r, ports := p } :=
  s.noteLevel_frame l active t _ _

theorem State.noted_handsOn : s.HandsOn 1 (s.noted l active t) := by
  obtain ⟨x, r, p, e⟩ := s.noted_frame l active t
  exact ⟨(s.noted_tells l active t).few le_rfl, by rw [e]⟩

/-- The state in which the Trip File Table has taken an accepted change (R66). -/
def State.offered : State := (s.noted l active t).tripsTake (s.line l).role ⟨l, active, t⟩

theorem State.offered_handsOn : (s.noted l active t).HandsOn 1 (s.offered l active t) :=
  (State.tripsTake_moves _ _).handsOn

theorem State.offered_lines : (s.offered l active t).lines = (s.noted l active t).lines :=
  (State.tripsTake_moves _ _).lines

theorem State.offered_line : (s.offered l active t).line l = { s.line l with lastRecorded := active } :=
  (State.line_congr (s.offered_lines l active t) l).trans (s.noted_line l active t)

variable {l} in
/-- A line with a mode level is handed to the Mode Detector last (R66). -/
theorem State.passOn_of_level {k : LevelName} (level : levelOfRole (s.line l).role = some k) :
    s.passOn l active t = (s.offered l active t).handLevel (LineId.unit l) k active t := by
  have role : levelOfRole ((s.offered l active t).line l).role = some k := by
    rw [s.offered_line]
    exact level
  change (s.offered l active t).handModeLevel l active t = _
  rw [State.handModeLevel, role]

variable {l} in
theorem State.passOn_of_no_level (none_named : levelOfRole (s.line l).role = none) :
    s.passOn l active t = s.offered l active t := by
  have role : levelOfRole ((s.offered l active t).line l).role = none := by
    rw [s.offered_line]
    exact none_named
  change (s.offered l active t).handModeLevel l active t = _
  rw [State.handModeLevel, role]

/-- A mode level handed on writes at most one record, and leaves the lines alone. -/
theorem State.handModeLevel_handsOn :
    s.HandsOn 1 (s.handModeLevel l active t) ∧ (s.handModeLevel l active t).lines = s.lines := by
  unfold State.handModeLevel
  split
  · exact ⟨(s.handLevel_moves _ _ active t).handsOn, (s.handLevel_moves _ _ active t).lines⟩
  · exact ⟨State.HandsOn.refl s 1, rfl⟩

theorem State.passOn_handsOn : (s.noted l active t).HandsOn 2 (s.passOn l active t)
    ∧ (s.passOn l active t).lines = (s.noted l active t).lines := by
  obtain ⟨handed, lines⟩ := (s.offered l active t).handModeLevel_handsOn l active t
  exact ⟨(s.offered_handsOn l active t).trans handed, lines.trans (s.offered_lines l active t)⟩

/-- What is handed on leaves the unit's test alone. -/
theorem State.passOn_inTest : (s.passOn l active t).inTest (LineId.unit l) = s.inTest (LineId.unit l) := by
  obtain ⟨x, r, p, e⟩ := s.noted_frame l active t
  have offered : (s.offered l active t).modes = s.modes := by
    rw [State.offered, (State.tripsTake_moves _ _).modes, e]
  cases level : levelOfRole (s.line l).role with
  | none => rw [s.passOn_of_no_level active t level, State.inTest, offered, State.inTest]
  | some k =>
    have test := ((s.offered l active t).handLevel_moves (LineId.unit l) k active t).test
    rw [← s.passOn_of_level active t level] at test
    exact congrArg Option.isSome (test.trans (congrArg (fun m => (m.get (LineId.unit l)).test) offered))

theorem State.passOn_line : (s.passOn l active t).line l = { s.line l with lastRecorded := active } :=
  (State.line_congr (s.passOn_handsOn l active t).2 l).trans (s.noted_line l active t)

/-! ### Chatter (R70 to R72) -/

/-- The state in which a line that becomes CHATTERING is held, ahead of the hand-off of the held level (R71). -/
def State.held (base : Bool) : State :=
  (s.noteChatter l .chatterOn t 0 true).setLine l { (s.noteChatter l .chatterOn t 0 true).line l with
    chatter := .chattering base s.tb.runClock, suppressed := 0 }

theorem State.held_tells (base : Bool) :
    s.Tells (s.held l t base) [s.chatterEntry l .chatterOn t 0 true] [] :=
  (s.noteChatter_tells l t .chatterOn 0 true).then_silence rfl rfl

theorem State.held_frame (base : Bool) : ∃ (r : Ring) (p : PerPort PortState),
    s.held l t base = { s.setLine l { s.line l with
      chatter := .chattering base s.tb.runClock, suppressed := 0 } with ring := r, ports := p } := by
  obtain ⟨r, p, e⟩ := s.noteChatter_frame l t .chatterOn 0 true
  unfold State.held
  rw [e]
  exact ⟨r, p, rfl⟩

theorem State.held_lines (base : Bool) : (s.held l t base).lines
    = (s.setLine l { s.line l with chatter := .chattering base s.tb.runClock, suppressed := 0 }).lines := by
  obtain ⟨r, p, e⟩ := s.held_frame l t base
  rw [e]

theorem State.held_handsOn (base : Bool) : s.HandsOn 1 (s.held l t base) := by
  obtain ⟨r, p, e⟩ := s.held_frame l t base
  exact ⟨(s.held_tells l t base).few le_rfl, by rw [e]; rfl⟩

/-- The held level is handed on where it differs from the filtered one (R71). -/
theorem State.beginChatter_eq (base : Bool) : s.beginChatter l base t
    = if base = (s.line l).filtered then s.held l t base else (s.held l t base).handModeLevel l base t := by
  have filtered : ((s.held l t base).line l).filtered = (s.line l).filtered := by
    rw [(State.line_of_lines (s.held_lines l t base)).1]
  rw [← filtered]
  rfl

theorem State.beginChatter_handsOn (base : Bool) :
    s.HandsOn 2 (s.beginChatter l base t) ∧ (s.beginChatter l base t).lines = (s.held l t base).lines := by
  rw [s.beginChatter_eq]
  split
  · exact ⟨(s.held_handsOn l t base).mono (by omega), rfl⟩
  · obtain ⟨handed, lines⟩ := (s.held l t base).handModeLevel_handsOn l base t
    exact ⟨(s.held_handsOn l t base).trans handed, lines⟩

end

section
variable {l : LineId} {active : Bool} {t : Stamp} {start n : Nat} {base : Bool}

theorem State.countChatter_of_below
    (count : countChange s.chatterSpan s.tb.runClock (!active) (s.line l).chatter = .counting start base n)
    (below : n < s.settings.working.chatterLimit) :
    s.countChatter l active t = s.setLine l { s.line l with chatter := .counting start base n } := by
  unfold State.countChatter
  dsimp only
  rw [count]
  exact if_neg (by omega)

theorem State.countChatter_of_limit
    (count : countChange s.chatterSpan s.tb.runClock (!active) (s.line l).chatter = .counting start base n)
    (limit : s.settings.working.chatterLimit ≤ n) :
    s.countChatter l active t
      = (s.setLine l { s.line l with chatter := .counting start base n }).beginChatter l base t := by
  unfold State.countChatter
  dsimp only
  rw [count]
  exact if_pos limit

/-- Counting keeps all of a line but its chatter state and its suppressed count. -/
def Line.SameButChatter (x y : Line) : Prop :=
  y = { x with chatter := y.chatter, suppressed := y.suppressed, lastRecorded := y.lastRecorded }

theorem State.countChatter_handsOn : s.HandsOn 2 (s.countChatter l active t)
    ∧ ∃ y, (s.line l).SameButChatter y ∧ (s.countChatter l active t).lines = (s.setLine l y).lines := by
  unfold State.countChatter
  dsimp only
  generalize countChange _ _ _ _ = c
  have counted : s.HandsOn 2 (s.setLine l { s.line l with chatter := c }) :=
    (State.HandsOn.setLine s l _).mono (by omega)
  have plain : ∃ y, (s.line l).SameButChatter y
      ∧ (s.setLine l { s.line l with chatter := c }).lines = (s.setLine l y).lines :=
    ⟨{ s.line l with chatter := c }, rfl, rfl⟩
  split
  · split
    · rename_i start base n limit
      obtain ⟨begun, lines⟩ := State.beginChatter_handsOn (s.setLine l { s.line l with
        chatter := .counting start base n }) l t base
      refine ⟨((State.HandsOn.setLine s l _).trans begun).mono (by omega), { s.line l with
        chatter := .chattering base s.tb.runClock, suppressed := 0 }, rfl, ?_⟩
      rw [lines, State.held_lines, State.setLine_setLine, State.line_setLine_same]
      rfl
    · exact ⟨counted, plain⟩
  · exact ⟨counted, plain⟩

/-! ### An accepted change as a whole (R65 to R67, R70 to R72) -/

theorem Line.SameButChatter.trans {x y z : Line} (h : x.SameButChatter y) (g : y.SameButChatter z) :
    x.SameButChatter z := by
  unfold Line.SameButChatter at *
  rw [g, h]

theorem State.acceptChange_of_spare (role : (s.line l).role = .spare) : s.acceptChange l active t = s := if_pos role

theorem State.acceptChange_of_chattering {held : Bool} {since : Nat} (role : (s.line l).role ≠ .spare)
    (chattering : (s.line l).chatter = .chattering held since) :
    s.acceptChange l active t = s.setLine l ((s.line l).suppress held s.tb.runClock) := by
  unfold State.acceptChange
  dsimp only
  rw [if_neg role, chattering]

theorem State.acceptChange_of_steady (role : (s.line l).role ≠ .spare)
    (steady : ∀ held since, (s.line l).chatter ≠ .chattering held since) :
    s.acceptChange l active t = if s.chatterRuns l then (s.passOn l active t).countChatter l active t
      else s.passOn l active t := by
  unfold State.acceptChange
  dsimp only
  rw [if_neg role]
  split
  · rename_i held since chattering
    exact absurd chattering (steady held since)
  · rfl

theorem State.acceptChange_of_scanned (scanned : 2 ≤ l.val % 8) (role : (s.line l).role ≠ .spare)
    (steady : ∀ held since, (s.line l).chatter ≠ .chattering held since) :
    s.acceptChange l active t = (s.passOn l active t).countChatter l active t := by
  rw [s.acceptChange_of_steady role steady]
  refine if_pos ?_
  rw [State.chatterRuns, decide_eq_true role, Bool.and_true]
  exact decide_eq_true scanned

theorem State.acceptChange_of_fast (fast : l.val % 8 < 2) (role : (s.line l).role ≠ .spare)
    (steady : ∀ held since, (s.line l).chatter ≠ .chattering held since) :
    s.acceptChange l active t = s.passOn l active t := by
  rw [s.acceptChange_of_steady role steady]
  refine if_neg ?_
  rw [State.chatterRuns, LineId.scanned, LineId.index, decide_eq_false (by omega)]
  simp

/-- An accepted change writes at most five records, and of the lines moves its own entry alone, of which role, pin,
filtered level and pending change stand. -/
theorem State.acceptChange_handsOn (l : LineId) (active : Bool) (t : Stamp) : s.HandsOn 5 (s.acceptChange l active t)
    ∧ ∃ y, (s.line l).SameButChatter y ∧ (s.acceptChange l active t).lines = (s.setLine l y).lines := by
  have itself : (s.line l).SameButChatter (s.line l) := rfl
  by_cases role : (s.line l).role = .spare
  · rw [s.acceptChange_of_spare role]
    refine ⟨State.HandsOn.refl s 5, s.line l, itself, ?_⟩
    rw [State.setLine_lines, State.line, Table.set_get]
  by_cases chattering : ∃ held since, (s.line l).chatter = .chattering held since
  · obtain ⟨held, since, chattering⟩ := chattering
    rw [s.acceptChange_of_chattering role chattering]
    exact ⟨(State.HandsOn.setLine s l _).mono (by omega), (s.line l).suppress held s.tb.runClock, rfl, rfl⟩
  · push Not at chattering
    rw [s.acceptChange_of_steady role chattering]
    obtain ⟨handed, lines⟩ := s.passOn_handsOn l active t
    have passed := (s.noted_handsOn l active t).trans handed
    have noted := lines.trans (s.noted_lines l active t)
    split
    · obtain ⟨counted, y, same, lines'⟩ := (s.passOn l active t).countChatter_handsOn (l := l) (active := active) (t := t)
      refine ⟨passed.trans counted, y, ?_, ?_⟩
      · rw [s.passOn_line] at same
        exact Line.SameButChatter.trans (y := { s.line l with lastRecorded := active }) rfl same
      · rw [lines', State.setLine_lines, noted, State.setLine_lines, State.setLine_lines]
        dsimp only
        rw [Table.set_set]
    · exact ⟨passed.mono (by omega), { s.line l with lastRecorded := active }, rfl, noted⟩

end

end Sys2Proof.Machine
end

section
/-! The fast lines: edges and the end of their debounce (R61, R62, R65 to R67): O20. -/

namespace Sys2Proof.Machine

variable (s : State)

/-! ### Edges (R61, R62) -/

theorem State.scanning_of_running {s : State} (running : s.phase = .running) (taken : s.lines.awaiting = false) :
    s.scanning = true := by
  rw [State.scanning, running, taken]
  rfl

/-- An edge on a line that is watched keeps the level and moves the pending change. -/
theorem State.fastEdge_of_edge {l : LineId} {high : Bool} (watched : s.scanning = true)
    (edge : (s.line l).raw = !high) : s.fastEdge l high = s.setLine l { s.line l with
      raw := high, pend := (s.line l).edge s.reading ((s.line l).logical high) } := by
  have moved : (s.line l).raw ≠ high := by
    rw [edge]
    cases high <;> decide
  unfold State.fastEdge
  dsimp only
  rw [if_neg moved, if_pos watched]

theorem State.fastEdge_opensOrFollows : Claims.FastEdgeOpensOrFollowsPendingChange := by
  intro s u f high l running taken edge level
  have run : exec (.fastLineEdge u f high) s = .next (s.fastEdge l high) := rfl
  rw [run, s.fastEdge_of_edge (State.scanning_of_running running taken) edge]
  refine ⟨fun stable away => ?_, fun c pending => ?_⟩
  · have opens : (s.line l).edge s.reading level = some ⟨s.reading, true, s.reading.runClock, 1⟩ := by
      rw [Line.edge, stable]
      exact if_neg away
    exact congrArg (fun c => Host.Outcome.next (s.setLine l { s.line l with raw := high, pend := c })) opens
  · rw [Line.edge, pending]
    rfl

/-! ### The end of the debounce (R62) -/

theorem LineId.unit_fastLine (u : UnitId) (f : FastLine) : LineId.unit (fastLine u f) = u := by
  cases f <;> exact LineId.unit_lineOf u _

theorem LineId.index_fastLine (u : UnitId) (f : FastLine) : (fastLine u f).val % 8 < 2 := by
  cases f
  · exact (LineId.index_lineOf u 0).trans_lt (by decide)
  · exact (LineId.index_lineOf u 1).trans_lt (by decide)

theorem State.fastDebounceDue_eq {l : LineId} {c : PendingChange} (pending : (s.line l).pend = some c) :
    s.fastDebounceDue l = (s.scanning
      && Decidable.decide (c.since + s.settings.atCycle.fastDebounce * 1000 ≤ s.tb.runClock)) := by
  rw [State.fastDebounceDue, pending]

theorem State.endFastDebounce_of_pending {l : LineId} {c : PendingChange} (pending : (s.line l).pend = some c) :
    s.endFastDebounce l = if s.fastDebounceDue l then s.resolve l c else s := by
  rw [State.endFastDebounce, pending]

theorem State.endFastDebounce_of_due {l : LineId} {c : PendingChange} (pending : (s.line l).pend = some c)
    (watched : s.scanning = true) (due : c.since + s.settings.atCycle.fastDebounce * 1000 ≤ s.tb.runClock) :
    s.endFastDebounce l = s.resolve l c := by
  rw [s.endFastDebounce_of_pending pending, s.fastDebounceDue_eq pending, watched, decide_eq_true due]
  rfl

theorem State.endFastDebounce_of_early {l : LineId} {c : PendingChange} (pending : (s.line l).pend = some c)
    (early : s.tb.runClock < c.since + s.settings.atCycle.fastDebounce * 1000) : s.endFastDebounce l = s := by
  rw [s.endFastDebounce_of_pending pending, s.fastDebounceDue_eq pending, decide_eq_false (by omega), Bool.and_false]
  rfl

/-- A line whose pending change is accepted, ahead of the hand-offs (R62, R64). -/
def State.turned (l : LineId) : State :=
  s.setLine l { s.line l with filtered := !(s.line l).filtered, pend := none }

theorem State.turned_line (l : LineId) :
    (s.turned l).line l = { s.line l with filtered := !(s.line l).filtered, pend := none } :=
  s.line_setLine_same l _

theorem State.resolve_accepted {l : LineId} {c : PendingChange} (away : c.atPending = true) :
    s.resolve l c = (s.turned l).acceptChange l (!(s.line l).filtered) c.stamp := if_pos away

theorem State.resolve_cancelled {l : LineId} {c : PendingChange} (back : c.atPending = false) :
    s.resolve l c = s.setLine l { s.line l with pend := none } := by
  unfold State.resolve
  dsimp only
  rw [if_neg (by simp [back])]

/-- A release of a MASTER_TRIP line goes to the record alone (R67). -/
theorem State.passOn_masterTripRelease {l : LineId} (t : Stamp) (role : (s.line l).role = .masterTrip) :
    s.passOn l false t = s.noted l false t := by
  rw [s.passOn_of_no_level false t (by rw [role]; rfl), State.offered, role]
  exact State.tripsTake_of_idle (.inl ⟨rfl, .inl rfl⟩)

/-- The record of a fast line's accepted change carries neither SCANNED nor DERIVED (R65). -/
theorem State.turned_levelEntry (u : UnitId) (f : FastLine) (t : Stamp) :
    (s.turned (fastLine u f)).levelEntry (fastLine u f) (!(s.line (fastLine u f)).filtered) t
        (LineId.scanned (fastLine u f)) false
      = { kind := if (s.line (fastLine u f)).filtered then .lineOff else .lineOn
          field := BitVec.ofNat 8 (fastLine u f).val, stamp := t, datum := 0
          test := (s.modeOf u).test.isSome } := by
  have scanned : LineId.scanned (fastLine u f) = false :=
    decide_eq_false (Nat.not_le.2 (LineId.index_fastLine u f))
  have test : (s.turned (fastLine u f)).inTest (LineId.unit (fastLine u f)) = (s.modeOf u).test.isSome := by
    rw [LineId.unit_fastLine]
    rfl
  rw [State.levelEntry, scanned, test]
  cases (s.line (fastLine u f)).filtered <;> rfl

theorem State.fastDebounce_acceptsOrCancels : Claims.FastDebounceAcceptsOrCancels := by
  intro s u f c l pending
  have passed (role : (s.line l).role ≠ .spare) (quiet : (s.line l).chatter = .quiet) (away : c.atPending = true) :
      s.resolve l c = (s.turned l).passOn l (!(s.line l).filtered) c.stamp := by
    have line := s.turned_line l
    rw [s.resolve_accepted away]
    refine State.acceptChange_of_fast _ (LineId.index_fastLine u f) (by rw [line]; exact role) fun held since => ?_
    rw [line, quiet]
    exact Chatter.noConfusion
  refine ⟨fun running taken due => ⟨s.resolve l c, congrArg Host.Outcome.next (s.endFastDebounce_of_due pending
    (State.scanning_of_running running taken) due), s.resolve_cancelled, s.resolve_accepted,
    fun away quiet on role => ?_, fun away quiet on role active => ?_⟩,
    fun early => congrArg Host.Outcome.next (s.endFastDebounce_of_early pending early)⟩
  · have watched : (s.line l).role ≠ .spare := by
      rcases role with role | role <;> rw [role] <;> decide
    rw [passed watched quiet away]
    obtain ⟨handed, lines⟩ := (s.turned l).passOn_handsOn l (!(s.line l).filtered) c.stamp
    have line : ((s.turned l).passOn l (!(s.line l).filtered) c.stamp).lines = (s.setLine l { s.line l with
        filtered := !(s.line l).filtered, pend := none, lastRecorded := !(s.line l).filtered }).lines := by
      rw [lines, State.noted_lines, State.turned_line, State.turned, State.setLine_setLine]
    obtain ⟨own, others⟩ := State.line_of_lines line
    refine ⟨by rw [own], by rw [own], by rw [own], others, ?_⟩
    have held := ((s.turned l).noted_tells l (!(s.line l).filtered) c.stamp).holds_then_few handed.few on (by simp)
    rw [s.turned_levelEntry u f] at held
    exact held
  · have release : (!(s.line l).filtered) = false := by rw [active]; rfl
    have turned_role : ((s.turned l).line l).role = .masterTrip := by rw [s.turned_line, role]
    have record := (s.turned l).passOn_masterTripRelease c.stamp turned_role
    rw [passed (by rw [role]; decide) quiet away, release, record]
    obtain ⟨x, r, p, e⟩ := (s.turned l).noted_frame l false c.stamp
    rw [← show _ = s.latched _ from ((s.turned l).noted_tells l false c.stamp).ports, e]
    rfl

/-- Settles O20: an edge opens or follows the pending change, and the end of the debounce resolves it. -/
theorem fastLinesAreDebounced : Obligations.FastLinesAreDebounced :=
  ⟨State.fastEdge_opensOrFollows, State.fastDebounce_acceptsOrCancels⟩

end Sys2Proof.Machine
end

section
/-! Chatter: the window of changes, the change handed on, the line that is held and its release (R65 to R67, R70 to
R73): O22. -/

namespace Sys2Proof.Machine

variable (s : State)

/-! ### The window (R70) -/

theorem State.chatterSpan_eq : s.chatterSpan = s.settings.atCycle.chatterWindow * 1000000000 := by
  rw [State.chatterSpan, Config.second_eq]

section
variable {s} {l : LineId} {start count since : Nat} {base held : Bool}

theorem State.chatterWindowDue_iff (counting : (s.line l).chatter = .counting start base count) :
    s.chatterWindowDue l = true
      ↔ start + s.settings.atCycle.chatterWindow * 1000000000 < s.tb.runClock := by
  rw [State.chatterWindowDue, counting]
  dsimp only
  rw [decide_eq_true_iff, s.chatterSpan_eq]

theorem State.chatterOffDue_iff (chattering : (s.line l).chatter = .chattering held since) :
    s.chatterOffDue l = true
      ↔ since + s.settings.atCycle.chatterWindow * 1000000000 ≤ s.tb.runClock := by
  rw [State.chatterOffDue, chattering]
  dsimp only
  rw [decide_eq_true_iff, s.chatterSpan_eq]

end

theorem State.chatterWindow_closes : Claims.ChatterWindowCloses := by
  intro s l start count base counting
  refine ⟨fun passed => congrArg Host.Outcome.next (if_pos ((State.chatterWindowDue_iff counting).2 passed)),
    fun inside => congrArg Host.Outcome.next (if_neg fun due => ?_)⟩
  exact absurd ((State.chatterWindowDue_iff counting).1 due) (by omega)

section
variable {span now start n : Nat} {before base : Bool}

theorem countChange_of_quiet : countChange span now before .quiet = .counting now before 1 := rfl

theorem countChange_of_open (inside : now ≤ start + span) :
    countChange span now before (.counting start base n) = .counting start base (n + 1) :=
  if_neg (by omega)

theorem countChange_of_ended (passed : start + span < now) :
    countChange span now before (.counting start base n) = .counting now before 1 :=
  if_pos passed

end

/-! ### An accepted change handed on and counted (R65 to R67, R70) -/

/-- Once handed on, a line keeps the chatter state it had, and the clock, the window and the limit stand. -/
theorem State.passOn_counts (l : LineId) (active : Bool) (t : Stamp) :
    ((s.passOn l active t).line l).chatter = (s.line l).chatter
      ∧ (s.passOn l active t).tb = s.tb ∧ (s.passOn l active t).settings = s.settings := by
  have passed := (s.noted_handsOn l active t).trans (s.passOn_handsOn l active t).1
  refine ⟨by rw [s.passOn_line], by rw [passed.frame], by rw [passed.frame]⟩

section
variable {s} {l : LineId} {active : Bool} {t : Stamp} {start n : Nat} {base : Bool}

/-- The chatter state with an accepted change counted (R70). -/
def State.counted (s : State) (l : LineId) (active : Bool) : Chatter :=
  countChange s.chatterSpan s.tb.runClock (!active) (s.line l).chatter

theorem State.passOn_counted : (s.passOn l active t).counted l active = s.counted l active := by
  obtain ⟨chatter, tb, settings⟩ := s.passOn_counts l active t
  rw [State.counted, State.chatterSpan, chatter, tb, settings]
  rfl

/-- A change below the limit is handed on and counted. -/
theorem State.acceptChange_of_below (scanned : 2 ≤ l.val % 8) (role : (s.line l).role ≠ .spare)
    (steady : ∀ held since, (s.line l).chatter ≠ .chattering held since)
    (count : s.counted l active = .counting start base n) (below : n < s.settings.working.chatterLimit) :
    s.acceptChange l active t = (s.passOn l active t).setLine l { (s.passOn l active t).line l with
      chatter := .counting start base n } := by
  rw [s.acceptChange_of_scanned scanned role steady]
  refine State.countChatter_of_below _ (State.passOn_counted.trans count) ?_
  rw [(s.passOn_counts l active t).2.2]
  exact below

/-- A change that brings the count to the limit is handed on, and the line is held (R71). -/
theorem State.acceptChange_of_limit (scanned : 2 ≤ l.val % 8) (role : (s.line l).role ≠ .spare)
    (steady : ∀ held since, (s.line l).chatter ≠ .chattering held since)
    (count : s.counted l active = .counting start base n) (limit : s.settings.working.chatterLimit ≤ n) :
    s.acceptChange l active t = ((s.passOn l active t).setLine l { (s.passOn l active t).line l with
      chatter := .counting start base n }).beginChatter l base t := by
  rw [s.acceptChange_of_scanned scanned role steady]
  refine State.countChatter_of_limit _ (State.passOn_counted.trans count) ?_
  rw [(s.passOn_counts l active t).2.2]
  exact limit

end

/-- The Trip File Table has no use for a change of a line outside its roles (R66, R67). -/
theorem State.offered_of_idle {s : State} {l : LineId} (active : Bool) (t : Stamp)
    (role : (s.line l).role ∈ [Role.running, .pump, .condenser, .event, .spare]) :
    s.offered l active t = s.noted l active t :=
  State.tripsTake_of_idle (.inr (.inr role))

theorem State.acceptedChange_isHandedOn : Claims.AcceptedChangeIsHandedOn := by
  intro s l active x u change noted handed window opened t counted
  have silent {k : LevelName} (level : levelOfRole (s.line l).role = some k)
      (role : (s.line l).role ∈ [Role.running, .pump, .condenser, .event, .spare]) :
      s.passOn l active x = noted.handLevel u k active x := by
    rw [s.passOn_of_level active x level, State.offered_of_idle active x role]
    rfl
  have passed (watched : (s.line l).role ≠ .spare) : s.passOn l active x = handed := by
    cases role : (s.line l).role with
    | masterTrip | tripCause =>
      simp only [handed, role]
      rw [s.passOn_of_no_level active x (by rw [role]; rfl), State.offered, role]
      rfl
    | breaker =>
      simp only [handed, role]
      rw [s.passOn_of_level (k := .breaker) active x (by rw [role]; rfl), State.offered, role]
      rfl
    | running | pump | condenser =>
      simp only [handed, role]
      exact silent (by rw [role]; rfl) (by rw [role]; decide)
    | event =>
      simp only [handed, role]
      rw [s.passOn_of_no_level active x (by rw [role]; rfl), State.offered_of_idle active x (by rw [role]; decide)]
      rfl
    | spare => exact absurd role watched
  have spare : (s.line l).role = .spare → t = s := s.acceptChange_of_spare
  have below {start n : Nat} {base : Bool} (scanned : 2 ≤ l.val % 8) (watched : (s.line l).role ≠ .spare)
      (steady : ∀ held since, (s.line l).chatter ≠ .chattering held since)
      (count : s.counted l active = .counting start base n) (low : n < s.settings.working.chatterLimit) :
      counted (.counting start base n) := by
    have whole := State.acceptChange_of_below (t := x) scanned watched steady count low
    rw [passed watched] at whole
    exact whole
  have span : s.chatterSpan = window := s.chatterSpan_eq
  refine ⟨spare, fun fast steady => ?_, fun scanned watched => ⟨fun quiet low => ?_, fun start base count counting =>
    ⟨fun inside low => ?_, fun ended low => ?_⟩⟩⟩
  · by_cases watched : (s.line l).role = .spare
    · rw [spare watched]
      simp only [handed, watched]
    · exact (s.acceptChange_of_fast fast watched steady).trans (passed watched)
  · exact below scanned watched (by simp [quiet]) (by rw [State.counted, quiet, countChange_of_quiet]) low
  · exact below scanned watched (by simp [counting])
      (by rw [State.counted, counting, countChange_of_open (by omega)]) low
  · exact below scanned watched (by simp [counting])
      (by rw [State.counted, counting, countChange_of_ended (by omega)]) low

/-! ### A line of a scanned role counted (R65, R70) -/

theorem LineId.scanned_of_index {l : LineId} (scanned : 2 ≤ l.val % 8) : LineId.scanned l = true :=
  decide_eq_true scanned

/-- The record of a scanned line's accepted change (R65). -/
theorem State.levelEntry_of_scanned {l : LineId} (scanned : 2 ≤ l.val % 8) (active : Bool) (t : Stamp) :
    s.levelEntry l active t (LineId.scanned l) false
      = { kind := if active then .lineOn else .lineOff
          field := BitVec.ofNat 8 l.val, stamp := t, datum := 0
          test := (s.modeOf ⟨l.val / 8, by omega⟩).test.isSome, scanned := true } := by
  rw [State.levelEntry, LineId.scanned_of_index scanned]
  rfl

/-- An EVENT line hands its change to the record alone (R67). -/
theorem State.passOn_of_event {s : State} {l : LineId} (role : (s.line l).role = .event) (active : Bool) (t : Stamp) :
    s.passOn l active t = s.noted l active t := by
  rw [s.passOn_of_no_level active t (by rw [role]; rfl), State.offered_of_idle active t (by rw [role]; decide)]

theorem State.acceptedChange_isCounted : Claims.AcceptedChangeIsCounted := by
  intro s l active x scanned role on low window opened t counted
  have watched : (s.line l).role ≠ .spare := by rw [role]; decide
  have below {start n : Nat} {base : Bool} (steady : ∀ held since, (s.line l).chatter ≠ .chattering held since)
      (count : s.counted l active = .counting start base n) (low : n < s.settings.working.chatterLimit) :
      counted (.counting start base n) := by
    have whole := State.acceptChange_of_below (t := x) scanned watched steady count low
    rw [State.passOn_of_event role, State.noted_line] at whole
    have lines : t.lines = (s.setLine l { s.line l with
        lastRecorded := active, chatter := .counting start base n }).lines := by
      rw [show t = _ from whole, State.setLine_lines, State.noted_lines, State.setLine_lines, State.setLine_lines]
      dsimp only
      rw [Table.set_set]
    have told : s.Tells t [s.levelEntry l active x (LineId.scanned l) false] [] := by
      rw [show t = _ from whole]
      exact (s.noted_tells l active x).then_silence rfl rfl
    obtain ⟨own, others⟩ := State.line_of_lines lines
    refine ⟨own, ?_, others, ?_⟩
    · rw [← s.levelEntry_of_scanned scanned]
      exact told.holds_first on (by simp)
    · obtain ⟨y, r, p, e⟩ := s.noted_frame l active x
      rw [← told.ports, show t = _ from whole, e]
      rfl
  have span : s.chatterSpan = window := s.chatterSpan_eq
  refine ⟨fun quiet => ?_, fun start base count counting => ⟨fun inside low => ?_, fun ended => ?_⟩⟩
  · exact below (by simp [quiet]) (by rw [State.counted, quiet, countChange_of_quiet]) low
  · exact below (by simp [counting]) (by rw [State.counted, counting, countChange_of_open (by omega)]) low
  · exact below (by simp [counting]) (by rw [State.counted, counting, countChange_of_ended (by omega)]) low

/-! ### A line held (R71, R72) -/

section
variable {s : State} {l : LineId} {active : Bool} {t : Stamp} {start count : Nat} {base : Bool}

/-- The state in which a change that brings the count to the limit has been handed on and counted. -/
def State.full (s : State) (l : LineId) (active : Bool) (t : Stamp) (c : Chatter) : State :=
  (s.passOn l active t).setLine l { (s.passOn l active t).line l with chatter := c }

theorem State.full_lines (c : Chatter) : (s.full l active t c).lines
    = (s.setLine l { s.line l with chatter := c, lastRecorded := active }).lines := by
  rw [State.full, s.passOn_line, State.setLine_lines, (s.passOn_handsOn l active t).2, State.noted_lines,
    State.setLine_lines, State.setLine_lines]
  dsimp only
  rw [Table.set_set]

/-- The last change of a window that fills it: handed on, counted, and the line held (R71). -/
theorem State.acceptChange_of_full (scanned : 2 ≤ l.val % 8) (role : (s.line l).role ≠ .spare)
    (counting : (s.line l).chatter = .counting start base count)
    (inside : s.tb.runClock ≤ start + s.settings.atCycle.chatterWindow * 1000000000)
    (limit : s.settings.working.chatterLimit ≤ count + 1) :
    s.acceptChange l active t
      = (s.full l active t (.counting start base (count + 1))).beginChatter l base t := by
  rw [← s.chatterSpan_eq] at inside
  exact State.acceptChange_of_limit scanned role (by simp [counting])
    (by rw [State.counted, counting, countChange_of_open inside]) limit

/-- Of the lines the held one alone has changed. -/
theorem State.full_beginChatter_line (c : Chatter) : (((s.full l active t c).beginChatter l base t).line l)
    = { s.line l with chatter := .chattering base s.tb.runClock, suppressed := 0, lastRecorded := active } := by
  have clock : (s.full l active t c).tb = s.tb := (s.passOn_counts l active t).2.1
  rw [State.line_congr (State.beginChatter_handsOn _ l t base).2, (State.line_of_lines (State.held_lines _ l t base)).1,
    (State.line_of_lines (State.full_lines c)).1, clock]

/-- The change itself is recorded first (R71). -/
theorem State.full_beginChatter_recorded (c : Chatter) (on : s.ring.started = true) :
    ((s.full l active t c).beginChatter l base t).ring.holds s.ring.next
      (s.levelEntry l active t (LineId.scanned l) false) := by
  have after := ((s.passOn_handsOn l active t).1.trans (State.HandsOn.setLine _ l _)).trans
    (State.beginChatter_handsOn (s.full l active t c) l t base).1
  exact (s.noted_tells l active t).holds_then_few after.few on (by simp)

theorem State.TellsFew.started {s t : State} {n : Nat} (h : s.TellsFew n t) : t.ring.started = s.ring.started := by
  obtain ⟨es, ks, told, -⟩ := h
  exact told.ring.started

/-- CHATTER_ON is recorded next after what the change has brought (R71). -/
theorem State.full_beginChatter_chatterOn (c : Chatter) (on : s.ring.started = true) :
    ((s.full l active t c).beginChatter l base t).ring.holds (s.passOn l active t).ring.next
      (s.chatterEntry l .chatterOn t 0 true) := by
  have before := (s.noted_handsOn l active t).trans (s.passOn_handsOn l active t).1
  have entry : (s.full l active t c).chatterEntry l .chatterOn t 0 true = s.chatterEntry l .chatterOn t 0 true := by
    rw [State.chatterEntry, State.chatterEntry, ← s.passOn_inTest l active t]
    rfl
  have told := State.held_tells (s.full l active t c) l t base
  rw [entry] at told
  have started : (s.full l active t c).ring.started = true := before.few.started.trans on
  rw [State.beginChatter_eq]
  split
  · exact told.holds_first started (by simp)
  · exact told.holds_then_few (State.handModeLevel_handsOn _ l base t).1.few started (by simp)

theorem State.full_beginChatter_handsOn (c : Chatter) :
    s.HandsOn 5 ((s.full l active t c).beginChatter l base t) :=
  (((s.noted_handsOn l active t).trans (s.passOn_handsOn l active t).1).trans (State.HandsOn.setLine _ l _)).trans
    (State.beginChatter_handsOn (s.full l active t c) l t base).1

end

/-- A line without a mode level is held and nothing more (R71). -/
theorem State.beginChatter_of_no_level {s : State} {l : LineId} (none_named : levelOfRole (s.line l).role = none)
    (base : Bool) (t : Stamp) : s.beginChatter l base t = s.held l t base := by
  have role : levelOfRole ((s.held l t base).line l).role = none := by
    rw [(State.line_of_lines (s.held_lines l t base)).1]
    exact none_named
  rw [State.beginChatter_eq, State.handModeLevel, role]
  exact ite_self _

/-- Without a mode level nothing moves but what the Trip File Table has taken, the line and its records. -/
theorem State.full_beginChatter_of_no_level {s : State} {l : LineId} (none_named : levelOfRole (s.line l).role = none)
    (active base : Bool) (t : Stamp) (c : Chatter) :
    (s.full l active t c).beginChatter l base t = (s.full l active t c).held l t base
      ∧ s.passOn l active t = s.offered l active t := by
  have role : levelOfRole ((s.full l active t c).line l).role = none := by
    rw [(State.line_of_lines (State.full_lines c)).1]
    exact none_named
  exact ⟨State.beginChatter_of_no_level role base t, s.passOn_of_no_level active t none_named⟩

theorem State.noted_next {s : State} (on : s.ring.started = true) (l : LineId) (active : Bool) (t : Stamp) :
    (s.noted l active t).ring.next = s.ring.next + 1 := by
  obtain ⟨-, -, -, next, -⟩ := (s.noted_tells l active t).ring.took on
  exact next

theorem State.chatter_holdsLine : Claims.ChatterHoldsLineAtBaseLevel := by
  refine ⟨fun s l active x start count base scanned role on counting inside limit => ?_,
    fun s l active held x since role chattering => s.acceptChange_of_chattering role chattering⟩
  intro t test
  have whole : t = _ := State.acceptChange_of_full (t := x) scanned (by rw [role]; decide) counting inside limit
  obtain ⟨held, passed⟩ := State.full_beginChatter_of_no_level (s := s) (l := l) (by rw [role]; rfl) active base x
    (.counting start base (count + 1))
  have event := State.passOn_of_event role active x
  have first := State.full_beginChatter_recorded (s := s) (l := l) (active := active) (t := x) (base := base)
    (.counting start base (count + 1)) on
  have second := State.full_beginChatter_chatterOn (s := s) (l := l) (active := active) (t := x) (base := base)
    (.counting start base (count + 1)) on
  rw [s.levelEntry_of_scanned scanned] at first
  rw [event, State.noted_next on] at second
  have ports : t.ports = s.latched t := by
    rw [whole]
    exact (State.full_beginChatter_handsOn _).few.ports
  refine ⟨?_, ?_, ?_, ?_⟩
  · rw [whole]
    exact State.full_beginChatter_line _
  · rw [whole]
    exact first
  · rw [whole]
    exact second
  · obtain ⟨y, r, p, e⟩ := s.noted_frame l active x
    obtain ⟨r', p', e'⟩ := (s.full l active x (.counting start base (count + 1))).held_frame l x base
    rw [← ports, whole, held, e', State.full, event, e]
    rfl

/-! ### The level of a line held (R66, R71) -/

theorem ModeLevels.get_set_same (x : ModeLevels) (k : LevelName) (active : Bool) : (x.set k active).get k = active := by
  cases k <;> rfl

/-- A line that becomes CHATTERING leaves the Mode Detector at the held level, whether its filtered level is that
already or the held one is handed on. -/
theorem State.beginChatter_level {s : State} {l : LineId} {k : LevelName} {base : Bool} {t : Stamp}
    (level : levelOfRole (s.line l).role = some k)
    (handed : ((s.modeOf (LineId.unit l)).levels.get k) = (s.line l).filtered) :
    (((s.beginChatter l base t).modeOf (LineId.unit l)).levels.get k) = base
      ∧ (s.beginChatter l base t).trips = s.trips := by
  obtain ⟨r, p, e⟩ := s.held_frame l t base
  rw [State.beginChatter_eq]
  split
  · rename_i same
    rw [e]
    exact ⟨handed.trans same.symm, rfl⟩
  · have role : levelOfRole ((s.held l t base).line l).role = some k := by
      rw [(State.line_of_lines (s.held_lines l t base)).1]
      exact level
    have moved := (s.held l t base).handLevel_moves (LineId.unit l) k base t
    rw [State.handModeLevel, role]
    dsimp only
    refine ⟨by rw [moved.levels, ModeLevels.get_set_same], ?_⟩
    rw [moved.frame, e]
    rfl

theorem State.chatterOn_handsHeldLevel : Claims.ChatterOnHandsHeldLevel := by
  intro s l active x start count base scanned on filtered counting inside limit u t held
  have whole (role : (s.line l).role ≠ .spare) : t = _ :=
    State.acceptChange_of_full (t := x) scanned role counting inside limit
  generalize chatter : Chatter.counting start base (count + 1) = c at whole
  have records (role : (s.line l).role ≠ .spare) : held := by
    have first := State.full_beginChatter_recorded (s := s) (l := l) (active := active) (t := x) (base := base) c on
    rw [s.levelEntry_of_scanned scanned, ← whole role] at first
    refine ⟨?_, first, (s.passOn l active x).ring.next, ?_⟩
    · rw [whole role]
      exact State.full_beginChatter_line c
    · rw [whole role]
      exact State.full_beginChatter_chatterOn c on
  have frame (role : (s.line l).role ≠ .spare) : s.HandsOn 5 t := by
    rw [whole role]
    exact State.full_beginChatter_handsOn c
  refine ⟨fun k level other => ?_, fun cause => ?_⟩
  · obtain ⟨silent, role⟩ : (s.line l).role ∈ [Role.running, .pump, .condenser, .event, .spare]
        ∧ (s.line l).role ≠ .spare := by
      cases role : (s.line l).role with
      | running | pump | condenser | event => decide
      | breaker => exact absurd role other
      | masterTrip | tripCause | spare =>
        rw [role] at level
        cases level
    obtain ⟨y, r, p, e⟩ := s.noted_frame l active x
    have moved := (s.noted l active x).handLevel_moves u k active x
    have passed : s.passOn l active x = (s.noted l active x).handLevel u k active x := by
      rw [s.passOn_of_level active x level, State.offered_of_idle active x silent]
      rfl
    rw [← passed] at moved
    have line : (s.full l active x c).line l = { s.line l with chatter := c, lastRecorded := active } :=
      (State.line_of_lines (State.full_lines c)).1
    have stored : ((s.full l active x c).modeOf u).levels.get k = ((s.full l active x c).line l).filtered := by
      rw [line, filtered]
      exact (congrArg (fun m => ModeLevels.get m k) moved.levels).trans (ModeLevels.get_set_same _ k active)
    obtain ⟨base_level, trips⟩ := State.beginChatter_level (base := base) (t := x) (by rw [line]; exact level) stored
    rw [← whole role] at base_level trips
    have kept : t.trips = s.trips := by
      rw [trips, State.full, State.setLine_trips, moved.frame, e]
    refine ⟨records role, base_level, ?_⟩
    have all := (frame role).frame
    rw [kept, (frame role).few.ports] at all
    exact all
  · have role : (s.line l).role ≠ .spare := by rw [cause]; decide
    obtain ⟨y, own, general⟩ := s.tripsTake_tripCause ⟨l, active, x⟩
    obtain ⟨z, r, p, e⟩ := s.noted_frame l active x
    obtain ⟨r', p', e'⟩ := (s.full l active x c).held_frame l x base
    obtain ⟨last, passed⟩ := State.full_beginChatter_of_no_level (s := s) (l := l) (by rw [cause]; rfl) active base x c
    rw [State.offered, cause, general _ (by rw [e])] at passed
    have made : t = { s with lines := t.lines, trips := y, ring := t.ring, ports := t.ports } := by
      rw [whole role, last, e', State.full, passed, e]
      rfl
    have trips : t.trips = y := congrArg State.trips made
    refine ⟨records role, by rw [own]; exact trips, ?_⟩
    rw [← (frame role).few.ports, trips]
    exact made

/-! ### The end of chatter (R72) -/

/-- The entries that the end of chatter writes: CHATTER_OFF, and a DERIVED one when the line rests at another level
than the last recorded one. -/
def State.releaseEntries (s : State) (l : LineId) : List Entry :=
  s.chatterEntry l .chatterOff s.reading (s.line l).suppressed false
    :: if (s.line l).filtered = (s.line l).lastRecorded then []
      else [s.levelEntry l (s.line l).filtered s.reading false true]

/-- The state in which the end of chatter has its records. -/
def State.releaseNoted (s : State) (l : LineId) : State :=
  let c := s.noteChatter l .chatterOff s.reading (s.line l).suppressed false
  if (s.line l).filtered = (s.line l).lastRecorded then c
  else c.noteLevel l (s.line l).filtered s.reading false true

/-- The state in which a line that leaves CHATTERING is QUIET, ahead of the hand-off of its level. -/
def State.released (s : State) (l : LineId) : State :=
  (s.releaseNoted l).setLine l { (s.releaseNoted l).line l with chatter := .quiet }

theorem State.releaseNoted_tells (l : LineId) : s.Tells (s.releaseNoted l) (s.releaseEntries l) [] := by
  obtain ⟨r, p, e⟩ := s.noteChatter_frame l s.reading .chatterOff (s.line l).suppressed false
  have first := s.noteChatter_tells l s.reading .chatterOff (s.line l).suppressed false
  unfold State.releaseNoted State.releaseEntries
  dsimp only
  split
  · exact first
  · have second := (s.noteChatter l .chatterOff s.reading (s.line l).suppressed false).noteLevel_tells l
      (s.line l).filtered s.reading false true
    have entry : (s.noteChatter l .chatterOff s.reading (s.line l).suppressed false).levelEntry l (s.line l).filtered
        s.reading false true = s.levelEntry l (s.line l).filtered s.reading false true := by
      rw [e]
      rfl
    rw [entry] at second
    exact first.trans second

theorem State.releaseNoted_frame (l : LineId) : ∃ (x : Lines) (r : Ring) (p : PerPort PortState),
    s.releaseNoted l = { s with lines := x, ring := r, ports := p } := by
  obtain ⟨r, p, e⟩ := s.noteChatter_frame l s.reading .chatterOff (s.line l).suppressed false
  unfold State.releaseNoted
  dsimp only
  split
  · exact ⟨s.lines, r, p, e⟩
  · obtain ⟨x, r', p', e'⟩ := (s.noteChatter l .chatterOff s.reading (s.line l).suppressed false).noteLevel_frame l
      (s.line l).filtered s.reading false true
    exact ⟨x, r', p', by rw [e', e]⟩

theorem State.releaseNoted_lines (l : LineId) : (s.releaseNoted l).lines
    = (s.setLine l { s.line l with lastRecorded := (s.line l).filtered }).lines := by
  obtain ⟨r, p, e⟩ := s.noteChatter_frame l s.reading .chatterOff (s.line l).suppressed false
  unfold State.releaseNoted
  dsimp only
  split
  · rename_i same
    have itself : ({ s.line l with lastRecorded := (s.line l).filtered } : Line) = s.line l := by
      rw [same]
    rw [itself, e, State.setLine_lines, State.line, Table.set_get]
  · rw [State.noteLevel_lines, e]
    rfl

theorem State.released_lines (l : LineId) : (s.released l).lines
    = (s.setLine l { s.line l with chatter := .quiet, lastRecorded := (s.line l).filtered }).lines := by
  rw [State.released, (State.line_of_lines (s.releaseNoted_lines l)).1, State.setLine_lines, s.releaseNoted_lines l,
    State.setLine_lines, State.setLine_lines]
  dsimp only
  rw [Table.set_set]

theorem State.released_tells (l : LineId) : s.Tells (s.released l) (s.releaseEntries l) [] :=
  (s.releaseNoted_tells l).then_silence rfl rfl

theorem State.released_frame (l : LineId) : ∃ (x : Lines) (r : Ring) (p : PerPort PortState),
    s.released l = { s with lines := x, ring := r, ports := p } := by
  obtain ⟨x, r, p, e⟩ := s.releaseNoted_frame l
  exact ⟨_, r, p, by rw [State.released, e]; rfl⟩

/-- The level goes to the Mode Detector where it differs from the held one (R72). -/
theorem State.leaveChatter_eq {s : State} {l : LineId} {held : Bool} {since : Nat}
    (chattering : (s.line l).chatter = .chattering held since) :
    s.leaveChatter l = if (s.line l).filtered = held then s.released l
      else (s.released l).handModeLevel l (s.line l).filtered s.reading := by
  have level : (s.line l).modeLevel = held := by rw [Line.modeLevel, chattering]
  rw [← level]
  rfl

theorem State.leaveChatter_handsOn (l : LineId) : (s.released l).HandsOn 1 (s.leaveChatter l)
    ∧ (s.leaveChatter l).lines = (s.released l).lines := by
  have whole : s.leaveChatter l = if (s.line l).filtered = (s.line l).modeLevel then s.released l
      else (s.released l).handModeLevel l (s.line l).filtered s.reading := rfl
  rw [whole]
  split
  · exact ⟨State.HandsOn.refl _ 1, rfl⟩
  · exact State.handModeLevel_handsOn _ l _ _

/-- The Mode Detector ends at the line's filtered level. -/
theorem State.leaveChatter_levels {s : State} {l : LineId} {held : Bool} {since : Nat} {k : LevelName}
    (chattering : (s.line l).chatter = .chattering held since) (level : levelOfRole (s.line l).role = some k) :
    ((s.leaveChatter l).modeOf (LineId.unit l)).levels
      = if (s.line l).filtered = held then (s.modeOf (LineId.unit l)).levels
        else (s.modeOf (LineId.unit l)).levels.set k (s.line l).filtered := by
  obtain ⟨x, r, p, e⟩ := s.released_frame l
  rw [State.leaveChatter_eq chattering]
  split
  · rw [e]
    rfl
  · have role : levelOfRole ((s.released l).line l).role = some k := by
      rw [(State.line_of_lines (s.released_lines l)).1]
      exact level
    rw [State.handModeLevel, role]
    exact ((s.released l).handLevel_moves (LineId.unit l) k _ s.reading).levels.trans (by rw [e]; rfl)

theorem State.handModeLevel_trips (l : LineId) (active : Bool) (t : Stamp) :
    (s.handModeLevel l active t).trips = s.trips := by
  unfold State.handModeLevel
  split
  · rw [(s.handLevel_moves _ _ active t).frame]
  · rfl

theorem State.leaveChatter_trips (l : LineId) : (s.leaveChatter l).trips = s.trips := by
  obtain ⟨x, r, p, e⟩ := s.released_frame l
  have kept : (s.released l).trips = s.trips := by rw [e]
  have whole : s.leaveChatter l = if (s.line l).filtered = (s.line l).modeLevel then s.released l
      else (s.released l).handModeLevel l (s.line l).filtered s.reading := rfl
  rw [whole]
  split
  · exact kept
  · rw [State.handModeLevel_trips, kept]

theorem State.releaseEntries_length (l : LineId) : (s.releaseEntries l).length ≤ 2 := by
  unfold State.releaseEntries
  split <;> simp

theorem State.released_handsOn (l : LineId) : s.HandsOn 2 (s.released l) := by
  obtain ⟨x, r, p, e⟩ := s.released_frame l
  exact ⟨(s.released_tells l).few (s.releaseEntries_length l), by rw [e]⟩

/-- CHATTER_OFF is the first record, and the DERIVED one, where it is due, the second. -/
theorem State.leaveChatter_holds {s : State} (on : s.ring.started = true) (l : LineId) :
    (s.leaveChatter l).ring.holds s.ring.next (s.chatterEntry l .chatterOff s.reading (s.line l).suppressed false)
      ∧ ((s.line l).filtered ≠ (s.line l).lastRecorded → (s.leaveChatter l).ring.holds (s.ring.next + 1)
          (s.levelEntry l (s.line l).filtered s.reading false true)) := by
  obtain ⟨gs, ls, rest, short⟩ := (s.leaveChatter_handsOn l).1.few
  have told := (s.released_tells l).trans rest
  have few := s.releaseEntries_length l
  unfold State.releaseEntries at told few
  rw [List.cons_append] at told
  refine ⟨told.holds_first on ?_, fun moved => ?_⟩
  · rw [List.length_cons] at few
    rw [List.length_append]
    omega
  · rw [if_neg moved, List.singleton_append] at told
    exact Ring.Gains.holds (before := [_]) told.ring on (by rw [List.length_singleton]; omega)

theorem State.chatter_endsAfterQuietWindow : Claims.ChatterEndsAfterQuietWindow := by
  intro s l held since chattering
  refine ⟨fun quiet on => ?_, fun early => congrArg Host.Outcome.next (if_neg fun due => ?_)⟩
  · intro x test
    obtain ⟨handed, lines⟩ := s.leaveChatter_handsOn l
    obtain ⟨own, others⟩ := State.line_of_lines (lines.trans (s.released_lines l))
    obtain ⟨first, second⟩ := State.leaveChatter_holds on l
    refine ⟨s.leaveChatter l, congrArg Host.Outcome.next (if_pos ((State.chatterOffDue_iff chattering).2 quiet)),
      own, others, first, second, fun k => State.leaveChatter_levels chattering, ?_⟩
    have whole := (s.released_handsOn l).trans handed
    have all := whole.frame
    rw [s.leaveChatter_trips, whole.few.ports] at all
    exact all
  · exact absurd ((State.chatterOffDue_iff chattering).1 due) (by omega)

/-- Settles O22: windows count what is handed on, the change that fills one holds the line, and one quiet window
releases it. -/
theorem chatterIsHeldAndEnded : Obligations.ChatterIsHeldAndEnded :=
  ⟨State.chatterWindow_closes, State.acceptedChange_isHandedOn, State.acceptedChange_isCounted,
    State.chatter_holdsLine, State.chatterOn_handsHeldLevel, State.chatter_endsAfterQuietWindow⟩

end Sys2Proof.Machine
end

section
/-! Scan instants: the sample of each scanned line, its debounce, and the lines in rising order (R63 to R66): O21. -/

namespace Sys2Proof.Machine

/-! ### One line's sample (R64) -/

section
variable (s : State) {l : LineId} {t : Stamp}

theorem State.setLine_line (l : LineId) : s.setLine l (s.line l) = s := by
  rw [State.setLine, State.line, Table.set_get]

theorem State.resolve_setLine (p : Option PendingChange) (c : PendingChange) :
    (s.setLine l { s.line l with pend := p }).resolve l c = s.resolve l c := by
  unfold State.resolve
  dsimp only
  rw [State.line_setLine_same, State.setLine_setLine, State.setLine_setLine]

/-- A sample at the filtered level of a STABLE line changes nothing. -/
theorem State.sampleLine_of_rest (stable : (s.line l).pend = none)
    (rest : ((s.line l).logical (s.line l).raw != (s.line l).filtered) = false) : s.sampleLine t l = s := by
  have sampled : (s.line l).sampled t ((s.line l).logical (s.line l).raw) = (s.line l).pend := by
    rw [Line.sampled, stable]
    exact if_pos (bne_eq_false_iff_eq.1 rest)
  unfold State.sampleLine
  dsimp only
  rw [sampled]
  rw [stable]
  dsimp only
  rw [← stable]
  exact s.setLine_line l

/-- The first sample away from the filtered level opens a pending change, or is accepted at once when no further
sample is needed. -/
theorem State.sampleLine_of_first (stable : (s.line l).pend = none)
    (away : ((s.line l).logical (s.line l).raw != (s.line l).filtered) = true) :
    s.sampleLine t l = if s.scansNeeded = 0 then (s.turned l).acceptChange l (!(s.line l).filtered) t
      else s.setLine l { s.line l with pend := some ⟨t, true, t.runClock, 1⟩ } := by
  have sampled : (s.line l).sampled t ((s.line l).logical (s.line l).raw) = some ⟨t, true, t.runClock, 1⟩ := by
    rw [Line.sampled, stable]
    exact if_neg (bne_iff_ne.1 away)
  unfold State.sampleLine
  dsimp only
  rw [sampled]
  dsimp only
  rw [State.resolve_setLine, s.resolve_accepted rfl]
  by_cases atOnce : s.scansNeeded = 0
  · rw [if_pos (by omega), if_pos atOnce]
  · rw [if_neg (by omega), if_neg atOnce]

/-- A further sample lengthens the run at its level or begins a new one, and the run that is long enough resolves
the change. -/
theorem State.sampleLine_of_pending {c : PendingChange} (pending : (s.line l).pend = some c) {away : Bool}
    (level : ((s.line l).logical (s.line l).raw != (s.line l).filtered) = away) {run : Nat}
    (long : (if c.atPending = away then c.samples + 1 else 1) = run) :
    s.sampleLine t l = if run ≤ s.scansNeeded
      then s.setLine l { s.line l with pend := some { c with atPending := away, samples := run } }
      else if away then (s.turned l).acceptChange l (!(s.line l).filtered) c.stamp
      else s.setLine l { s.line l with pend := none } := by
  have sampled : (s.line l).sampled t ((s.line l).logical (s.line l).raw)
      = some { c with atPending := away, samples := run } := by
    rw [Line.sampled, pending]
    dsimp only
    rw [level, ← long]
    by_cases same : c.atPending = away
    · rw [if_pos (beq_iff_eq.2 same), if_pos same, ← same]
    · rw [if_neg (by simpa using same), if_neg same]
  unfold State.sampleLine
  dsimp only
  rw [sampled]
  dsimp only
  rw [State.resolve_setLine]
  by_cases short : run ≤ s.scansNeeded
  · rw [if_neg (by omega), if_pos short]
  · rw [if_pos (by omega), if_neg short]
    cases away with
    | true => exact s.resolve_accepted rfl
    | false => exact s.resolve_cancelled rfl

end

/-! ### What one sample can move -/

section
variable (s : State)

/-- What every step of a scan keeps: the settings, the Timebase, the period and the pins. -/
structure State.ScanKeeps (s t : State) : Prop where
  frame : ∃ n, s.HandsOn n t
  period : t.lines.period = s.lines.period
  raw : ∀ l, (t.line l).raw = (s.line l).raw

theorem State.ScanKeeps.refl : s.ScanKeeps s := ⟨⟨0, State.HandsOn.refl s 0⟩, rfl, fun _ => rfl⟩

theorem State.ScanKeeps.trans {s t v : State} (h : s.ScanKeeps t) (g : t.ScanKeeps v) : s.ScanKeeps v := by
  obtain ⟨n, first⟩ := h.frame
  obtain ⟨m, second⟩ := g.frame
  exact ⟨⟨_, first.trans second⟩, g.period.trans h.period, fun l => (g.raw l).trans (h.raw l)⟩

theorem State.ScanKeeps.settings {s t : State} (h : s.ScanKeeps t) : t.settings = s.settings := by
  obtain ⟨n, f⟩ := h.frame
  rw [f.frame]

theorem State.ScanKeeps.tb {s t : State} (h : s.ScanKeeps t) : t.tb = s.tb := by
  obtain ⟨n, f⟩ := h.frame
  rw [f.frame]

theorem State.ScanKeeps.scansNeeded {s t : State} (h : s.ScanKeeps t) : t.scansNeeded = s.scansNeeded := by
  rw [State.scansNeeded, h.settings, h.period, State.scansNeeded]

/-- A step that moves one line's entry, its pin aside, and what hears of it. -/
theorem State.ScanKeeps.of_lines {s t : State} {n : Nat} {l : LineId} {y : Line} (h : s.HandsOn n t)
    (lines : t.lines = (s.setLine l y).lines) (raw : y.raw = (s.line l).raw) : s.ScanKeeps t where
  frame := ⟨n, h⟩
  period := by rw [lines]; rfl
  raw k := by
    obtain ⟨own, others⟩ := State.line_of_lines lines
    by_cases same : k = l
    · rw [same, own, raw]
    · rw [others k same]

theorem Line.SameButChatter.kept {x y : Line} (same : x.SameButChatter y) :
    y.raw = x.raw ∧ y.filtered = x.filtered ∧ y.pend = x.pend := by
  unfold Line.SameButChatter at same
  rw [same]
  exact ⟨rfl, rfl, rfl⟩

/-- The line after an accepted change: turned, and otherwise the same but for chatter and its record. -/
theorem State.turned_acceptChange (l : LineId) (active : Bool) (t : Stamp) :
    s.HandsOn 5 ((s.turned l).acceptChange l active t) ∧ ∃ y,
      ({ s.line l with filtered := !(s.line l).filtered, pend := none } : Line).SameButChatter y
        ∧ ((s.turned l).acceptChange l active t).lines = (s.setLine l y).lines := by
  obtain ⟨handed, y, same, lines⟩ := (s.turned l).acceptChange_handsOn l active t
  rw [s.turned_line] at same
  refine ⟨(State.HandsOn.setLine s l _).trans handed |>.mono (by omega), y, same, ?_⟩
  rw [lines, State.turned, State.setLine_setLine]

/-- One sample moves its own line's entry alone, and not its pin. -/
theorem State.sampleLine_keeps (t : Stamp) (l : LineId) :
    s.ScanKeeps (s.sampleLine t l) ∧ ∀ k, k ≠ l → (s.sampleLine t l).line k = s.line k := by
  have set (x : Line) (raw : x.raw = (s.line l).raw) : s.ScanKeeps (s.setLine l x)
      ∧ ∀ k, k ≠ l → (s.setLine l x).line k = s.line k :=
    ⟨State.ScanKeeps.of_lines (State.HandsOn.setLine s l x) rfl raw, fun k => s.line_setLine_other x⟩
  have accepted (x : Stamp) : s.ScanKeeps ((s.turned l).acceptChange l (!(s.line l).filtered) x)
      ∧ ∀ k, k ≠ l → ((s.turned l).acceptChange l (!(s.line l).filtered) x).line k = s.line k := by
    obtain ⟨handed, y, same, lines⟩ := s.turned_acceptChange l (!(s.line l).filtered) x
    exact ⟨State.ScanKeeps.of_lines handed lines same.kept.1, (State.line_of_lines lines).2⟩
  cases pend : (s.line l).pend with
  | none =>
    cases level : (s.line l).logical (s.line l).raw != (s.line l).filtered with
    | false =>
      rw [s.sampleLine_of_rest pend level]
      exact ⟨State.ScanKeeps.refl s, fun _ _ => rfl⟩
    | true =>
      rw [s.sampleLine_of_first pend level]
      split
      · exact accepted t
      · exact set _ rfl
  | some c =>
    obtain ⟨away, level⟩ : ∃ a, ((s.line l).logical (s.line l).raw != (s.line l).filtered) = a := ⟨_, rfl⟩
    obtain ⟨run, long⟩ : ∃ n, (if c.atPending = away then c.samples + 1 else 1) = n := ⟨_, rfl⟩
    rw [s.sampleLine_of_pending pend level long]
    split
    · exact set _ rfl
    · split
      · exact accepted c.stamp
      · exact set _ rfl

/-! ### The walk over the scanned lines (R64) -/

/-- The scanned lines debounced one after another. -/
def State.debounceAll (t : Stamp) (xs : List LineId) : State := s.forEach xs fun l v => v.sampleLine t l

theorem State.debounceAll_keeps (t : Stamp) (xs : List LineId) : s.ScanKeeps (s.debounceAll t xs) :=
  State.forEach_keeps s.ScanKeeps xs _ (fun l v kept => kept.trans (v.sampleLine_keeps t l).1) (State.ScanKeeps.refl s)

theorem State.debounceAll_other {t : Stamp} {xs : List LineId} {l : LineId} (other : l ∉ xs) :
    (s.debounceAll t xs).line l = s.line l := by
  induction xs generalizing s with
  | nil => rfl
  | cons k rest ih =>
    rw [List.mem_cons, not_or] at other
    obtain ⟨away, other⟩ := other
    exact (ih (s.sampleLine t k) other).trans ((s.sampleLine_keeps t k).2 l away)

/-- A line's entry after the walk is what its own sample makes of it. -/
theorem State.debounceAll_line {t : Stamp} {xs : List LineId} {l : LineId} (mem : l ∈ xs) (distinct : xs.Nodup) :
    ∃ v, s.ScanKeeps v ∧ v.line l = s.line l ∧ (s.debounceAll t xs).line l = (v.sampleLine t l).line l := by
  induction xs generalizing s with
  | nil => cases mem
  | cons k rest ih =>
    obtain ⟨fresh, distinct⟩ := List.nodup_cons.1 distinct
    obtain ⟨kept, others⟩ := s.sampleLine_keeps t k
    rcases List.mem_cons.1 mem with rfl | later
    · exact ⟨s, State.ScanKeeps.refl s, rfl, (s.sampleLine t l).debounceAll_other fresh⟩
    · have other : l ≠ k := fun same => fresh (same ▸ later)
      obtain ⟨v, kept', line, own⟩ := ih (s.sampleLine t k) later distinct
      exact ⟨v, kept.trans kept', line.trans (others l other), own⟩

/-- A step that is the line's sample in every state of the walk makes the walk. -/
theorem State.foldl_eq_debounceAll {t : Stamp} {xs : List LineId} {f : State → LineId → State}
    (step : ∀ v l, l ∈ xs → s.ScanKeeps v → f v l = v.sampleLine t l) : xs.foldl f s = s.debounceAll t xs := by
  induction xs generalizing s with
  | nil => rfl
  | cons k rest ih =>
    rw [List.foldl_cons, step s k List.mem_cons_self (State.ScanKeeps.refl s)]
    exact ih (s.sampleLine t k) fun v l mem kept =>
      step v l (List.mem_cons_of_mem k mem) ((s.sampleLine_keeps t k).1.trans kept)

/-! ### What a sample makes of its line (R64) -/

theorem State.turned_acceptChange_line (l : LineId) (active : Bool) (t : Stamp) :
    (((s.turned l).acceptChange l active t).line l).pend = none
      ∧ (((s.turned l).acceptChange l active t).line l).filtered = !(s.line l).filtered := by
  obtain ⟨_, y, same, lines⟩ := s.turned_acceptChange l active t
  obtain ⟨_, filtered, pend⟩ := same.kept
  rw [(State.line_of_lines lines).1]
  exact ⟨pend, filtered⟩

section
variable {l : LineId} {t : Stamp} {away : Bool}
  (level : ((s.line l).logical (s.line l).raw != (s.line l).filtered) = away)
include level

theorem State.sampleLine_line_of_stable (stable : (s.line l).pend = none) :
    (away = false → ((s.sampleLine t l).line l).pend = none
      ∧ ((s.sampleLine t l).line l).filtered = (s.line l).filtered)
    ∧ (away = true → 0 < s.scansNeeded → ((s.sampleLine t l).line l).pend = some ⟨t, true, t.runClock, 1⟩
      ∧ ((s.sampleLine t l).line l).filtered = (s.line l).filtered)
    ∧ (away = true → s.scansNeeded = 0 → ((s.sampleLine t l).line l).pend = none
      ∧ ((s.sampleLine t l).line l).filtered = !(s.line l).filtered) := by
  refine ⟨fun rest => ?_, fun first more => ?_, fun first atOnce => ?_⟩
  · rw [s.sampleLine_of_rest stable (level.trans rest)]
    exact ⟨stable, rfl⟩
  · rw [s.sampleLine_of_first stable (level.trans first), if_neg (by omega), State.line_setLine_same]
    exact ⟨rfl, rfl⟩
  · rw [s.sampleLine_of_first stable (level.trans first), if_pos atOnce]
    exact s.turned_acceptChange_line l _ t

theorem State.sampleLine_line_of_pending {c : PendingChange} (pending : (s.line l).pend = some c) {run : Nat}
    (long : (if c.atPending = away then c.samples + 1 else 1) = run) :
    (run ≤ s.scansNeeded →
      ((s.sampleLine t l).line l).pend = some { c with atPending := away, samples := run }
      ∧ ((s.sampleLine t l).line l).filtered = (s.line l).filtered)
    ∧ (s.scansNeeded < run → ((s.sampleLine t l).line l).pend = none
      ∧ ((s.sampleLine t l).line l).filtered = if away then !(s.line l).filtered else (s.line l).filtered) := by
  rw [s.sampleLine_of_pending pending level long]
  refine ⟨fun short => ?_, fun enough => ?_⟩
  · rw [if_pos short, State.line_setLine_same]
    exact ⟨rfl, rfl⟩
  · rw [if_neg (by omega)]
    cases away with
    | true => exact s.turned_acceptChange_line l _ c.stamp
    | false =>
      rw [if_neg Bool.false_ne_true, State.line_setLine_same]
      exact ⟨rfl, rfl⟩

end

end

/-! ### The scan instant as a whole (R63, R64) -/

theorem State.scan_of_due {s : State} (watched : s.scanning = true) (due : s.due.scan = true) (pins : BitVec 48) :
    s.scan pins = ((s.withDue { s.due with scan := false }).pinsOfScan pins).debounceAll s.reading scannedLines := by
  have now : s.scanDue = true := by rw [State.scanDue, watched, due]; rfl
  exact if_pos now

theorem State.pinsOfScan_eq (s : State) (pins : BitVec 48) :
    s.pinsOfScan pins = { s with lines := { s.lines with tab := s.lines.tab.mapIdx fun l x =>
      if 2 ≤ l.val % 8 then { x with raw := pins.getLsbD l.val } else x } } := by
  have each : Line.takeSample pins = fun l x => if 2 ≤ l.val % 8 then { x with raw := pins.getLsbD l.val } else x := by
    funext l x
    unfold Line.takeSample LineId.scanned LineId.index
    by_cases scanned : 2 ≤ l.val % 8
    · rw [if_pos scanned, if_pos (decide_eq_true scanned)]
    · rw [if_neg scanned, if_neg (by simpa using scanned)]
  rw [State.pinsOfScan, each]

theorem mem_scannedLines {l : LineId} : l ∈ scannedLines ↔ 2 ≤ l.val % 8 := by
  rw [scannedLines, List.mem_filter]
  exact ⟨fun ⟨_, scanned⟩ => of_decide_eq_true scanned,
    fun scanned => ⟨List.mem_finRange l, decide_eq_true scanned⟩⟩

theorem nodup_scannedLines : scannedLines.Nodup := (List.nodup_finRange 48).filter _

/-- Settles O21: the walk over the scanned lines takes each one's sample as the statement's step does. -/
theorem scanInstantDebouncesEachScannedLine : Obligations.ScanInstantDebouncesEachScannedLine := by
  intro s pins running taken due k sampled accepted debounced
  have sampled_eq : (s.withDue { s.due with scan := false }).pinsOfScan pins = sampled := State.pinsOfScan_eq _ pins
  have sampled_line (l : LineId) : sampled.line l
      = if 2 ≤ l.val % 8 then { s.line l with raw := pins.getLsbD l.val } else s.line l := by
    rw [← sampled_eq]
    exact State.pinsOfScan_line _ pins l
  have step (v : State) (l : LineId) (mem : l ∈ scannedLines) (kept : sampled.ScanKeeps v) :
      debounced v l = v.sampleLine s.reading l := by
    have raw : (v.line l).raw = pins.getLsbD l.val := by
      rw [kept.raw, sampled_line, if_pos (mem_scannedLines.1 mem)]
    have scans : v.scansNeeded = k := kept.scansNeeded
    have away : ((pins.getLsbD l.val != (v.line l).inverted) != (v.line l).filtered)
        = ((v.line l).logical (v.line l).raw != (v.line l).filtered) := by rw [raw]; rfl
    cases pend : (v.line l).pend with
    | none =>
      cases level : (v.line l).logical (v.line l).raw != (v.line l).filtered with
      | false =>
        rw [v.sampleLine_of_rest pend level]
        simp only [debounced, pend, away, level, if_true]
      | true =>
        rw [v.sampleLine_of_first pend level, scans]
        simp only [debounced, pend, away, level, Bool.true_eq_false, if_false]
        rfl
    | some c =>
      rw [v.sampleLine_of_pending pend away.symm rfl, scans]
      simp only [debounced, pend]
      rfl
  have walk := sampled.foldl_eq_debounceAll step
  have run : exec (.scanInstant pins) s = .next (sampled.debounceAll s.reading scannedLines) := by
    rw [← sampled_eq]
    exact congrArg Host.Outcome.next (State.scan_of_due (State.scanning_of_running running taken) due pins)
  have kept := sampled.debounceAll_keeps s.reading scannedLines
  obtain ⟨n, frame⟩ := kept.frame
  replace frame := frame.frame
  refine ⟨_, run, walk.symm, fun l fast => ?_, fun l scanned => ?_, by rw [frame], by rw [frame], by rw [frame],
    by rw [frame], by rw [frame], by rw [frame], by rw [frame]⟩
  · rw [sampled.debounceAll_other (by rw [mem_scannedLines]; omega), sampled_line, if_neg (by omega)]
  · obtain ⟨v, same, line, own⟩ := sampled.debounceAll_line (t := s.reading) (mem_scannedLines.2 scanned)
      nodup_scannedLines
    rw [sampled_line, if_pos scanned] at line
    have scans : v.scansNeeded = k := same.scansNeeded
    have pend : (v.line l).pend = (s.line l).pend := by rw [line]
    have filtered : (v.line l).filtered = (s.line l).filtered := by rw [line]
    intro x away
    have level : ((v.line l).logical (v.line l).raw != (v.line l).filtered) = away := by rw [line]; rfl
    refine ⟨by rw [kept.raw, sampled_line, if_pos scanned], ?_⟩
    rw [own]
    have stable := v.sampleLine_line_of_stable (t := s.reading) level
    have pending (c : PendingChange) := v.sampleLine_line_of_pending (t := s.reading) (c := c) level
    rw [pend, filtered, scans] at stable
    simp only [pend, filtered, scans] at pending
    exact ⟨fun still => (stable still).1, fun still => (stable still).2.1, fun still => (stable still).2.2,
      fun c held => pending c held rfl⟩

end Sys2Proof.Machine
end

section
/-! The baseline: every line's level, every unit's mode, and the end of the power-on sequence (R75 to R77, R91, R92,
R109, R110, R197): O19. -/

namespace Sys2Proof.Machine

/-! ### One unit at the baseline (R91, R92) -/

/-- Nothing of a unit has moved in Mode Detector, Tally Unit and Shift Controller. -/
structure State.UnitStands (s t : State) (u : UnitId) : Prop where
  mode : t.modeOf u = s.modeOf u
  tally : t.tallyOf u = s.tallyOf u
  shift : t.shift.units.get u = s.shift.units.get u

/-- A unit that takes its levels and, outside test, the mode they derive. -/
structure State.UnitTakes (s : State) (levels : ModeLevels) (t : State) (u : UnitId) : Prop where
  taken : (t.modeOf u).levels = levels
  counted : (s.modeOf u).test = none →
    t.modeOf u = { s.modeOf u with
      levels := levels, settled := some levels.derived, since := some s.reading, candidate := none }
    ∧ t.tallyOf u = { s.tallyOf u with counted := some levels.derived }
    ∧ t.shift.units.get u = { s.shift.units.get u with counted := some levels.derived }
  tested : (s.modeOf u).test.isSome = true →
    t.modeOf u = { s.modeOf u with levels := levels }
    ∧ t.tallyOf u = s.tallyOf u ∧ t.shift.units.get u = s.shift.units.get u

/-- What the baseline of units can move. -/
structure State.BaselineMoves (s t : State) : Prop where
  frame : t = { s with modes := t.modes, tally := t.tally, shift := t.shift }
  shift : t.shift = { s.shift with units := t.shift.units }

section
variable {s t v : State} {u w : UnitId} {levels : ModeLevels}

theorem State.UnitStands.refl (s : State) (u : UnitId) : s.UnitStands s u := ⟨rfl, rfl, rfl⟩

theorem State.UnitStands.trans (h : s.UnitStands t u) (g : t.UnitStands v u) : s.UnitStands v u :=
  ⟨g.mode.trans h.mode, g.tally.trans h.tally, g.shift.trans h.shift⟩

/-- What a unit takes it keeps while it stands. -/
theorem State.UnitTakes.then_stands (h : s.UnitTakes levels t u) (g : t.UnitStands v u) : s.UnitTakes levels v u := by
  obtain ⟨mode, tally, shift⟩ := g
  obtain ⟨taken, counted, tested⟩ := h
  rw [← mode] at taken counted tested
  rw [← tally, ← shift] at counted tested
  exact ⟨taken, counted, tested⟩

/-- What a unit takes does not depend on what moved before of other units. -/
theorem State.UnitTakes.after_stands (g : s.UnitStands t u) (reading : t.reading = s.reading)
    (h : t.UnitTakes levels v u) : s.UnitTakes levels v u := by
  obtain ⟨mode, tally, shift⟩ := g
  obtain ⟨taken, counted, tested⟩ := h
  rw [mode, tally, shift] at counted tested
  rw [reading] at counted
  exact ⟨taken, counted, tested⟩

theorem State.BaselineMoves.refl (s : State) : s.BaselineMoves s := ⟨rfl, rfl⟩

theorem State.BaselineMoves.trans (h : s.BaselineMoves t) (g : t.BaselineMoves v) : s.BaselineMoves v where
  frame := by rw [g.frame, h.frame]
  shift := by rw [g.shift, h.shift]

theorem State.BaselineMoves.reading (h : s.BaselineMoves t) : t.reading = s.reading := by
  rw [h.frame]
  rfl

end

section
variable (s : State) (u : UnitId) (levels : ModeLevels)

theorem State.baselineUnit_of_test (test : (s.modeOf u).test.isSome = true) :
    s.baselineUnit u levels = s.setMode u { s.modeOf u with levels := levels } := if_pos test

theorem State.baselineUnit_of_counted (test : (s.modeOf u).test = none) :
    s.baselineUnit u levels = { s with
      modes := s.modes.set u { s.modeOf u with
        levels := levels, settled := some levels.derived, since := some s.reading, candidate := none }
      tally := { s.tally with
        units := s.tally.units.set u { s.tallyOf u with counted := some levels.derived } }
      shift := { s.shift with
        units := s.shift.units.modify u fun x => { x with counted := some levels.derived } } } := by
  unfold State.baselineUnit
  dsimp only
  rw [if_neg (by simp [test])]
  rfl

theorem State.baselineUnit_moves : s.BaselineMoves (s.baselineUnit u levels)
    ∧ s.UnitTakes levels (s.baselineUnit u levels) u
    ∧ ∀ w, w ≠ u → s.UnitStands (s.baselineUnit u levels) w := by
  cases test : (s.modeOf u).test with
  | none =>
    rw [s.baselineUnit_of_counted u levels test]
    refine ⟨⟨rfl, rfl⟩, ⟨?_, fun _ => ⟨?_, ?_, ?_⟩, fun on => ?_⟩, fun w other => ⟨?_, ?_, ?_⟩⟩
    · simp [State.modeOf]
    · simp [State.modeOf]
    · simp [State.tallyOf]
    · simp [Table.modify]
    · rw [test] at on
      cases on
    · exact Table.get_set_other _ _ other
    · exact Table.get_set_other _ _ other
    · exact Table.get_set_other _ _ other
  | some x =>
    rw [s.baselineUnit_of_test u levels (by rw [test]; rfl)]
    refine ⟨⟨rfl, rfl⟩, ⟨?_, fun off => ?_, fun _ => ⟨?_, rfl, rfl⟩⟩, fun w other => ⟨?_, rfl, rfl⟩⟩
    · simp [State.setMode, State.modeOf]
    · rw [test] at off
      cases off
    · exact Table.get_set_same _ _ _
    · exact Table.get_set_other _ _ other

end

/-! ### The units one after another -/

/-- The units given have taken their levels, the others stand. -/
structure State.BaselinesUnits (s : State) (levels : UnitId → ModeLevels) (us : List UnitId) (t : State) : Prop where
  moves : s.BaselineMoves t
  takes : ∀ u ∈ us, s.UnitTakes (levels u) t u
  stands : ∀ u, u ∉ us → s.UnitStands t u

theorem State.baselineUnits (s : State) (levels : UnitId → ModeLevels) {us : List UnitId} (distinct : us.Nodup) :
    s.BaselinesUnits levels us (s.forEach us fun u v => v.baselineUnit u (levels u)) := by
  induction us generalizing s with
  | nil => exact ⟨State.BaselineMoves.refl s, by simp, fun u _ => State.UnitStands.refl s u⟩
  | cons u us ih =>
    rw [State.forEach_cons]
    obtain ⟨fresh, distinct⟩ := List.nodup_cons.1 distinct
    obtain ⟨moves, own, others⟩ := s.baselineUnit_moves u (levels u)
    obtain ⟨moves', takes, stands⟩ := ih (s.baselineUnit u (levels u)) distinct
    refine ⟨moves.trans moves', fun w mem => ?_, fun w out => ?_⟩
    · rcases List.mem_cons.1 mem with rfl | later
      · exact own.then_stands (stands w fresh)
      · have other : w ≠ u := fun same => fresh (same ▸ later)
        exact (takes w later).after_stands (others w other) moves.reading
    · rw [List.mem_cons, not_or] at out
      exact (others w out.1).trans (stands w out.2)

/-! ### The lines at the baseline (R75) -/

section
variable (s : State) (pins : BitVec 48)

/-- The state once every line has its pin's level, the units still to come. -/
def State.leveled : State := { s with
  due := { s.due with scan := false }
  lines := { s.lines with
    tab := s.lines.tab.mapIdx fun l (x : Line) => x.baseline (pins.getLsbD l.val)
    awaiting := false } }

theorem State.takeBaseline_eq : s.takeBaseline pins = (s.leveled pins).forEach allUnits fun u v =>
    v.baselineUnit u ((s.leveled pins).baselineLevels u) := rfl

theorem State.leveled_line (l : LineId) : (s.leveled pins).line l = (s.line l).baseline (pins.getLsbD l.val) :=
  Table.get_mapIdx _ _ l

theorem State.roleActive_iff (u : UnitId) (r : Role) : s.roleActive u r = true
    ↔ ∃ l : LineId, l.val / 8 = u.val ∧ (s.line l).role = r ∧ (s.line l).filtered = true := by
  have unit (l : LineId) : LineId.unit l = u ↔ l.val / 8 = u.val := Fin.ext_iff
  simp [State.roleActive, allLines, unit, and_assoc]

theorem State.takeBaseline_takes : (s.leveled pins).BaselinesUnits (s.leveled pins).baselineLevels allUnits
    (s.takeBaseline pins) :=
  (s.leveled pins).baselineUnits _ (List.nodup_finRange 6)

theorem State.takeBaseline_taken : s.BaselineTaken pins (s.takeBaseline pins) := by
  obtain ⟨moves, takes, _⟩ := s.takeBaseline_takes pins
  have each (u : UnitId) := takes u (List.mem_finRange u)
  have lines : (s.takeBaseline pins).lines = (s.leveled pins).lines := by rw [moves.frame]
  have line (l : LineId) := State.line_congr lines l
  refine ⟨fun l => ?_, by rw [lines]; rfl, by rw [lines]; rfl, fun u off => ?_, fun u on => ?_, fun u => ?_⟩
  · rw [line, s.leveled_line]
    rfl
  · rw [(each u).taken]
    exact (each u).counted off
  · rw [(each u).taken]
    exact (each u).tested on
  · simp only [line, (each u).taken]
    exact ⟨State.roleActive_iff _ u _, State.roleActive_iff _ u _, State.roleActive_iff _ u _,
      State.roleActive_iff _ u _⟩

theorem State.takeBaseline_frame : s.takeBaseline pins = { s with
    due := { s.due with scan := false }, lines := (s.takeBaseline pins).lines
    modes := (s.takeBaseline pins).modes, tally := (s.takeBaseline pins).tally
    shift := (s.takeBaseline pins).shift } := by
  have frame := (s.takeBaseline_takes pins).moves.frame
  have lines : (s.takeBaseline pins).lines = (s.leveled pins).lines := by rw [frame]
  rw [lines]
  exact frame

theorem State.takeBaseline_shift : (s.takeBaseline pins).shift
    = { s.shift with units := (s.takeBaseline pins).shift.units } :=
  (s.takeBaseline_takes pins).moves.shift

end

/-! ### A baseline after a restart (R77) -/

theorem State.baselineDue_of {s : State} (due : s.due.scan = true) (awaiting : s.lines.awaiting = true)
    (phase : s.phase = .baselining ∨ s.phase = .running) : s.baselineDue = true := by
  rw [State.baselineDue, due, awaiting, decide_eq_true phase]
  rfl

theorem State.baseline_takesLevels : Claims.BaselineTakesLevelsWithoutRecord := by
  intro s pins due awaiting running
  have run : s.baseline pins = s.takeBaseline pins := by
    rw [State.baseline, if_pos (State.baselineDue_of due awaiting (.inr running)), if_neg (by simp [running])]
  exact ⟨s.takeBaseline pins, congrArg Host.Outcome.next run, s.takeBaseline_taken pins, s.takeBaseline_shift pins,
    s.takeBaseline_frame pins⟩

/-! ### START and the records handed before it (R109, R110) -/

/-- Entries completed with room for each: the records have been added in their order under rising sequences, and
nothing else of the machine has moved. -/
structure State.Completes (s : State) (es : List Entry) (t : State) : Prop where
  frame : t = { s with ring := t.ring }
  started : t.ring.started = s.ring.started
  deferred : t.ring.deferred = s.ring.deferred
  records : ∃ rs, t.ring.records = s.ring.records ++ rs ∧ rs.length = es.length
    ∧ ∀ (i : Nat) (e : Entry), es[i]? = some e →
      ∃ near, rs[i]? = some (e.record (s.ring.next + BitVec.ofNat 32 i) near)

theorem State.completeAll (s : State) (es : List Entry)
    (room : s.ring.records.length + es.length ≤ Config.ringSize) :
    s.Completes es (s.forEach es fun e v => v.complete e) := by
  induction es generalizing s with
  | nil => exact ⟨rfl, rfl, rfl, [], by simp [State.forEach_nil], rfl, by simp⟩
  | cons e es ih =>
    rw [List.length_cons] at room
    have done := s.complete_room e (by omega)
    generalize one : e.record s.ring.next (s.stepNear e.stamp.runClock) = r at done
    have more : (s.complete e).ring.records = s.ring.records ++ [r] := by rw [done]; rfl
    obtain ⟨frame, started, deferred, rs, records, length, each⟩ := ih (s.complete e) (by
      rw [more, List.length_append, List.length_singleton]
      omega)
    rw [more, List.append_assoc] at records
    rw [s.complete_ring_next e] at each
    rw [State.forEach_cons]
    refine ⟨?_, started.trans (s.complete_ring_started e), deferred.trans (by rw [done]; rfl), r :: rs, records,
      by simp [length], fun i x at_i => ?_⟩
    · rw [frame, done]
      rfl
    · cases i with
      | zero =>
        cases at_i
        exact ⟨s.stepNear e.stamp.runClock, by rw [BitVec.add_zero, one]; rfl⟩
      | succ i =>
        rw [EventSeq.add_succ]
        exact each i x at_i

theorem State.start_eq (s : State) (datum : BitVec 16) : s.start datum
    = (s.withRing { s.ring with started := true, deferred := [] }).forEach (s.ownRecord .start datum :: s.ring.deferred)
      fun e v => v.complete e := rfl

/-! ### The end of the power-on sequence (R181, R197) -/

/-- What the end of the power-on sequence does to a state whose ring holds no record yet. -/
structure State.EndsSequence (s t : State) : Prop where
  frame : t = { s with
    phase := .running, shift := { s.shift with running := some (s.openSummary s.ring.next true) }
    ring := t.ring, ports := s.latched t }
  started : t.ring.started = true
  deferred : t.ring.deferred = []
  length : t.ring.records.length = s.ring.deferred.length + 1
  records : ∀ (i : Nat) (e : Entry),
    (s.ownRecord .start (if s.ring.orderly then 2 else 0) :: s.ring.deferred)[i]? = some e →
      ∃ near, t.ring.records[i]? = some (e.record (s.ring.next + BitVec.ofNat 32 i) near)
  noticed : t.noticed .restart

theorem State.endSequence_ends (s : State) (empty : s.ring.records = []) (few : s.ring.deferred.length ≤ 1000) :
    s.EndsSequence s.endSequence := by
  obtain ⟨v, opened⟩ : ∃ v, (s.withShift { s.shift with running := some (s.openSummary s.ring.next true) }).withRing
    { s.ring with started := true, deferred := [] } = v := ⟨_, rfl⟩
  obtain ⟨w, completed⟩ : ∃ w, v.forEach (s.ownRecord .start (if s.ring.orderly then 2 else 0) :: s.ring.deferred)
    (fun e x => x.complete e) = w := ⟨_, rfl⟩
  have ended : s.endSequence = ({ w with phase := .running } : State).raiseAll .restart := by
    rw [← completed, ← opened]
    rfl
  obtain ⟨frame, started, deferred, rs, records, length, each⟩ := v.completeAll
    (s.ownRecord .start (if s.ring.orderly then 2 else 0) :: s.ring.deferred) (by
      rw [← opened, List.length_cons, show Config.ringSize = 1024 from rfl]
      simp only [State.withRing, empty, List.length_nil]
      omega)
  rw [completed, ← opened] at frame started deferred records
  rw [← opened] at each
  have told := ({ w with phase := .running } : State).raiseAll_tells .restart
  rw [← ended] at told
  have ring : s.endSequence.ring = w.ring := by rw [ended]; rfl
  have kept : s.endSequence.ring.records = rs := by
    rw [ring, records]
    exact congrArg (· ++ rs) empty
  refine ⟨?_, by rw [ring, started]; rfl, by rw [ring, deferred]; rfl,
    by rw [kept, length]; rfl, by rw [kept]; exact each, told.noticed (by simp) (by decide)⟩
  have ports : s.endSequence.ports = s.latched s.endSequence := by
    refine told.ports.trans ?_
    rw [State.latched, State.latched, frame]
    rfl
  rw [← ports, ring, ended, State.raiseAll, frame]
  rfl

theorem State.BaselineTaken.congr {s t v : State} {pins : BitVec 48} (h : s.BaselineTaken pins t)
    (lines : v.lines = t.lines) (modes : v.modes = t.modes) (tally : v.tally = t.tally)
    (units : v.shift.units = t.shift.units) : s.BaselineTaken pins v := by
  have line (l : LineId) : v.line l = t.line l := State.line_congr lines l
  have mode (u : UnitId) : v.modeOf u = t.modeOf u := congrArg (fun x => x.get u) modes
  have count (u : UnitId) : v.tallyOf u = t.tallyOf u := congrArg (fun x : TallyUnit => x.units.get u) tally
  unfold State.BaselineTaken
  simp only [line, lines, mode, count, units]
  exact h

/-- The units' marks of a test stand over the baseline. -/
theorem State.BaselineTaken.inTest {s t : State} {pins : BitVec 48} (h : s.BaselineTaken pins t) (u : UnitId) :
    (t.shift.units.get u).inTest = (s.shift.units.get u).inTest := by
  obtain ⟨_, _, _, counted, tested, _⟩ := h
  cases test : (s.modeOf u).test with
  | none => rw [(counted u test).2.2]
  | some x => rw [(tested u (by rw [test]; rfl)).2.2]

theorem State.baseline_endsPowerOn : Claims.FirstBaselineEndsPowerOnSequence := by
  intro s pins due awaiting baselining empty few
  have taken := s.takeBaseline_taken pins
  have frame := s.takeBaseline_frame pins
  have shift := s.takeBaseline_shift pins
  have run : s.baseline pins = (s.takeBaseline pins).endSequence := by
    rw [State.baseline, if_pos (State.baselineDue_of due awaiting (.inl baselining)), if_pos baselining]
  generalize s.takeBaseline pins = b at taken frame shift run
  have ring : b.ring = s.ring := by rw [frame]
  obtain ⟨frame', started, deferred, length, each, noticed⟩ :=
    b.endSequence_ends (by rw [ring, empty]) (by rw [ring]; exact few)
  have start : b.ownRecord .start (if b.ring.orderly then 2 else 0)
      = s.ownRecord .start (if s.ring.orderly then 2 else 0) := by rw [frame]; rfl
  rw [start, ring] at each
  rw [ring] at length frame'
  generalize b.endSequence = t at run frame' started deferred length each noticed
  have shift' : t.shift = { b.shift with running := some (b.openSummary s.ring.next true) } := by rw [frame']
  refine ⟨t, congrArg Host.Outcome.next run,
    taken.congr (by rw [frame']) (by rw [frame']) (by rw [frame']) (by rw [shift']),
    by rw [frame'], started, deferred, length, ?_, fun i e => each (i + 1) e, noticed,
    ⟨b.openSummary s.ring.next true, by rw [shift'], rfl, rfl, ?_, rfl, ?_, ?_, ?_, rfl, rfl, rfl, fun u => ?_⟩,
    ?_, ?_⟩
  · obtain ⟨near, first⟩ := each 0 _ rfl
    exact ⟨near, by rw [first, BitVec.ofNat_eq_ofNat, BitVec.add_zero]⟩
  · rw [State.openSummary, shift]
  · rw [State.openSummary, shift]
  · rw [State.openSummary, frame]
  · rw [State.openSummary, frame]
    rfl
  · rw [State.openSummary, Table.get_map, taken.inTest, SummaryUnit.fresh]
  · rw [shift', shift]
  · have ports : b.latched t = s.latched t := by rw [frame]; rfl
    rw [frame', ports, frame]
    rfl

/-- Settles O19: the baseline's levels and units, and the end of the power-on sequence. -/
theorem baselinesTakeLevelsAndEndSequence : Obligations.BaselinesTakeLevelsAndEndSequence :=
  ⟨State.baseline_takesLevels, State.baseline_endsPowerOn⟩

end Sys2Proof.Machine
end

section
/-! What the Tally Unit, the journal and the Shift Controller make of a settled mode, a breaker closing and a test,
and what a settling and a derivation make of the state (R79 to R86, R132, R134, R135, R150, R177, R178). -/

namespace Sys2Proof.Machine

/-! ### One unit's entry changed -/

theorem Table.get_set {n : Nat} {α : Type} (t : Table n α) (i j : Fin n) (a : α) :
    (t.set i a).get j = if j = i then a else t.get j := by
  split
  · rename_i same
    rw [same, Table.get_set_same]
  · rename_i other
    rw [Table.get_set_other _ _ other]

theorem Table.get_modify {n : Nat} {α : Type} (t : Table n α) (i j : Fin n) (f : α → α) :
    (t.modify i f).get j = if j = i then f (t.get i) else t.get j :=
  Table.get_set t i j _

/-- Where one unit's entry of the running summary is changed, it alone is (R176, R178). -/
theorem Shift.entryBecomes_of_map {x y : Shift} {u : UnitId} {f : SummaryUnit → SummaryUnit}
    (running : y.running = x.running.map fun m => { m with units := m.units.modify u f }) :
    x.EntryBecomes u f y := by
  refine ⟨fun closed => ?_, fun m opened => ⟨{ m with units := m.units.modify u f }, ?_, rfl, fun v => ?_⟩⟩
  · rw [running, closed]
    rfl
  · rw [running, opened]
    rfl
  · exact Table.get_modify _ _ _ _

/-- Where the running summary stays, each entry does. -/
theorem Shift.entryBecomes_refl {x y : Shift} (running : y.running = x.running) (u : UnitId) :
    x.EntryBecomes u (fun z => z) y := by
  refine ⟨fun closed => running.trans closed, fun m opened => ⟨m, running.trans opened, rfl, fun v => ?_⟩⟩
  split
  · rename_i same
    rw [same]
  · rfl

/-! ### The Shift Controller (R177, R178) -/

/-- The Shift Controller has taken a unit's settled mode, with a start or without. -/
def Shift.took (x : Shift) (u : UnitId) (k : Mode) (start : Bool) : Shift := { x with
  units := x.units.modify u fun y => { y with counted := some k }
  running := if start then x.running.map fun m => { m with
      units := m.units.modify u fun z => { z with starts := satAdd Config.smallCap z.starts 1 } }
    else x.running }

theorem Shift.took_unit (x : Shift) (u : UnitId) (k : Mode) (start : Bool) (v : UnitId) :
    (x.took u k start).units.get v
      = if v = u then { x.units.get u with counted := some k } else x.units.get v :=
  Table.get_modify _ _ _ _

theorem Shift.took_inTest (x : Shift) (u : UnitId) (k : Mode) (start : Bool) (v : UnitId) :
    ((x.took u k start).units.get v).inTest = (x.units.get v).inTest := by
  rw [Shift.took_unit]
  split
  · rename_i same
    rw [same]
  · rfl

/-- A start raises the summary's count to its cap, and nothing else moves in the summary (R178). -/
theorem Shift.took_entry (x : Shift) (u : UnitId) (k : Mode) (start : Bool) :
    x.EntryBecomes u (fun z => { z with starts := if start then min 65535 (z.starts + 1) else z.starts })
      (x.took u k start) := by
  cases start with
  | true => exact Shift.entryBecomes_of_map rfl
  | false => exact Shift.entryBecomes_refl rfl u

/-- The Shift Controller has taken the beginning or the end of a unit's test. -/
def Shift.testMarked (x : Shift) (u : UnitId) (inTest : Bool) : Shift := { x with
  units := x.units.modify u fun y => { y with inTest := inTest }
  running := x.running.map fun m => { m with
    units := m.units.modify u fun y => { y with inTest := inTest } } }

theorem Shift.testMarked_inTest (x : Shift) (u : UnitId) (inTest : Bool) :
    ((x.testMarked u inTest).units.get u).inTest = inTest := by
  rw [Shift.testMarked, Table.get_modify, if_pos rfl]

variable (s : State)

theorem State.shiftTakesMode_eq (u : UnitId) (k : Mode) (start : Bool) :
    s.shiftTakesMode u k start = s.withShift (s.shift.took u k start) := by
  cases start <;> rfl

theorem State.shiftTakesTest_eq (u : UnitId) (inTest : Bool) :
    s.shiftTakesTest u inTest = s.withShift (s.shift.testMarked u inTest) := rfl

/-! ### The Tally Unit and the journal (R132, R134, R135, R150) -/

/-- The Tally Unit has taken a settled mode, with a start or without. -/
def UnitTally.took (x : UnitTally) (k : Mode) (start : Bool) : UnitTally := { x with
  counted := some k, starts := if start then min 9999999 (x.starts + 1) else x.starts }

/-- The Tally Unit has taken a breaker closing, or none. -/
def UnitTally.closed (x : UnitTally) (closing : Bool) : UnitTally := { x with
  closings := if closing then min 9999999 (x.closings + 1) else x.closings }

/-- A hand-off tells the journal of a rise unless the count stands at its cap of 9,999,999 (R134). -/
theorem State.noteRise_told (count : Nat) :
    s.noteRise count = s.withJournal (s.journalTold (Decidable.decide (count < 9999999))) :=
  s.noteRise_eq count

theorem State.tallyTakesMode_eq (u : UnitId) (k : Mode) (start : Bool) :
    s.tallyTakesMode u k start = (s.setTally u ((s.tallyOf u).took k start)).withJournal
      (s.journalTold (start && Decidable.decide ((s.tallyOf u).starts < 9999999))) := by
  cases start with
  | false => rfl
  | true => exact (s.setTally u ((s.tallyOf u).took k true)).noteRise_told (s.tallyOf u).starts

theorem State.setTally_self (u : UnitId) : s.setTally u (s.tallyOf u) = s := by
  unfold State.setTally State.tallyOf
  rw [Table.set_get]

/-- The state with a breaker closing counted and told to the journal, or none. -/
def State.closingTold (u : UnitId) (closing : Bool) : State :=
  (s.setTally u ((s.tallyOf u).closed closing)).withJournal
    (s.journalTold (closing && Decidable.decide ((s.tallyOf u).closings < 9999999)))

theorem State.closingTold_eq (u : UnitId) (closing : Bool) :
    (if closing then s.tallyTakesClosing u else s) = s.closingTold u closing := by
  cases closing with
  | false => exact (congrArg (·.withJournal s.journal) (s.setTally_self u)).symm
  | true => exact (s.setTally u ((s.tallyOf u).closed true)).noteRise_told (s.tallyOf u).closings

/-- The journal asks for a COUNT checkpoint at once when a count rises. -/
def State.countDue (s : State) : Bool :=
  Decidable.decide (s.journal.since + 10000000000 ≤ s.tb.runClock ∧ s.journal.state ≠ .failed)

/-- The journal once it has heard of a rise, with a COUNT checkpoint asked for or not. -/
def Journal.countTold (j : Journal) (due : Bool) : Journal := { j with
  countChanged := true, pending := if due then j.pending ||| 2#6 else j.pending }

/-- A telling moves neither what the pace is measured from nor the journal's state (R150). -/
theorem Journal.countTold_kept (j : Journal) (due : Bool) :
    (j.countTold due).since = j.since ∧ (j.countTold due).state = j.state := ⟨rfl, rfl⟩

theorem State.journalTold_false : s.journalTold false = s.journal := rfl

theorem State.journalTold_true : s.journalTold true = s.journal.countTold s.countDue := by
  unfold State.journalTold Journal.countTold State.countDue Journal.since
  cases held : s.journal.lastCapture <;> simp [held]

theorem State.journalTold_kept (rises : Bool) : (s.journalTold rises).since = s.journal.since
    ∧ (s.journalTold rises).state = s.journal.state := by
  cases rises with
  | false =>
    rw [State.journalTold_false]
    exact ⟨rfl, rfl⟩
  | true =>
    rw [State.journalTold_true]
    exact s.journal.countTold_kept s.countDue

theorem State.countDue_journalTold {s t : State} {rises : Bool} (journal : t.journal = s.journalTold rises)
    (clock : t.tb.runClock = s.tb.runClock) : t.countDue = s.countDue := by
  obtain ⟨since, state⟩ := s.journalTold_kept rises
  rw [State.countDue, State.countDue, journal, clock, since, state]

/-- Two tellings in one cycle are one: a pending COUNT request stays the one it is (R149, R150). -/
theorem State.journalTold_journalTold {s t : State} {first : Bool} (journal : t.journal = s.journalTold first)
    (clock : t.tb.runClock = s.tb.runClock) (second : Bool) :
    t.journalTold second = s.journalTold (first || second) := by
  cases second with
  | false => rw [Bool.or_false]; exact journal
  | true =>
    rw [Bool.or_true, State.journalTold_true, State.journalTold_true, State.countDue_journalTold journal clock,
      journal]
    cases first with
    | false => rfl
    | true =>
      rw [State.journalTold_true]
      cases due : s.countDue <;> simp [Journal.countTold, BitVec.or_assoc]

/-! ### A settling (R81, R82) -/

/-- The mode of a unit whose candidate has settled. -/
def UnitMode.settledOn (x : UnitMode) (c : Candidate) : UnitMode := { x with
  settled := some c.mode, since := some c.start, candidate := none }

/-- The settling is a start (R82). -/
def UnitMode.startsOn (x : UnitMode) (c : Candidate) : Bool :=
  Decidable.decide (x.settled = some .stand ∧ c.mode ≠ .stand)

/-- The MODE record of a settling. -/
def UnitMode.modeEntry (x : UnitMode) (u : UnitId) (c : Candidate) : Entry :=
  { kind := .mode, field := BitVec.ofNat 8 (u.val + 1), stamp := c.start
    datum := datumOf (modeCode x.settled) c.mode.code }

/-- The MODE record dated at the candidate's start is the one record of a settling. -/
theorem State.settleOn_tells (u : UnitId) (c : Candidate) :
    s.Tells (s.settleOn u c) [(s.modeOf u).modeEntry u c] [] := by
  have told : s.Tells
      ((s.setMode u ((s.modeOf u).settledOn c)).append ((s.modeOf u).modeEntry u c)) [_] [] :=
    (State.append_tells _ _).after_silence rfl rfl
  change s.Tells ((State.tallyTakesMode ((s.setMode u ((s.modeOf u).settledOn c)).append
    ((s.modeOf u).modeEntry u c)) u c.mode _).shiftTakesMode u c.mode _) _ _
  generalize State.append _ _ = noted at told ⊢
  rw [State.shiftTakesMode_eq, State.tallyTakesMode_eq]
  exact told.then_silence rfl rfl

/-- All that a settling changes. -/
theorem State.settleOn_eq (u : UnitId) (c : Candidate) :
    s.settleOn u c = { s with
      modes := s.modes.set u ((s.modeOf u).settledOn c)
      tally := { s.tally with
        units := s.tally.units.set u ((s.tallyOf u).took c.mode ((s.modeOf u).startsOn c)) }
      journal := s.journalTold
        ((s.modeOf u).startsOn c && Decidable.decide ((s.tallyOf u).starts < 9999999))
      shift := s.shift.took u c.mode ((s.modeOf u).startsOn c)
      ring := (s.settleOn u c).ring
      ports := s.latched (s.settleOn u c) } := by
  rw [← (s.settleOn_tells u c).ports]
  unfold State.settleOn
  dsimp only
  rw [State.shiftTakesMode_eq, State.tallyTakesMode_eq]
  generalize held : s.setMode u _ = t
  obtain ⟨r, p, noted⟩ :=
    t.noteUnit_frame .mode u c.start (datumOf (modeCode (s.modeOf u).settled) c.mode.code) false
  rw [noted, ← held]
  rfl

theorem State.settle_of_due {u : UnitId} {c : Candidate} (standing : (s.modeOf u).candidate = some c)
    (working : c.start.runClock + s.settings.working.settleTime * 1000000 ≤ s.tb.runClock)
    (atCycle : c.start.runClock + s.settings.atCycle.settleTime * 1000000 ≤ s.tb.runClock) :
    s.settle u = s.settleOn u c := by
  simp [State.settle, State.settlingDue, Candidate.stood, standing, working, atCycle]

theorem State.settle_of_early {u : UnitId} {c : Candidate} (standing : (s.modeOf u).candidate = some c)
    (early : s.tb.runClock < c.start.runClock + s.settings.working.settleTime * 1000000
      ∨ s.tb.runClock < c.start.runClock + s.settings.atCycle.settleTime * 1000000) :
    s.settle u = s := by
  have waits : s.settlingDue u = false := by
    rcases early with working | atCycle <;>
      simp [State.settlingDue, Candidate.stood, standing] <;> omega
  simp [State.settle, standing, waits]

/-! ### What has become of one unit -/

section
variable {s t : State} {u : UnitId}

theorem State.modeOf_of_modes {x : UnitMode} (modes : t.modes = s.modes.set u x) :
    t.modeOf u = x ∧ ∀ v, v ≠ u → t.modeOf v = s.modeOf v := by
  unfold State.modeOf
  rw [modes]
  exact ⟨Table.get_set_same _ _ _, fun v other => Table.get_set_other _ _ other⟩

theorem State.tallyOf_of_tally {y : UnitTally}
    (tally : t.tally = { s.tally with units := s.tally.units.set u y }) :
    t.tallyOf u = y ∧ (∀ v, v ≠ u → t.tallyOf v = s.tallyOf v) ∧ t.tally.locked = s.tally.locked := by
  unfold State.tallyOf
  rw [tally]
  exact ⟨Table.get_set_same _ _ _, fun v other => Table.get_set_other _ _ other, rfl⟩

/-- What has become of each block where a unit's settled mode was handed on (R81). -/
theorem State.modeTaken {x : UnitMode} {y : UnitTally} {j : Journal} {k : Mode} {start : Bool}
    (whole : t = { s with
      modes := s.modes.set u x
      tally := { s.tally with units := s.tally.units.set u y }
      journal := j
      shift := s.shift.took u k start
      ring := t.ring
      ports := s.latched t }) :
    (t.modeOf u = x ∧ ∀ v, v ≠ u → t.modeOf v = s.modeOf v)
      ∧ (t.tallyOf u = y ∧ (∀ v, v ≠ u → t.tallyOf v = s.tallyOf v) ∧ t.tally.locked = s.tally.locked)
      ∧ t.journal = j
      ∧ (t.shift = { s.shift with units := t.shift.units, running := t.shift.running }
        ∧ (∀ v, t.shift.units.get v
            = if v = u then { s.shift.units.get u with counted := some k } else s.shift.units.get v)
        ∧ s.shift.EntryBecomes u
            (fun z => { z with starts := if start then min 65535 (z.starts + 1) else z.starts }) t.shift)
      ∧ t = { s with
          modes := t.modes, tally := t.tally, journal := t.journal, shift := t.shift
          ring := t.ring, ports := s.latched t } := by
  have modes := congrArg State.modes whole
  have tally := congrArg State.tally whole
  have journal := congrArg State.journal whole
  have shift := congrArg State.shift whole
  refine ⟨State.modeOf_of_modes modes, State.tallyOf_of_tally tally, journal, ?_, ?_⟩
  · rw [shift]
    exact ⟨rfl, Shift.took_unit _ _ _ _, Shift.took_entry _ _ _ _⟩
  · rw [modes, tally, journal, shift]
    exact whole

end

/-! ### A derivation (R79, R80) -/

/-- A mode that is neither the settled nor the candidate's makes a new candidate. -/
theorem nextCandidate_of_new {settled : Option Mode} {old : Option Candidate} {derived : Mode}
    (other : settled ≠ some derived) (fresh : ∀ c, old = some c → c.mode ≠ derived) (start : Stamp) :
    nextCandidate settled old derived start = some ⟨derived, start⟩ := by
  cases old with
  | none => exact if_neg other
  | some c => exact (if_neg other).trans (if_neg (fresh c rfl))

/-- The candidate that a derivation at an instant makes. -/
def UnitMode.next (x : UnitMode) (start : Stamp) : Option Candidate :=
  nextCandidate x.settled x.candidate x.levels.derived start

/-- The candidate has stood for the settle time in force. -/
def State.stood (s : State) (c : Candidate) : Prop :=
  c.start.runClock + s.settings.working.settleTime * 1000000 ≤ s.tb.runClock

/-- A unit's candidate may have settled, though not before it has stood for the settle time in force. -/
def State.MaySettle (s : State) (u : UnitId) (t : State) : Prop :=
  t = s ∨ ∃ c, (s.modeOf u).candidate = some c ∧ s.stood c ∧ t = s.settleOn u c

theorem State.settle_maySettle (u : UnitId) : s.MaySettle u (s.settle u) := by
  cases standing : (s.modeOf u).candidate with
  | none => exact .inl (by simp [State.settle, standing])
  | some c =>
    by_cases passed : s.stood c
        ∧ c.start.runClock + s.settings.atCycle.settleTime * 1000000 ≤ s.tb.runClock
    · exact .inr ⟨c, standing, passed.1, s.settle_of_due standing passed.1 passed.2⟩
    · unfold State.stood at passed
      exact .inl (s.settle_of_early standing (by omega))

theorem State.settleFormed_of_stood {u : UnitId} {c : Candidate} (standing : (s.modeOf u).candidate = some c)
    (stood : s.stood c) : s.settleFormed u = s.settleOn u c := by
  unfold State.stood at stood
  simp [State.settleFormed, Candidate.stood, standing, stood]

theorem State.settleFormed_maySettle (u : UnitId) : s.MaySettle u (s.settleFormed u) := by
  cases standing : (s.modeOf u).candidate with
  | none => exact .inl (by simp [State.settleFormed, standing])
  | some c =>
    by_cases stood : s.stood c
    · exact .inr ⟨c, standing, stood, s.settleFormed_of_stood standing stood⟩
    · unfold State.stood at stood
      exact .inl (by simp [State.settleFormed, Candidate.stood, standing, stood])

/-- The state with the candidate that a derivation makes, before any settling. -/
def State.proposed (s : State) (u : UnitId) (start : Stamp) : State :=
  s.setMode u { s.modeOf u with candidate := (s.modeOf u).next start }

theorem State.proposed_modeOf (u : UnitId) (start : Stamp) :
    (s.proposed u start).modeOf u = { s.modeOf u with candidate := (s.modeOf u).next start } :=
  s.modeOf_setMode_same u _

/-- A settling removes the candidate, whichever it was. -/
theorem State.proposed_settleOn (u : UnitId) (start : Stamp) (c : Candidate) :
    (s.proposed u start).settleOn u c = s.settleOn u c := by
  unfold State.settleOn
  rw [State.proposed_modeOf]
  unfold State.proposed State.setMode
  dsimp only
  rw [Table.set_set]

/-- A derivation makes its candidate, which may settle at once (R79, R80). -/
theorem State.derive_maySettle (u : UnitId) (start : Stamp) :
    (s.proposed u start).MaySettle u (s.derive u start) := by
  change State.MaySettle _ u (if _ then (s.proposed u start).settle u else (s.proposed u start).settleFormed u)
  split
  · exact State.settle_maySettle _ u
  · exact State.settleFormed_maySettle _ u

/-- While the candidate it makes has not stood for the settle time, a derivation makes it and no more. -/
theorem State.derive_of_early {u : UnitId} {start : Stamp}
    (early : ∀ c, (s.modeOf u).next start = some c → ¬ s.stood c) : s.derive u start = s.proposed u start := by
  rcases s.derive_maySettle u start with stays | ⟨c, standing, stood, -⟩
  · exact stays
  · rw [State.proposed_modeOf] at standing
    exact absurd stood (early c standing)

/-- A mode that is neither the settled nor the candidate's settles at once when its settle time has passed. -/
theorem State.derive_of_late {u : UnitId} {start : Stamp}
    (other : (s.modeOf u).settled ≠ some (s.modeOf u).levels.derived)
    (fresh : ∀ c, (s.modeOf u).candidate = some c → c.mode ≠ (s.modeOf u).levels.derived)
    (late : start.runClock + s.settings.working.settleTime * 1000000 ≤ s.tb.runClock) :
    s.derive u start = s.settleOn u ⟨(s.modeOf u).levels.derived, start⟩ := by
  have next := nextCandidate_of_new other fresh start
  have moved : (s.modeOf u).next start ≠ (s.modeOf u).candidate := fun same =>
    fresh _ (same.symm.trans next) rfl
  have standing : ((s.proposed u start).modeOf u).candidate = _ :=
    (congrArg UnitMode.candidate (s.proposed_modeOf u start)).trans next
  calc s.derive u start = (s.proposed u start).settleFormed u := if_neg moved
    _ = (s.proposed u start).settleOn u ⟨(s.modeOf u).levels.derived, start⟩ :=
        State.settleFormed_of_stood _ standing late
    _ = _ := s.proposed_settleOn u start _

/-- A derivation moves no other unit's mode, and no test mark of the Shift Controller. -/
theorem State.derive_keeps (u : UnitId) (start : Stamp) :
    (∀ v, v ≠ u → (s.derive u start).modeOf v = s.modeOf v)
      ∧ ∀ v, ((s.derive u start).shift.units.get v).inTest = (s.shift.units.get v).inTest := by
  rcases s.derive_maySettle u start with stays | ⟨c, -, -, settles⟩
  · rw [stays]
    exact ⟨(State.modeOf_of_modes rfl).2, fun _ => rfl⟩
  · rw [settles, s.proposed_settleOn, s.settleOn_eq]
    exact ⟨(State.modeOf_of_modes rfl).2, Shift.took_inTest _ _ _ _⟩

end Sys2Proof.Machine
end

section
/-! Settlings: O23 (R80 to R82, R132, R134, R135, R150, R177, R178). -/

namespace Sys2Proof.Machine

/-- Settles O23: the settling's own changes, read off block by block, and nothing before it is due. -/
theorem candidateSettlesAfterSettleTime : Obligations.CandidateSettlesAfterSettleTime := by
  intro s u c standing
  refine ⟨fun working atCycle on => ?_, fun early => congrArg Host.Outcome.next (s.settle_of_early standing early)⟩
  have settled := s.settle_of_due standing working atCycle
  have whole := s.settleOn_eq u c
  have held := (s.settleOn_tells u c).holds_first on (by simp)
  generalize s.settleOn u c = t at settled whole held
  obtain ⟨⟨mode, modes⟩, ⟨tally, tallies, locked⟩, journal, ⟨shift, units, entry⟩, frame⟩ :=
    State.modeTaken whole
  exact ⟨t, congrArg Host.Outcome.next settled, mode, modes, tally, tallies, locked, journal, shift, units, entry,
    held, frame⟩

end Sys2Proof.Machine
end

section
/-! Levels handed to the Mode Detector: O25 (R78 to R83, R85, R134, R135, R150, R178). -/

namespace Sys2Proof.Machine

variable (s : State)

/-- The unit's mode with a level stored. -/
def UnitMode.storing (x : UnitMode) (k : LevelName) (active : Bool) : UnitMode :=
  { x with levels := x.levels.set k active }

/-- The level handed is an operate of the breaker (R83). -/
def UnitMode.closes (x : UnitMode) (k : LevelName) (active : Bool) : Bool :=
  Decidable.decide (k = .breaker) && active && !x.levels.breaker

/-- Out of test a breaker closing is counted, the level stored, and the mode derived (R78, R83). -/
theorem State.handLevel_of_no_test {u : UnitId} (out : (s.modeOf u).test = none) (k : LevelName) (active : Bool)
    (x : Stamp) : s.handLevel u k active x
      = ((s.closingTold u ((s.modeOf u).closes k active)).setMode u ((s.modeOf u).storing k active)).derive u x := by
  rw [← State.closingTold_eq, UnitMode.closes, Bool.and_right_comm]
  exact if_neg (by simp [out])

/-- A level that forms, keeps or drops a candidate settles nothing while the candidate has not stood. -/
theorem State.handLevel_of_early {u : UnitId} {k : LevelName} {active : Bool} {x : Stamp}
    (out : (s.modeOf u).test = none)
    (early : ∀ c, ((s.modeOf u).storing k active).next x = some c → ¬ s.stood c) :
    s.handLevel u k active x = (s.closingTold u ((s.modeOf u).closes k active)).setMode u
      { (s.modeOf u).storing k active with candidate := ((s.modeOf u).storing k active).next x } := by
  rw [s.handLevel_of_no_test out]
  generalize told : s.closingTold u _ = t
  have mode := t.modeOf_setMode_same u ((s.modeOf u).storing k active)
  rw [State.derive_of_early]
  · unfold State.proposed
    rw [mode]
    unfold State.setMode
    dsimp only
    rw [Table.set_set]
  · rw [mode, ← told]
    exact early

/-- A candidate that a derivation makes is the one that stood or the new one. -/
theorem UnitMode.next_cases {x : UnitMode} {start : Stamp} {c : Candidate} (h : x.next start = some c) :
    x.candidate = some c ∨ c.start = start := by
  unfold UnitMode.next nextCandidate at h
  split at h
  · cases h
  · split at h
    · split at h
      · rename_i old _
        exact .inl (old.trans h)
      · cases h
        exact .inr rfl
    · cases h
      exact .inr rfl

/-- A level that forms a candidate whose settle time has passed settles it, its closing counted first. -/
theorem State.handLevel_of_late {u : UnitId} {k : LevelName} {active : Bool} {x : Stamp}
    (out : (s.modeOf u).test = none)
    (fresh : ∀ c, (s.modeOf u).candidate = some c → c.mode ≠ ((s.modeOf u).storing k active).levels.derived)
    (other : (s.modeOf u).settled ≠ some ((s.modeOf u).storing k active).levels.derived)
    (late : x.runClock + s.settings.working.settleTime * 1000000 ≤ s.tb.runClock) :
    s.handLevel u k active x
      = ((s.closingTold u ((s.modeOf u).closes k active)).setMode u ((s.modeOf u).storing k active)).settleOn u
          ⟨((s.modeOf u).storing k active).levels.derived, x⟩ := by
  have mode := (s.closingTold u ((s.modeOf u).closes k active)).modeOf_setMode_same u
    ((s.modeOf u).storing k active)
  have settles := State.derive_of_late
    ((s.closingTold u ((s.modeOf u).closes k active)).setMode u ((s.modeOf u).storing k active)) (u := u) (start := x)
  rw [mode] at settles
  rw [s.handLevel_of_no_test out]
  exact settles other fresh late

/-- A closing and a level stored go before a settling. -/
theorem State.closingTold_settleOn (u : UnitId) (closing : Bool) (x : UnitMode) (c : Candidate) {t : State}
    (settled : ((s.closingTold u closing).setMode u x).settleOn u c = t) :
    s.Tells t [x.modeEntry u c] [] ∧ t = { s with
      modes := s.modes.set u (x.settledOn c)
      tally := { s.tally with
        units := s.tally.units.set u (((s.tallyOf u).closed closing).took c.mode (x.startsOn c)) }
      journal := s.journalTold ((closing && Decidable.decide ((s.tallyOf u).closings < 9999999))
        || (x.startsOn c && Decidable.decide ((s.tallyOf u).starts < 9999999)))
      shift := s.shift.took u c.mode (x.startsOn c)
      ring := t.ring
      ports := s.latched t } := by
  have tells := State.settleOn_tells ((s.closingTold u closing).setMode u x) u c
  have whole := State.settleOn_eq ((s.closingTold u closing).setMode u x) u c
  rw [State.modeOf_setMode_same] at tells whole
  rw [settled] at tells whole
  have tally : ((s.closingTold u closing).setMode u x).tallyOf u = (s.tallyOf u).closed closing :=
    Table.get_set_same _ _ _
  have journal := State.journalTold_journalTold (s := s) (t := (s.closingTold u closing).setMode u x) rfl rfl
    (x.startsOn c && Decidable.decide ((s.tallyOf u).starts < 9999999))
  rw [tally] at whole
  refine ⟨tells.after_silence rfl rfl, ?_⟩
  rw [← journal]
  refine whole.trans ?_
  unfold State.closingTold State.setMode State.setTally
  dsimp only [State.withJournal]
  rw [Table.set_set, Table.set_set]
  rfl

/-- A candidate of another mode than the settled one makes a start out of STAND (R82). -/
theorem UnitMode.startsOn_of_other {x : UnitMode} {c : Candidate} (other : x.settled ≠ some c.mode) :
    x.startsOn c = Decidable.decide (x.settled = some .stand) := by
  refine decide_eq_decide.2 ⟨fun start => start.1, fun stand => ⟨stand, fun same => other ?_⟩⟩
  rw [stand, same]

/-- Outside test a level drops, keeps or replaces the candidate, which settles nothing (R78, R79, R83). -/
theorem State.handLevel_derives (u : UnitId) (k : LevelName) (active : Bool) (x : Stamp)
    (out : (s.modeOf u).test = none)
    (early : s.tb.runClock < x.runClock + s.settings.working.settleTime * 1000000)
    (waiting : ∀ c, (s.modeOf u).candidate = some c →
      s.tb.runClock < c.start.runClock + s.settings.working.settleTime * 1000000) :
    s.handLevel u k active x = (s.closingTold u ((s.modeOf u).closes k active)).setMode u
      { (s.modeOf u).storing k active with candidate := ((s.modeOf u).storing k active).next x } :=
  s.handLevel_of_early out fun c next stood => by
    unfold State.stood at stood
    rcases UnitMode.next_cases next with kept | fresh
    · exact absurd (waiting c kept) (by omega)
    · rw [fresh] at stood
      omega

/-- Settles O25: in test the level is stored; outside it the candidate follows the derivation, and a new one
whose settle time has passed settles. -/
theorem levelDerivesModeOutsideTestOnly : Obligations.LevelDerivesModeOutsideTestOnly := by
  refine ⟨fun s u k active x test => s.handLevel_of_test test k active x,
    fun s u k active x out early waiting => ?_, fun s u k active x out => ?_⟩
  · have whole := s.handLevel_derives u k active x out early waiting
    intro levels t
    change t = _ at whole
    obtain ⟨mode, modes⟩ := State.modeOf_of_modes (s := s) (congrArg State.modes whole)
    obtain ⟨tally, tallies, locked⟩ := State.tallyOf_of_tally (s := s) (congrArg State.tally whole)
    have journal := congrArg State.journal whole
    refine ⟨mode, ⟨tally, journal⟩, fun v other => ⟨modes v other, tallies v other⟩, locked, ?_⟩
    rw [journal, congrArg State.tally whole, congrArg State.modes whole]
    exact whole
  · intro levels fresh other late closing start was y t
    have starts : ((s.modeOf u).storing k active).startsOn ⟨((s.modeOf u).storing k active).levels.derived, x⟩
        = start := UnitMode.startsOn_of_other other
    obtain ⟨tells, whole⟩ := s.closingTold_settleOn u _ _ _ (s.handLevel_of_late out fresh other late).symm
    rw [starts] at whole
    obtain ⟨⟨mode, modes⟩, ⟨tally, tallies, locked⟩, journal, ⟨shift, units, entry⟩, frame⟩ :=
      State.modeTaken whole
    exact ⟨mode, tally, journal, fun v other => ⟨modes v other, tallies v other⟩, locked, shift, units, entry,
      fun on => tells.holds_first on (by simp), frame⟩

end Sys2Proof.Machine
end

section
/-! Tests begun and ended: O26 (R84, R86, R87, R177). -/

namespace Sys2Proof.Machine

variable (s : State)

/-! ### The mark of a test and its record -/

/-- A unit's mode changed, a record written, and the Shift Controller told whether the unit is in test. -/
def State.testTold (u : UnitId) (x : UnitMode) (e : Entry) (inTest : Bool) : State :=
  ((s.setMode u x).append e).shiftTakesTest u inTest

theorem State.testTold_tells (u : UnitId) (x : UnitMode) (e : Entry) (inTest : Bool) :
    s.Tells (s.testTold u x e inTest) [e] [] := by
  have told : s.Tells ((s.setMode u x).append e) [e] [] := (State.append_tells _ e).after_silence rfl rfl
  unfold State.testTold
  rw [State.shiftTakesTest_eq]
  generalize State.append _ e = noted at told ⊢
  exact told.then_silence rfl rfl

theorem State.testTold_eq (u : UnitId) (x : UnitMode) (e : Entry) (inTest : Bool) :
    s.testTold u x e inTest = { s with
      modes := s.modes.set u x
      shift := s.shift.testMarked u inTest
      ring := (s.testTold u x e inTest).ring
      ports := s.latched (s.testTold u x e inTest) } := by
  rw [← (s.testTold_tells u x e inTest).ports]
  unfold State.testTold
  rw [State.shiftTakesTest_eq]
  obtain ⟨r, p, noted⟩ := (s.setMode u x).append_frame e
  rw [noted]
  rfl

/-! ### SET TEST (R84) -/

/-- The unit's mode once a test has begun: its candidate removed, the deadline set by the test length. -/
def State.testBegun (u : UnitId) : UnitMode := { s.modeOf u with
  candidate := none
  test := some ⟨s.reading, s.tb.runClock + s.settings.working.testLength * 3600 * 1000000000⟩ }

/-- The TEST_ON record. -/
def State.testOn (unit : Byte) : Entry :=
  { kind := .testOn, field := unit, stamp := s.reading, datum := BitVec.ofNat 16 unit.toNat, test := true }

theorem unitByte_of_eq {b : Byte} {u : UnitId} (h : b.toNat = u.val + 1) : unitByte u = b := by
  unfold unitByte
  rw [← h, BitVec.ofNat_toNat, BitVec.setWidth_eq]

theorem State.inTest_eq (u : UnitId) : s.inTest u = (s.modeOf u).test.isSome := rfl

theorem State.setTest_of_out {unit : Byte} {u : UnitId} (named : unit.toNat = u.val + 1)
    (out : (s.modeOf u).test = none) :
    s.setTest unit = (s.testTold u (s.testBegun u) (s.testOn unit) true).ok := by
  unfold State.setTest
  rw [unitNamed_of_eq named]
  dsimp only
  rw [s.inTest_eq, out, if_neg (by simp), State.noteUnit, unitByte_of_eq named, State.testTold, State.testOn,
    BitVec.ofNat_toNat]
  rfl

theorem State.setTest_of_in {unit : Byte} {u : UnitId} (named : unit.toNat = u.val + 1)
    (test : (s.modeOf u).test.isSome = true) : s.setTest unit = s.refuse .wrongState := by
  unfold State.setTest
  rw [unitNamed_of_eq named]
  exact if_pos test

theorem State.setTest_of_outside {unit : Byte} (outside : unit.toNat = 0 ∨ 6 < unit.toNat) :
    s.setTest unit = s.refuse .badValue := by
  rw [State.setTest, unitNamed_of_outside outside]

theorem State.setTest_putsInTest : Claims.SetTestPutsUnitInTest := by
  intro s q unit waits
  refine ⟨_, rfl, fun outside => State.request_refused waits (by simp) (s.setTest_of_outside outside),
    fun u named => ⟨fun test => State.request_refused waits (by simp) (s.setTest_of_in named test),
      fun out on => ?_⟩⟩
  have told := s.testTold_tells u (s.testBegun u) (s.testOn unit) true
  have whole := s.testTold_eq u (s.testBegun u) (s.testOn unit) true
  have decided := s.setTest_of_out named out
  generalize s.testTold u (s.testBegun u) (s.testOn unit) true = e at told whole decided
  obtain ⟨answered, ⟨o, taken⟩, -⟩ :=
    s.take_answer_noticed q (.setTest unit) e .ok [] waits (by simp) decided told.ports
  obtain ⟨mode, modes⟩ := State.modeOf_of_modes (congrArg State.modes whole)
  have shift := congrArg State.shift whole
  have held := told.holds_first on (by simp)
  rw [State.request_of_waits waits]
  refine ⟨answered, ?_⟩
  rw [taken]
  refine ⟨mode, modes, ?_, held, ?_⟩
  · change (e.shift.units.get u).inTest = true
    rw [shift]
    exact Shift.testMarked_inTest _ _ _
  · rw [whole]

/-! ### The end of a test (R86) -/

/-- The TEST_OFF record of a test that ends in one of the ways of R86. -/
def State.testOff (u : UnitId) (how : Nat) : Entry :=
  { kind := .testOff, field := BitVec.ofNat 8 (u.val + 1), stamp := s.reading
    datum := BitVec.ofNat 16 (how * 256 + (u.val + 1)) }

theorem State.closeTest_eq (u : UnitId) (how : Nat) :
    s.closeTest u how = s.testTold u { s.modeOf u with test := none } (s.testOff u how) false := rfl

/-- A unit's test has ended, and its present levels have been derived at once from now (R86). -/
structure State.EndsTest (s t : State) (u : UnitId) (how : Nat) : Prop where
  test : (t.modeOf u).test = none
  levels : (t.modeOf u).levels = (s.modeOf u).levels
  mark : (t.shift.units.get u).inTest = false
  others : ∀ v, v ≠ u → t.modeOf v = s.modeOf v
  derived : 0 < s.settings.working.settleTime → (s.modeOf u).candidate = none →
    (t.modeOf u).settled = (s.modeOf u).settled
      ∧ (t.modeOf u).candidate
          = if (s.modeOf u).settled = some (s.modeOf u).levels.derived then none
            else some ⟨(s.modeOf u).levels.derived, s.reading⟩
  record : t.ring.holds s.ring.next (s.testOff u how)
  frame : t = { s with
    modes := t.modes, tally := t.tally, shift := t.shift, journal := t.journal
    ring := t.ring, ports := t.ports }

/-- The answer to END TEST moves its port alone. -/
theorem State.EndsTest.with_ports {s t : State} {u : UnitId} {how : Nat} (h : s.EndsTest t u how)
    (o : PerPort PortState) : s.EndsTest { t with ports := o } u how :=
  { h with frame := by rw [h.frame] }

/-- Without a candidate before, a derivation from now settles nothing unless the settle time is 0 (R80). -/
theorem State.derive_of_now {u : UnitId} (settleTime : 0 < s.settings.working.settleTime)
    (idle : (s.modeOf u).candidate = none) : s.derive u s.reading = s.proposed u s.reading := by
  refine s.derive_of_early fun c next stood => ?_
  have start : c.start = s.reading := by
    rcases UnitMode.next_cases next with kept | fresh
    · rw [idle] at kept
      cases kept
    · exact fresh
  unfold State.stood at stood
  rw [start] at stood
  change s.tb.runClock + _ ≤ _ at stood
  omega

/-- The test closed, with or without the notice of an expiry, and the mode derived, is the end of the test. -/
theorem State.endsTest {u : UnitId} {how : Nat} {p : PerPort PortState} {v : State} {ks : List Notice}
    (closed : v = { s.closeTest u how with ports := p }) (told : s.Tells v [s.testOff u how] ks)
    (on : s.ring.started = true) : s.EndsTest (v.derive u s.reading) u how := by
  have whole : v = { s with
      modes := s.modes.set u { s.modeOf u with test := none }
      shift := s.shift.testMarked u false
      ring := v.ring, ports := v.ports } := by
    rw [closed, s.closeTest_eq, s.testTold_eq]
  obtain ⟨mode, modes⟩ := State.modeOf_of_modes (congrArg State.modes whole)
  have reading : v.reading = s.reading := by rw [whole]; rfl
  have settleTime : v.settings.working.settleTime = s.settings.working.settleTime := by rw [whole]
  have shift := congrArg State.shift whole
  have moves := v.derive_moves u s.reading
  obtain ⟨others, marks⟩ := v.derive_keeps u s.reading
  refine ⟨?_, ?_, ?_, fun w other => (others w other).trans (modes w other), fun settles idle => ?_,
    told.holds_then_few moves.few on (by simp), ?_⟩
  · rw [moves.test, mode]
  · rw [moves.levels, mode]
  · rw [marks, shift]
    exact Shift.testMarked_inTest _ _ _
  · rw [← reading, v.derive_of_now (by rw [settleTime]; exact settles) (by rw [mode]; exact idle),
      State.proposed_modeOf, mode]
    refine ⟨rfl, ?_⟩
    change nextCandidate _ (s.modeOf u).candidate _ _ = _
    rw [idle]
    rfl
  · have frame := moves.frame
    generalize v.derive u s.reading = t at frame
    rw [whole] at frame
    exact frame

/-! ### END TEST and the expiry (R86, R87) -/

theorem State.endTest_of_in {unit : Byte} {u : UnitId} (named : unit.toNat = u.val + 1)
    (test : (s.modeOf u).test.isSome = true) :
    s.endTest unit = ((s.closeTest u 0).derive u s.reading).ok := by
  unfold State.endTest
  rw [unitNamed_of_eq named]
  exact if_pos test

theorem State.endTest_of_out {unit : Byte} {u : UnitId} (named : unit.toNat = u.val + 1)
    (out : (s.modeOf u).test = none) : s.endTest unit = s.refuse .wrongState := by
  unfold State.endTest
  rw [unitNamed_of_eq named]
  exact if_neg (by rw [s.inTest_eq, out]; simp)

theorem State.endTest_of_outside {unit : Byte} (outside : unit.toNat = 0 ∨ 6 < unit.toNat) :
    s.endTest unit = s.refuse .badValue := by
  rw [State.endTest, unitNamed_of_outside outside]

theorem State.expireTest_of_due {u : UnitId} {x : TestRun} (test : (s.modeOf u).test = some x)
    (due : x.deadline ≤ s.tb.runClock) :
    s.expireTest u = ((s.closeTest u 1).raiseAll .test).derive u s.reading := by
  simp [State.expireTest, State.testExpiryDue, test, due]

theorem State.expireTest_of_early {u : UnitId} {x : TestRun} (test : (s.modeOf u).test = some x)
    (early : s.tb.runClock < x.deadline) : s.expireTest u = s := by
  simp [State.expireTest, State.testExpiryDue, test, early]

/-- An END TEST that waits for a unit in test is answered OK and ends the test. -/
theorem State.request_endTest_ends {q : Port} {unit : Byte} {u : UnitId}
    (waits : (s.port q).waits (.endTest unit) = true) (named : unit.toNat = u.val + 1)
    (test : (s.modeOf u).test.isSome = true) (on : s.ring.started = true) :
    AnsweredAndNoticed q (.endTest unit) .ok [] s (s.request q (.endTest unit))
      ∧ s.EndsTest (s.request q (.endTest unit)) u 0 := by
  have told := s.testTold_tells u { s.modeOf u with test := none } (s.testOff u 0) false
  have ends := s.endsTest (v := s.closeTest u 0) rfl told on
  have decided := s.endTest_of_in named test
  have ports := State.latched_trans told.ports (State.derive_moves (s.closeTest u 0) u s.reading).few.ports
  generalize (s.closeTest u 0).derive u s.reading = e at ends decided ports
  obtain ⟨answered, ⟨o, taken⟩, -⟩ :=
    s.take_answer_noticed q (.endTest unit) e .ok [] waits (by simp) decided ports
  rw [State.request_of_waits waits]
  refine ⟨answered, ?_⟩
  rw [taken]
  exact ends.with_ports o

/-- A test that has reached its deadline ends with the TEST notice. -/
theorem State.expireTest_ends {u : UnitId} {x : TestRun} (test : (s.modeOf u).test = some x)
    (due : x.deadline ≤ s.tb.runClock) (on : s.ring.started = true) :
    s.EndsTest (s.expireTest u) u 1 ∧ (s.expireTest u).noticed .test
      ∧ (s.expireTest u).ports = s.latched (s.expireTest u) := by
  have told : s.Tells ((s.closeTest u 1).raiseAll .test) [s.testOff u 1] [.test] :=
    (s.testTold_tells u { s.modeOf u with test := none } (s.testOff u 1) false).trans (State.raiseAll_tells _ .test)
  obtain ⟨_, _, rest, -⟩ := (State.derive_moves ((s.closeTest u 1).raiseAll .test) u s.reading).few
  have all := told.trans rest
  rw [s.expireTest_of_due test due]
  exact ⟨s.endsTest rfl told on, all.noticed (by simp) (by decide), all.ports⟩

theorem State.tests_end : Claims.TestEndsWithFreshDerivation := by
  refine ⟨fun s q unit waits => ⟨_, rfl, fun outside =>
    State.request_refused waits (by simp) (s.endTest_of_outside outside), fun u named =>
      ⟨fun out => State.request_refused waits (by simp) (s.endTest_of_out named out), fun test on => ?_⟩⟩,
    fun s u x test => ⟨fun due on => ?_, fun early => congrArg Host.Outcome.next (s.expireTest_of_early test early)⟩⟩
  · obtain ⟨answered, out, levels, mark, others, derived, record, frame⟩ := s.request_endTest_ends waits named test on
    exact ⟨answered, out, levels, mark, others, derived, record, frame⟩
  · obtain ⟨⟨out, levels, mark, others, derived, record, frame⟩, noticed, ports⟩ := s.expireTest_ends test due on
    exact ⟨_, rfl, ⟨out, levels, mark, others, derived, record, frame⟩, noticed, ports⟩

/-- Settles O26: SET TEST, END TEST and the expiry. -/
theorem testsBeginAndEnd : Obligations.TestsBeginAndEnd :=
  ⟨State.setTest_putsInTest, State.tests_end⟩

end Sys2Proof.Machine
end

section
/-! The Event Ring's own operations: completing a record (R95 to R99), what stands in its form (R97), READ EVENTS
(R98, R100 to R102) and SEEK EVENTS (R104 to R106): O27, O28 and O29. -/

namespace Sys2Proof.Machine

/-! ### Completing a record (R95, R99) -/

section
variable (s : State) (e : Entry)

/-- The oldest record of a ring is discarded only to make room (R99). -/
def State.roomMade : State :=
  if s.ring.records.length < 1024 then s else s.discardOldest

theorem State.complete_eq : s.complete e = s.roomMade.withRing { s.roomMade.ring with
    records := s.roomMade.ring.records ++ [e.record s.ring.next (s.stepNear e.stamp.runClock)]
    next := s.ring.next + 1
    writePos := (s.ring.writePos + 1) % 1024 } := by
  unfold State.complete State.roomMade
  rw [show Config.ringSize = 1024 from rfl]
  split <;> rfl

/-- Whether a record completed now discards the one that a port's cursor points at (R99). -/
def State.loses (q : Port) : Bool :=
  Decidable.decide (1024 ≤ s.ring.records.length)
    && Decidable.decide (s.ring.cursors.get q = s.ring.oldest)

theorem State.roomMade_records : s.roomMade.ring.records
    = if 1024 ≤ s.ring.records.length then s.ring.records.drop 1 else s.ring.records := by
  unfold State.roomMade
  split
  · rw [if_neg (by omega)]
  · rw [if_pos (by omega)]
    rfl

theorem State.roomMade_cursor (q : Port) : s.roomMade.ring.cursors.get q
    = if s.loses q then s.ring.cursors.get q + 1 else s.ring.cursors.get q := by
  unfold State.roomMade State.loses
  split
  · rename_i room
    simp [Nat.not_le.2 room]
  · rename_i full
    simp [State.discardOldest, Nat.le_of_not_lt full]

theorem State.roomMade_loss (q : Port) : s.roomMade.ring.losses.get q
    = if s.loses q then min 65535 (s.ring.losses.get q + 1) else s.ring.losses.get q := by
  unfold State.roomMade State.loses
  split
  · rename_i room
    simp [Nat.not_le.2 room]
  · rename_i full
    simp [State.discardOldest, Nat.le_of_not_lt full, satAdd, Config.smallCap]

theorem State.roomMade_port (q : Port) : s.roomMade.port q
    = if s.loses q then (s.port q).raise .loss else s.port q := by
  unfold State.roomMade State.loses State.port
  split
  · rename_i room
    simp [Nat.not_le.2 room]
  · rename_i full
    simp [State.discardOldest, Nat.le_of_not_lt full]

theorem State.append_frame_latched : s.append e = { s with
    ring := (s.append e).ring, ports := s.latched (s.append e) } := by
  have ports := s.append_latched e
  obtain ⟨r, p, frame⟩ := s.append_frame e
  rw [frame] at ports ⊢
  exact congrArg (fun p => { s with ring := r, ports := p }) ports

end

/-- Settles O27: the oldest record goes first where the ring is full, then the new one takes the next sequence
and the newest place. -/
theorem recordTakesNextSequence : Obligations.RecordTakesNextSequence := by
  intro s e on full oldest lost near t
  have completed : t = s.complete e := s.append_started e on
  rw [State.complete_eq] at completed
  have same (q : Port) : lost q = s.loses q := rfl
  have near_same : near = s.stepNear e.stamp.runClock := by
    unfold near State.stepNear
    cases s.tb.lastStep <;> rfl
  refine ⟨?_, ?_, ?_, fun q => ?_, fun q => ?_, fun q => ?_, s.append_frame_latched e⟩
  · rw [completed, State.withRing_ring, s.roomMade_records, near_same]
    simp only [full, decide_eq_true_eq]
  · rw [completed, State.withRing_ring]
  · rw [completed, State.withRing_ring]
  · rw [completed, same]
    exact s.roomMade_cursor q
  · rw [completed, same]
    exact s.roomMade_loss q
  · rw [completed, same]
    exact s.roomMade_port q

/-! ### READ EVENTS and SEEK EVENTS (R98, R100 to R102, R104 to R106) -/

/-- Settles O28: READ EVENTS is answered over the ring whose cursor has passed what was read. -/
theorem readEventsReturnsRecordsFromCursor : Obligations.ReadEventsReturnsRecordsFromCursor := by
  intro s q count waits served oldest records cursor
  have decided : s.decide q (.readEvents count)
      = ⟨s.withRing (s.ring.passed q records.length), .answer .ok
          (be 2 (s.ring.losses.get q) ++ be 1 records.length ++ be 2 (s.ring.next - cursor).toNat
            ++ records.flatMap Record.bytes)⟩ := by
    simp only [State.decide, State.readEvents, State.gives, Ring.unread, Ring.passed,
      State.withRing_ring, PerPort.get_set_same]
    rfl
  refine ⟨_, rfl, ?_⟩
  rw [State.request_of_waits waits]
  exact s.take_answer q _ _ _ _ waits (by simp) decided waits

/-- A number that is not negative and below 2^32 is sent as it stands (R203). -/
theorem numberBytes_toNat (x : BitVec 32) : numberBytes x.toNat = be 4 x.toNat := by
  have small := x.isLt
  rw [numberBytes, beInt_eq (by omega) (by omega), if_neg (by omega), Int.toNat_natCast]

/-- What a seek moves: the port's cursor, and nothing else (R104). -/
def State.cursorSet (s : State) (q : Port) (cursor : EventSeq) : State :=
  s.withRing { s.ring with cursors := s.ring.cursors.set q cursor }

section
variable {s : State} {q : Port} {selector : Byte} {seq : EventSeq}

/-- A seek that names a place is answered with the four values of R106, over the cursor moved there. -/
theorem State.seekEvents_moves {cursor : EventSeq} {result : Result}
    (waits : (s.port q).waits (.seekEvents selector seq) = true)
    (seek : s.ring.seek (s.ring.cursors.get q) selector seq = some (result, cursor)) :
    AnsweredIn q (.seekEvents selector seq) result
      (be 4 cursor.toNat ++ be 4 s.ring.oldest.toNat ++ be 4 s.ring.next.toNat
        ++ be 4 (s.ring.next - cursor).toNat)
      (s.cursorSet q cursor) (s.request q (.seekEvents selector seq)) := by
  rw [State.request_of_waits waits]
  refine s.take_answer q _ _ _ _ waits (by simp) ?_ waits
  simp only [State.decide, State.seekEvents, seek, Ring.seekBytes, Ring.unread, numberBytes_toNat,
    PerPort.get_set_same]
  rfl

end

/-- Settles O29: each selector's place, as the seek judges it, with the answer over the moved cursor. -/
theorem seekEventsJudgesByPosition : Obligations.SeekEventsJudgesByPosition := by
  intro s q selector seq waits oldest moved
  refine ⟨_, rfl, ?_, ?_, ?_, ?_, ?_, fun unknown => State.request_refused waits (by simp) ?_⟩
  · rintro rfl
    exact State.seekEvents_moves waits rfl
  · rintro rfl
    exact State.seekEvents_moves waits rfl
  · rintro rfl held
    exact State.seekEvents_moves waits (if_pos held)
  · rintro rfl beyond discarded
    exact State.seekEvents_moves waits ((if_neg (Nat.not_le.2 beyond)).trans (if_pos discarded))
  · rintro rfl beyond ahead
    exact State.seekEvents_moves waits
      ((if_neg (Nat.not_le.2 beyond)).trans (if_neg (Nat.not_le.2 ahead)))
  · have none_named : s.ring.seek (s.ring.cursors.get q) selector seq = none := by
      unfold Ring.seek
      split
      case h_4 => rfl
      all_goals omega
    simp only [State.decide, State.seekEvents, none_named]

end Sys2Proof.Machine
end

section
/-! The Event Ring's form (R97) under the ring's own operations: a record completed, a place read or sought. -/

namespace Sys2Proof.Machine

/-! ### The ring's own operations -/

section
variable {r : Ring}

/-- A ring with room takes a record under the next sequence (R95). -/
theorem Ring.sound.push (h : r.sound) (room : r.records.length < Config.ringSize) {x : Record}
    (seq : x.seq = r.next) (pos : Nat) : ({ r with
      records := r.records ++ [x], next := r.next + 1, writePos := pos % Config.ringSize } : Ring).sound := by
  obtain ⟨-, -, held, consecutive⟩ := h
  have oldest : (r.next + 1) - BitVec.ofNat 32 (r.records.length + 1) = r.oldest := by
    unfold Ring.oldest
    rw [BitVec.ofNat_add]
    bv_omega
  unfold Config.ringSize at room
  refine ⟨?_, Nat.mod_lt _ (by decide), fun q => ?_, fun i y hy => ?_⟩
  · simp only [List.length_append, List.length_singleton, Config.ringSize]
    omega
  · have before := held q
    simp only [List.length_append, List.length_singleton]
    bv_omega
  · simp only [Ring.oldest, List.length_append, List.length_singleton, oldest] at hy ⊢
    rcases Nat.lt_or_ge i r.records.length with inside | last
    · rw [List.getElem?_append_left inside] at hy
      exact consecutive i y hy
    · rw [List.getElem?_append_right last, List.getElem?_singleton] at hy
      split at hy
      · cases hy
        rw [seq, show i = r.records.length by omega]
        exact (BitVec.sub_add_cancel _ _).symm
      · cases hy

end

section
variable {s : State}

/-- A ring that is not empty discards its oldest record, with the cursors that pointed at it (R99). -/
theorem State.discardOldest_ring_sound (h : s.ring.sound) (some_held : 0 < s.ring.records.length) :
    s.discardOldest.ring.sound := by
  obtain ⟨few, pos, held, consecutive⟩ := h
  unfold Config.ringSize at few
  have oldest : s.ring.next - BitVec.ofNat 32 (s.ring.records.length - 1) = s.ring.oldest + 1 := by
    unfold Ring.oldest
    bv_omega
  refine ⟨?_, pos, fun q => ?_, fun i x hx => ?_⟩
  · simp only [State.discardOldest, List.length_drop, Config.ringSize]
    omega
  · have before := held q
    simp only [State.discardOldest, PerPort.get_map, List.length_drop]
    by_cases pointed : s.ring.cursors.get q = s.ring.oldest
    · rw [if_pos pointed, pointed, Ring.oldest]
      bv_omega
    · rw [if_neg pointed]
      unfold Ring.oldest at pointed
      bv_omega
  · simp only [State.discardOldest, Ring.oldest, List.length_drop, oldest, List.getElem?_drop] at hx ⊢
    rw [consecutive _ x hx, ← EventSeq.add_succ, Nat.add_comm]
    rfl

theorem State.complete_ring_sound (h : s.ring.sound) (e : Entry) : (s.complete e).ring.sound := by
  unfold State.complete
  simp only
  split
  · rename_i room
    exact h.push room rfl _
  · rename_i full
    have many : 1024 ≤ s.ring.records.length := Nat.le_of_not_lt full
    have few : s.ring.records.length ≤ 1024 := h.1
    refine (State.discardOldest_ring_sound h (by omega)).push ?_ rfl _
    simp only [State.discardOldest, List.length_drop, Config.ringSize]
    omega

theorem State.append_ring_sound (h : s.ring.sound) (e : Entry) : (s.append e).ring.sound := by
  unfold State.append
  split
  · exact State.complete_ring_sound h e
  · exact h

theorem State.note_ring_sound (h : s.ring.sound) (k : Kind) (d : BitVec 16) : (s.note k d).ring.sound :=
  State.append_ring_sound h _

theorem State.noteUnit_ring_sound (h : s.ring.sound) (k : Kind) (u : UnitId) (x : Stamp) (d : BitVec 16)
    (test : Bool) : (s.noteUnit k u x d test).ring.sound :=
  State.append_ring_sound h _

/-- READ EVENTS moves a cursor past records that are held (R101). -/
theorem State.readEvents_ring_sound (h : s.ring.sound) (q : Port) (count : Byte) :
    (s.readEvents q count).state.ring.sound := by
  obtain ⟨few, pos, held, consecutive⟩ := h
  unfold Config.ringSize at few
  have read : (s.ring.readable q count).length
      ≤ s.ring.records.length - (s.ring.cursors.get q - s.ring.oldest).toNat := by
    simp only [Ring.readable, List.length_take, List.length_drop]
    omega
  refine ⟨few, pos, fun w => ?_, consecutive⟩
  have before := held w
  simp only [State.readEvents, State.gives, State.withRing, Ring.passed]
  by_cases same : w = q
  · subst same
    rw [PerPort.get_set_same]
    unfold Ring.oldest at read
    bv_omega
  · rw [PerPort.get_set_other _ _ same]
    exact before

/-- A place that a seek names lies between the oldest sequence and one past the newest (R104, R105). -/
theorem Ring.seek_held {r : Ring} (few : r.records.length ≤ 1024) {cursor : EventSeq}
    (held : (r.next - cursor).toNat ≤ r.records.length) {selector : Byte} {seq place : EventSeq}
    {result : Result} (seek : r.seek cursor selector seq = some (result, place)) :
    (r.next - place).toNat ≤ r.records.length := by
  unfold Ring.seek Ring.oldest at seek
  repeat' split at seek
  all_goals cases seek
  all_goals bv_omega

theorem State.seekEvents_ring_sound (h : s.ring.sound) (q : Port) (selector : Byte) (seq : EventSeq) :
    (s.seekEvents q selector seq).state.ring.sound := by
  unfold State.seekEvents
  split
  · exact h
  · rename_i result place seek
    obtain ⟨few, pos, held, consecutive⟩ := h
    refine ⟨few, pos, fun w => ?_, consecutive⟩
    by_cases same : w = q
    · subst same
      simp only [State.withRing, PerPort.get_set_same]
      exact Ring.seek_held few (held w) seek
    · simp only [State.withRing, PerPort.get_set_other _ _ same]
      exact held w

end

end Sys2Proof.Machine
end

section
/-! The Event Ring's form (R97) under the operations of every block: those that leave the ring alone, and those
that complete records, in the order of the model's files. -/

namespace Sys2Proof.Machine

/-! ### Operations that leave the ring alone -/

section
variable (s : State)

@[simp] theorem State.noteRise_ring (n : Nat) : (s.noteRise n).ring = s.ring := by
  unfold State.noteRise; split <;> simp

@[simp] theorem State.tallyTakesMode_ring (u : UnitId) (k : Mode) (start : Bool) :
    (s.tallyTakesMode u k start).ring = s.ring := by
  unfold State.tallyTakesMode; split <;> simp

@[simp] theorem State.tallyTakesClosing_ring (u : UnitId) : (s.tallyTakesClosing u).ring = s.ring := by
  simp [State.tallyTakesClosing]

@[simp] theorem State.shiftTakesMode_ring (u : UnitId) (k : Mode) (start : Bool) :
    (s.shiftTakesMode u k start).ring = s.ring := by
  unfold State.shiftTakesMode; split <;> rfl

@[simp] theorem State.countTrip_ring (u : UnitId) (t : Stamp) (test : Bool) :
    (s.countTrip u t test).ring = s.ring := by
  unfold State.countTrip
  split
  · rfl
  · exact ((s.setTally u _).noteRise_ring _ :)

@[simp] theorem State.lapsePermit_ring (u : UnitId) : (s.lapsePermit u).ring = s.ring := by
  unfold State.lapsePermit; split <;> rfl

@[simp] theorem State.millisecondBoundary_ring : s.millisecondBoundary.ring = s.ring := by
  unfold State.millisecondBoundary; split <;> rfl

@[simp] theorem State.openSomeFile_ring (u : UnitId) (t : Stamp) :
    (s.openSomeFile u t).1.ring = s.ring := by
  unfold State.openSomeFile
  repeat' split
  all_goals rfl

@[simp] theorem State.baselineUnit_ring (u : UnitId) (x : ModeLevels) :
    (s.baselineUnit u x).ring = s.ring := by
  unfold State.baselineUnit
  simp only
  split <;> simp

@[simp] theorem State.takeBaseline_ring (pins : BitVec 48) : (s.takeBaseline pins).ring = s.ring := by
  unfold State.takeBaseline
  exact State.forEach_same State.ring _ _ (fun u t => t.baselineUnit_ring u _) _

@[simp] theorem State.fastEdge_ring (l : LineId) (high : Bool) : (s.fastEdge l high).ring = s.ring := by
  unfold State.fastEdge
  simp only
  repeat' split
  all_goals rfl

@[simp] theorem State.closeChatterWindow_ring (l : LineId) : (s.closeChatterWindow l).ring = s.ring := by
  unfold State.closeChatterWindow; split <;> rfl

@[simp] theorem State.clockWord_ring : s.clockWord.ring = s.ring := by
  unfold State.clockWord; split <;> rfl

@[simp] theorem State.endWord_ring : s.endWord.ring = s.ring := by
  unfold State.endWord; split <;> rfl

@[simp] theorem State.releaseStrobe_ring : s.releaseStrobe.ring = s.ring := by
  unfold State.releaseStrobe; split <;> rfl

@[simp] theorem State.restartTimebase_ring : s.restartTimebase.ring = s.ring := by
  unfold State.restartTimebase; split <;> rfl

@[simp] theorem State.selectionMoved_ring (old new : Option RefId) :
    (s.selectionMoved old new).ring = s.ring := by
  obtain ⟨t, l, frame⟩ := s.selectionMoved_frame old new
  rw [frame]

@[simp] theorem State.takeArrived_ring (r : RefId) : (s.takeArrived r).ring = s.ring := by
  unfold State.takeArrived; split <;> rfl

@[simp] theorem State.wholeMessage_ring (r : RefId) (b : List Byte) : (s.wholeMessage r b).ring = s.ring := by
  unfold State.wholeMessage; split <;> rfl

@[simp] theorem State.timeMessage_ring (r : RefId) (b : List Byte) : (s.timeMessage r b).ring = s.ring := by
  unfold State.timeMessage
  repeat' split
  all_goals simp

@[simp] theorem State.messageByte_ring (r : RefId) (b : Byte) (stop : Bool) (n : Nat) :
    (s.messageByte r b stop n).ring = s.ring := s.takeArrived_ring r

@[simp] theorem State.dropPartial_ring (r : RefId) : (s.dropPartial r).ring = s.ring := by
  unfold State.dropPartial; split <;> rfl

@[simp] theorem State.loadSettings_ring : s.loadSettings.ring = s.ring := by
  unfold State.loadSettings; split <;> rfl

@[simp] theorem State.endSave_ring (o : SaveOutcome) : (s.endSave o).ring = s.ring := by
  unfold State.endSave
  simp only
  repeat' split
  all_goals rfl

@[simp] theorem State.beginSettingsWork_ring : s.beginSettingsWork.ring = s.ring := by
  unfold State.beginSettingsWork; split <;> rfl

@[simp] theorem State.grantFlash_ring : s.grantFlash.ring = s.ring := by
  unfold State.grantFlash
  simp only
  repeat' split
  all_goals first | rfl | exact s.beginSettingsWork_ring

@[simp] theorem State.checkpointBegin_ring : s.checkpointBegin.ring = s.ring := by
  unfold State.checkpointBegin; split <;> rfl

@[simp] theorem State.intervalRequest_ring : s.intervalRequest.ring = s.ring := by
  unfold State.intervalRequest; split <;> simp

@[simp] theorem State.paceRequest_ring : s.paceRequest.ring = s.ring := by
  unfold State.paceRequest; split <;> simp

@[simp] theorem State.eraseAhead_ring : s.eraseAhead.ring = s.ring := by
  unfold State.eraseAhead
  repeat' split
  all_goals rfl

@[simp] theorem State.beginPowerFail_ring : s.beginPowerFail.ring = s.ring := by
  unfold State.beginPowerFail; split <;> rfl

@[simp] theorem State.retryPowerFail_ring (r : JournalRecord) : (s.retryPowerFail r).ring = s.ring := by
  unfold State.retryPowerFail; split <;> rfl

@[simp] theorem State.beginReleasedPowerFail_ring : s.beginReleasedPowerFail.ring = s.ring := by
  unfold State.beginReleasedPowerFail
  simp only
  repeat' split
  · rfl
  · exact (s.withStage .none).requestCheckpoint_ring .powerFail
  · exact (s.withStage .none).requestCheckpoint_ring .powerFail

@[simp] theorem State.afterTakenProgram_ring (r : JournalRecord) (verified : Bool) :
    (s.afterTakenProgram r verified).ring = s.ring := by
  unfold State.afterTakenProgram
  repeat' split
  all_goals simp [State.withStage]

@[simp] theorem State.scanJournal_ring : s.scanJournal.ring = s.ring := by
  unfold State.scanJournal; split <;> rfl

@[simp] theorem State.continueRecovery_ring : s.continueRecovery.ring = s.ring := by
  unfold State.continueRecovery
  repeat' split
  all_goals rfl

@[simp] theorem State.leaveRetired_ring (x : Fin 32) : (s.leaveRetired x).ring = s.ring := by
  unfold State.leaveRetired; split <;> rfl

@[simp] theorem State.settingsEraseEnd_ring (left : List Byte) :
    (s.settingsEraseEnd left).ring = s.ring := by
  unfold State.settingsEraseEnd
  split
  · simp only [State.grantFlash_ring]
    split
    · rfl
    · exact State.endSave_ring _ _
  · rfl

@[simp] theorem State.settingsProgramEnd_ring (left : Option (List Byte)) :
    (s.settingsProgramEnd left).ring = s.ring := by
  unfold State.settingsProgramEnd
  split
  · simp [State.withOp, State.withMem]
  · rfl

@[simp] theorem State.abandonSettingsWork_ring : s.abandonSettingsWork.ring = s.ring :=
  State.endSave_ring _ _

@[simp] theorem State.abandonWaitingSave_ring : s.abandonWaitingSave.ring = s.ring := by
  unfold State.abandonWaitingSave; split <;> simp

@[simp] theorem State.stopFlash_ring : s.stopFlash.ring = s.ring := by
  unfold State.stopFlash
  split
  all_goals first | rfl | exact s.abandonSettingsWork_ring

@[simp] theorem State.takeWarning_ring : s.takeWarning.ring = s.ring := by
  unfold State.takeWarning
  simp only
  repeat' split
  all_goals simp [State.withStage]

@[simp] theorem State.powerFailWarning_ring : s.powerFailWarning.ring = s.ring := by
  unfold State.powerFailWarning
  simp only
  repeat' split
  all_goals simp

@[simp] theorem State.powerFailRelease_ring : s.powerFailRelease.ring = s.ring := by
  unfold State.powerFailRelease
  simp only
  repeat' split
  all_goals simp

@[simp] theorem State.restartJournal_ring : s.restartJournal.ring = s.ring := by
  unfold State.restartJournal; split <;> rfl

@[simp] theorem State.restartPorts_ring : s.restartPorts.ring = s.ring := rfl

@[simp] theorem State.awaitBaseline_ring : s.awaitBaseline.ring = s.ring := rfl

@[simp] theorem State.endFrame_ring (q : Port) (bytes : List Byte) : (s.endFrame q bytes).ring = s.ring := by
  obtain ⟨x, n, frame⟩ := s.endFrame_frame q bytes
  rw [frame]
  rfl

end

/-! ### Operations that complete records -/

section
variable {s : State} (h : s.ring.sound)
include h

theorem State.forEach_ring_sound {ι : Type} (xs : List ι) (f : ι → State → State)
    (keeps : ∀ x t, t.ring.sound → (f x t).ring.sound) : (s.forEach xs f).ring.sound :=
  State.forEach_keeps (fun t => t.ring.sound) xs f keeps h

/-! #### The Shift Controller -/

theorem State.noteHandover_ring_sound (k : Subkind) (crew : Byte) : (s.noteHandover k crew).ring.sound :=
  State.note_ring_sound h _ _

theorem State.fallDue_ring_sound : s.fallDue.ring.sound :=
  State.noteHandover_ring_sound (by exact h) _ _

theorem State.missInstant_ring_sound : s.missInstant.ring.sound :=
  State.noteHandover_ring_sound (by exact h) _ _

theorem State.evaluateSchedule_ring_sound : s.evaluateSchedule.ring.sound := by
  unfold State.evaluateSchedule
  repeat' split
  all_goals first
    | exact h
    | exact State.fallDue_ring_sound h
    | exact State.missInstant_ring_sound h

theorem State.endGrace_ring_sound : s.endGrace.ring.sound := by
  unfold State.endGrace
  split
  · exact State.noteHandover_ring_sound (by exact h) _ _
  · exact h

theorem State.lapseOffer_ring_sound : s.lapseOffer.ring.sound := by
  unfold State.lapseOffer
  split
  · split
    · exact State.noteHandover_ring_sound (by exact h) _ _
    · exact h
  · exact h

theorem State.cutShift_ring_sound (crew : Byte) : (s.cutShift crew).ring.sound := by
  simp only [State.cutShift, State.requestCheckpoint_ring]
  exact State.noteHandover_ring_sound (by exact h) _ _

/-! #### The Trip File Table -/

theorem State.trip_ring_sound (u : UnitId) (t : Stamp) : (s.trip u t).ring.sound := by
  have noted := State.noteUnit_ring_sound (s := (s.openSomeFile u t).1) (by simpa using h) .trip u t
    (slotDatum (s.openSomeFile u t).2) (s.inTest u)
  unfold State.trip
  simp only
  split <;> simpa using noted

theorem State.tripsTake_ring_sound (role : Role) (c : Change) : (s.tripsTake role c).ring.sound := by
  unfold State.tripsTake
  simp only
  split
  case h_1 => exact State.trip_ring_sound h _ _
  all_goals exact h

theorem State.closeFile_ring_sound (i : SlotId) (f : TripFile) (cut : Bool) :
    (s.closeFile i f cut).ring.sound := by
  unfold State.closeFile
  simp only
  split
  all_goals exact State.noteUnit_ring_sound (by exact h) _ _ _ _ _

theorem State.windowEnd_ring_sound (i : SlotId) : (s.windowEnd i).ring.sound := by
  unfold State.windowEnd State.judgeBreaker
  repeat' split
  · exact State.noteUnit_ring_sound (State.closeFile_ring_sound h _ _ _) _ _ _ _ _
  · exact State.closeFile_ring_sound h _ _ _
  all_goals exact h

theorem State.cutFile_ring_sound (i : SlotId) : (s.cutFile i).ring.sound := by
  unfold State.cutFile
  repeat' split
  · exact State.closeFile_ring_sound h _ _ _
  all_goals exact h

theorem State.restartTrips_ring_sound : s.restartTrips.ring.sound :=
  State.forEach_ring_sound h _ _ fun i _ ht => State.cutFile_ring_sound ht i

/-! #### The Mode Detector -/

theorem State.settleOn_ring_sound (u : UnitId) (c : Candidate) : (s.settleOn u c).ring.sound := by
  simp only [State.settleOn, State.shiftTakesMode_ring, State.tallyTakesMode_ring]
  exact State.noteUnit_ring_sound (by exact h) _ _ _ _ _

theorem State.settle_ring_sound (u : UnitId) : (s.settle u).ring.sound := by
  unfold State.settle
  repeat' split
  · exact State.settleOn_ring_sound h _ _
  all_goals exact h

theorem State.settleFormed_ring_sound (u : UnitId) : (s.settleFormed u).ring.sound := by
  unfold State.settleFormed
  repeat' split
  · exact State.settleOn_ring_sound h _ _
  all_goals exact h

theorem State.derive_ring_sound (u : UnitId) (start : Stamp) : (s.derive u start).ring.sound := by
  unfold State.derive
  simp only
  split
  · exact State.settle_ring_sound (by exact h) u
  · exact State.settleFormed_ring_sound (by exact h) u

theorem State.handLevel_ring_sound (u : UnitId) (k : LevelName) (active : Bool) (t : Stamp) :
    (s.handLevel u k active t).ring.sound := by
  unfold State.handLevel
  simp only
  split
  · exact h
  · refine State.derive_ring_sound ?_ u t
    split <;> simpa using h

theorem State.closeTest_ring_sound (u : UnitId) (how : Nat) : (s.closeTest u how).ring.sound :=
  State.noteUnit_ring_sound (s := s.setMode u _) (by exact h) _ _ _ _ _

theorem State.expireTest_ring_sound (u : UnitId) : (s.expireTest u).ring.sound := by
  unfold State.expireTest
  split
  · refine State.derive_ring_sound ?_ u _
    rw [State.raiseAll_ring]
    exact State.closeTest_ring_sound h u 1
  · exact h

theorem State.restartModes_ring_sound : s.restartModes.ring.sound := by
  refine State.forEach_ring_sound h _ _ fun u t ht => ?_
  unfold State.restartUnit
  simp only [State.setMode_ring]
  split
  · exact State.closeTest_ring_sound ht u 2
  · exact ht

/-! #### The Line Scanner -/

theorem State.noteLevel_ring_sound (l : LineId) (active : Bool) (t : Stamp) (scanned derived : Bool) :
    (s.noteLevel l active t scanned derived).ring.sound :=
  State.append_ring_sound (s := s.setLine l _) (by exact h) _

theorem State.noteChatter_ring_sound (l : LineId) (k : Kind) (t : Stamp) (n : Nat) (scanned : Bool) :
    (s.noteChatter l k t n scanned).ring.sound :=
  State.append_ring_sound h _

theorem State.handModeLevel_ring_sound (l : LineId) (active : Bool) (t : Stamp) :
    (s.handModeLevel l active t).ring.sound := by
  unfold State.handModeLevel
  split
  · exact State.handLevel_ring_sound h _ _ _ _
  · exact h

theorem State.passOn_ring_sound (l : LineId) (active : Bool) (t : Stamp) :
    (s.passOn l active t).ring.sound :=
  State.handModeLevel_ring_sound
    (State.tripsTake_ring_sound (State.noteLevel_ring_sound h _ _ _ _ _) _ _) _ _ _

theorem State.beginChatter_ring_sound (l : LineId) (base : Bool) (t : Stamp) :
    (s.beginChatter l base t).ring.sound := by
  have noted := State.noteChatter_ring_sound h l .chatterOn t 0 true
  unfold State.beginChatter
  simp only
  split
  · exact noted
  · exact State.handModeLevel_ring_sound (by exact noted) _ _ _

theorem State.countChatter_ring_sound (l : LineId) (active : Bool) (t : Stamp) :
    (s.countChatter l active t).ring.sound := by
  unfold State.countChatter
  simp only
  repeat' split
  · exact State.beginChatter_ring_sound (by exact h) _ _ _
  all_goals exact h

theorem State.acceptChange_ring_sound (l : LineId) (active : Bool) (t : Stamp) :
    (s.acceptChange l active t).ring.sound := by
  have passed := State.passOn_ring_sound h l active t
  unfold State.acceptChange
  simp only
  repeat' split
  · exact h
  · exact h
  · exact State.countChatter_ring_sound passed _ _ _
  · exact passed

theorem State.resolve_ring_sound (l : LineId) (c : PendingChange) : (s.resolve l c).ring.sound := by
  unfold State.resolve
  simp only
  split
  · exact State.acceptChange_ring_sound (by exact h) _ _ _
  · exact h

theorem State.endChatter_ring_sound (l : LineId) : (s.endChatter l).ring.sound := by
  have noted := State.noteChatter_ring_sound h l .chatterOff s.reading (s.line l).suppressed false
  have leveled : (if (s.line l).filtered = (s.line l).lastRecorded
      then s.noteChatter l .chatterOff s.reading (s.line l).suppressed false
      else (s.noteChatter l .chatterOff s.reading (s.line l).suppressed false).noteLevel l
        (s.line l).filtered s.reading false true).ring.sound := by
    split
    · exact noted
    · exact State.noteLevel_ring_sound noted _ _ _ _ _
  unfold State.endChatter State.leaveChatter
  simp only
  split
  · split
    · exact leveled
    · exact State.handModeLevel_ring_sound (by exact leveled) _ _ _
  · exact h

theorem State.endFastDebounce_ring_sound (l : LineId) : (s.endFastDebounce l).ring.sound := by
  unfold State.endFastDebounce
  repeat' split
  · exact State.resolve_ring_sound h _ _
  all_goals exact h

theorem State.sampleLine_ring_sound (t : Stamp) (l : LineId) : (s.sampleLine t l).ring.sound := by
  unfold State.sampleLine
  simp only
  repeat' split
  · exact State.resolve_ring_sound (by exact h) _ _
  all_goals exact h

theorem State.scan_ring_sound (pins : BitVec 48) : (s.scan pins).ring.sound := by
  unfold State.scan
  simp only
  split
  · exact State.forEach_ring_sound (by exact h) _ _ fun l _ ht => State.sampleLine_ring_sound ht _ l
  · exact h

/-! #### The Distribution Driver and the Timebase -/

theorem State.checkEcho_ring_sound (correct : Bool) : (s.checkEcho correct).ring.sound := by
  unfold State.checkEcho State.judgeEcho
  simp only
  repeat' split
  case isTrue.isTrue.isTrue.isTrue => exact State.note_ring_sound (by exact h) _ _
  case isTrue.isFalse.isFalse => exact State.note_ring_sound (by exact h) _ _
  all_goals exact h

theorem State.reviewAlarm_ring_sound (old : Nat) : (s.reviewAlarm old).ring.sound := by
  unfold State.reviewAlarm
  simp only
  split
  · exact h
  · exact State.note_ring_sound (by exact h) _ _

theorem State.classMoved_ring_sound (old : Nat) : (s.classMoved old).ring.sound := by
  unfold State.classMoved
  split
  · exact h
  · exact State.reviewAlarm_ring_sound (by exact h) old

theorem State.secondBoundary_ring_sound : s.secondBoundary.ring.sound := by
  unfold State.secondBoundary
  split
  · exact State.evaluateSchedule_ring_sound (State.classMoved_ring_sound (by exact h) _)
  · exact h

theorem State.handStepOff_ring_sound (t : Timebase) (kind : Kind) (datum : BitVec 16) :
    (s.handStepOff t kind datum).ring.sound := by
  have noted := State.note_ring_sound (s := s.withTb (t.readAs t.cls)) (by exact h) kind datum
  exact State.evaluateSchedule_ring_sound (State.classMoved_ring_sound (by exact noted) s.cls)

theorem State.stepTime_ring_sound (e : Int) (claim : Nat) : (s.stepTime e claim).ring.sound :=
  State.handStepOff_ring_sound (State.secondBoundary_ring_sound h) _ _ _

theorem State.pulseReport_ring_sound (capture : Capture) (second : Second) (claim : Nat) :
    (s.pulseReport capture second claim).ring.sound := by
  have moved (t : Timebase) : ((s.withTb t).classMoved s.cls).ring.sound :=
    State.classMoved_ring_sound (by exact h) _
  unfold State.pulseReport State.slew
  simp only
  repeat' split
  all_goals first
    | exact h
    | exact moved _
    | exact State.stepTime_ring_sound h _ _

/-! #### The Reference Monitor -/

theorem State.recordSelection_ring_sound (new : Option RefId) : (s.recordSelection new).ring.sound :=
  State.note_ring_sound (s := s.withSel _) (by exact h) _ _

theorem State.evaluateSelection_ring_sound : s.evaluateSelection.ring.sound := by
  unfold State.evaluateSelection
  split
  · exact h
  · rw [State.selectionMoved_ring]
    exact State.recordSelection_ring_sound h _

theorem State.moveDisagree_ring_sound (flag : Bool) : (s.moveDisagree flag).ring.sound :=
  State.note_ring_sound (s := s.withSel _) (by exact h) _ _

theorem State.judgePair_ring_sound (agrees naming : Bool) : (s.judgePair agrees naming).ring.sound := by
  unfold State.judgePair
  repeat' split
  case isTrue.isTrue.isTrue => exact State.evaluateSelection_ring_sound (State.moveDisagree_ring_sound h _)
  case isFalse.isFalse.isTrue => exact State.moveDisagree_ring_sound h _
  all_goals exact h

theorem State.dropUnpaired_ring_sound : s.dropUnpaired.ring.sound :=
  State.judgePair_ring_sound (by exact h) _ _

theorem State.expireUnpaired_ring_sound : s.expireUnpaired.ring.sound := by
  unfold State.expireUnpaired
  split
  · exact State.dropUnpaired_ring_sound h
  · exact h

theorem State.comparePulse_ring_sound (m : Mark) : (s.comparePulse m).ring.sound := by
  unfold State.comparePulse
  repeat' split
  case h_2.isTrue => exact State.judgePair_ring_sound (by exact h) _ _
  case h_2.isFalse => exact State.dropUnpaired_ring_sound h
  all_goals exact h

theorem State.dropComparison_ring_sound : s.dropComparison.ring.sound := by
  unfold State.dropComparison
  simp only
  split
  · exact State.evaluateSelection_ring_sound (State.moveDisagree_ring_sound (by exact h) _)
  · exact h

theorem State.moveRef_ring_sound (r : RefId) (new : RefState) : (s.moveRef r new).ring.sound := by
  have recorded : (s.recordRefState r new).ring.sound :=
    State.note_ring_sound (s := s.setRef r _) (by exact h) _ _
  unfold State.moveRef
  simp only
  repeat' split
  · exact h
  · exact State.dropComparison_ring_sound (State.evaluateSelection_ring_sound (by exact recorded))
  · exact State.dropComparison_ring_sound (State.evaluateSelection_ring_sound recorded)
  · exact State.evaluateSelection_ring_sound recorded
  · exact recorded

theorem State.failSecond_ring_sound (r : RefId) (cause : FailCause) : (s.failSecond r cause).ring.sound :=
  State.moveRef_ring_sound (by exact h) _ _

theorem State.expirePulse_ring_sound (r : RefId) : (s.expirePulse r).ring.sound := by
  unfold State.expirePulse
  split
  · exact State.moveRef_ring_sound (by exact h) _ _
  · exact h

theorem State.failLate_ring_sound (r : RefId) : (s.failLate r).ring.sound := by
  unfold State.failLate
  split
  · exact State.failSecond_ring_sound (by exact h) _ _
  · exact h

theorem State.passSecond_ring_sound (r : RefId) (m : MessageInfo) : (s.passSecond r m).ring.sound := by
  unfold State.passSecond
  simp only
  repeat' split
  · exact h
  · exact State.evaluateSelection_ring_sound (by exact h)
  · exact State.moveRef_ring_sound (by exact h) _ _

theorem State.reportPulse_ring_sound (r : RefId) (edge : Capture) (m : MessageInfo) :
    (s.reportPulse r edge m).ring.sound := by
  unfold State.reportPulse
  split
  · exact State.pulseReport_ring_sound h _ _ _
  · exact h

theorem State.closeSecond_ring_sound (r : RefId) (edge : Capture) : (s.closeSecond r edge).ring.sound := by
  unfold State.closeSecond
  simp only
  repeat' split
  · exact h
  · exact State.failSecond_ring_sound (by exact h) _ _
  · exact State.comparePulse_ring_sound
      (State.reportPulse_ring_sound (State.passSecond_ring_sound (by exact h) _ _) _ _ _) _
  · exact h

theorem State.placeEdge_ring_sound (r : RefId) (edge : Capture) : (s.placeEdge r edge).ring.sound := by
  unfold State.placeEdge
  repeat' split
  · exact h
  · exact h
  · exact State.failSecond_ring_sound (by exact h) _ _
  · exact State.closeSecond_ring_sound h _ _

theorem State.learn_ring_sound (r : RefId) (edge : Capture) (high : Bool) :
    (s.learn r edge high).ring.sound := by
  unfold State.learn State.endPeriod State.decidePolarity
  simp only
  repeat' split
  all_goals first
    | exact h
    | exact State.moveRef_ring_sound (by exact h) _ _

theorem State.pulseEdge_ring_sound (r : RefId) (high : Bool) : (s.pulseEdge r high).ring.sound := by
  have taken : (s.takeArrived r).ring.sound := by simpa using h
  have late : ((s.takeArrived r).failLate r).ring.sound := State.failLate_ring_sound taken r
  have second (active : Bool) : ((s.takeArrived r).secondEdge r active).ring.sound := by
    unfold State.secondEdge
    split
    · exact State.placeEdge_ring_sound (by exact late) _ _
    · exact taken
  have relisten (active : Bool) : ((s.takeArrived r).relisten r active).ring.sound := by
    unfold State.relisten
    simp only
    split
    · exact State.moveRef_ring_sound (by exact taken) _ _
    · exact taken
  unfold State.pulseEdge
  simp only
  split
  · exact State.moveRef_ring_sound (by exact taken) _ _
  · split
    · exact State.learn_ring_sound taken _ _ _
    · exact relisten _
  all_goals exact second _

theorem State.restartRef_ring_sound (r : RefId) : (s.restartRef r).ring.sound := by
  unfold State.restartRef
  simp only
  split
  · exact h
  · exact State.note_ring_sound (by exact h) _ _

theorem State.restartReferences_ring_sound : s.restartReferences.ring.sound := by
  have both := State.restartRef_ring_sound (State.restartRef_ring_sound h .ref1) .ref2
  have selection : ((s.restartRef .ref1).restartRef .ref2).restartSelection.ring.sound := by
    unfold State.restartSelection
    split
    · exact both
    · exact State.recordSelection_ring_sound both none
  unfold State.restartReferences State.restartComparison
  split
  · exact State.moveDisagree_ring_sound (by exact selection) _
  · exact selection

/-! #### The Settings Store and the Tally Journal -/

theorem State.applySettings_ring_sound (w : Settings) : (s.applySettings w).ring.sound := by
  have reviewed (t : State) (same : t.ring = s.ring) : (t.reviewAlarm t.cls).ring.sound :=
    State.reviewAlarm_ring_sound (same ▸ h) _
  unfold State.applySettings
  simp only
  repeat' split
  case isTrue.isTrue | isTrue.isFalse => exact reviewed _ rfl
  all_goals exact State.evaluateSelection_ring_sound (reviewed _ rfl)

theorem State.noteJournal_ring_sound (high low : Nat) : (s.noteJournal high low).ring.sound :=
  State.note_ring_sound h _ _

theorem State.reviewJournal_ring_sound (verified : Bool) : (s.reviewJournal verified).ring.sound := by
  unfold State.reviewJournal
  extract_lets byCount new
  split
  · exact h
  · exact State.noteJournal_ring_sound (by exact h) _ _

theorem State.retire_ring_sound (x : Fin 32) : (s.retire x).ring.sound := by
  have noted := State.noteJournal_ring_sound (s := s.withJournal (s.journal.retiring x)) (by exact h)
    1 x.val
  unfold State.retire
  simp only
  split
  · exact noted
  · exact State.reviewJournal_ring_sound noted _

theorem State.moveOn_ring_sound : s.moveOn.ring.sound := by
  unfold State.moveOn State.leaveSector
  simp only
  repeat' split
  · exact h
  · rw [State.eraseAhead_ring]
    exact State.retire_ring_sound (by exact h) _
  · rw [State.eraseAhead_ring]
    exact h

theorem State.programVerified_ring_sound (x : Fin 32) (y : Fin 8) (r : JournalRecord) :
    (s.programVerified x y r).ring.sound :=
  State.moveOn_ring_sound (State.reviewJournal_ring_sound (by exact h) _)

theorem State.programFailed_ring_sound (r : JournalRecord) : (s.programFailed r).ring.sound := by
  have moved := State.moveOn_ring_sound (s := s.withJournal { s.journal with
    programFailures := satAdd Config.smallCap s.journal.programFailures 1
    retireOnLeave := true }) (by exact h)
  unfold State.programFailed
  simp only
  split
  all_goals exact moved

theorem State.endProgram_ring_sound (x : Fin 32) (y : Fin 8) (r : JournalRecord)
    (left : Option (List Byte)) : (s.endProgram x y r left).ring.sound := by
  unfold State.endProgram
  extract_lets a t verified u
  have ended : u.ring.sound := by
    unfold u
    split
    · exact State.programVerified_ring_sound (by exact h) _ _ _
    · exact State.programFailed_ring_sound (by exact h) _
  rw [State.grantFlash_ring]
  repeat' split
  · rwa [State.afterTakenProgram_ring]
  · rwa [State.beginReleasedPowerFail_ring]
  · exact ended

theorem State.programEnd_ring_sound (left : Option (List Byte)) : (s.programEnd left).ring.sound := by
  unfold State.programEnd
  split
  · exact State.endProgram_ring_sound h _ _ _ _
  · exact h

theorem State.eraseFailed_ring_sound (x : Fin 32) : (s.eraseFailed x).ring.sound := by
  rw [State.eraseFailed, State.eraseAhead_ring, State.leaveRetired_ring]
  exact State.retire_ring_sound (by exact h) _

theorem State.eraseEnd_ring_sound (left : List Byte) : (s.eraseEnd left).ring.sound := by
  unfold State.eraseEnd State.endErase
  split
  · simp only
    split
    · rw [State.continueRecovery_ring]
      split
      · exact h
      · rw [State.recoveryEraseFailed, State.leaveRetired_ring]
        exact State.retire_ring_sound (by exact h) _
    · rw [State.grantFlash_ring]
      split
      · exact h
      · exact State.eraseFailed_ring_sound (by exact h) _
  · exact h

/-! #### Start-up and restart -/

theorem State.start_ring_sound (datum : BitVec 16) : (s.start datum).ring.sound :=
  State.forEach_ring_sound (State.complete_ring_sound (by exact h) _) _ _ fun e _ ht =>
    State.complete_ring_sound ht e

theorem State.announceJournal_ring_sound : s.announceJournal.ring.sound := by
  unfold State.announceJournal
  extract_lets st j t
  have noted : t.ring.sound := State.note_ring_sound (by exact h) _ _
  split
  · exact noted
  · exact noted

theorem State.endRecovery_ring_sound : s.endRecovery.ring.sound := by
  have recovered : s.handOverRecovered.ring.sound := by
    unfold State.handOverRecovered
    split
    all_goals exact h
  unfold State.endRecovery
  split
  · exact State.announceJournal_ring_sound recovered
  · exact h

theorem State.endSequence_ring_sound : s.endSequence.ring.sound := by
  rw [State.endSequence, State.raiseAll_ring]
  exact State.start_ring_sound (by exact h) _

theorem State.baseline_ring_sound (pins : BitVec 48) : (s.baseline pins).ring.sound := by
  have taken : (s.takeBaseline pins).ring.sound := by rwa [State.takeBaseline_ring]
  unfold State.baseline
  repeat' split
  · exact State.endSequence_ring_sound taken
  · exact taken
  · exact h

theorem State.restartBlocks_ring_sound : s.restartBlocks.ring.sound := by
  have timebase : s.restartTimebase.ring.sound := by rwa [State.restartTimebase_ring]
  unfold State.restartBlocks
  extract_lets t r d
  have references : r.ring.sound :=
    State.restartReferences_ring_sound (State.reviewAlarm_ring_sound timebase _)
  rw [State.restartPorts_ring, State.restartJournal_ring]
  refine State.restartTrips_ring_sound (State.restartModes_ring_sound ?_)
  rwa [State.awaitBaseline_ring, State.withDist_ring]

theorem State.restart_ring_sound : s.restart.ring.sound := by
  unfold State.restart
  split
  · exact State.restartBlocks_ring_sound (State.start_ring_sound (by exact h) 1)
  · exact h

end

theorem State.powerOn_ring (s : State) : s.powerOn.ring = State.reset.ring := by
  rw [State.powerOn, State.continueRecovery_ring, State.scanJournal_ring]
  exact State.loadSettings_ring _

end Sys2Proof.Machine
end

section
/-! The Event Ring's form (R97) under the requests, the oscillator cycle and every step: O30. -/

namespace Sys2Proof.Machine

@[simp] theorem State.cycle_ring (s : State) : s.cycle.ring = s.ring := rfl

@[simp] theorem State.serveFlash_ring (s : State) : s.serveFlash.ring = s.ring := by
  unfold State.serveFlash
  simp only
  split <;> simp

/-! ### Requests -/

section
variable {s : State} (h : s.ring.sound)
include h

theorem State.setTime_ring_sound (second : Second) (micros : BitVec 24) :
    (s.setTime second micros).state.ring.sound := by
  unfold State.setTime
  repeat' split
  · exact h
  · exact h
  · exact State.handStepOff_ring_sound (State.secondBoundary_ring_sound h) _ _ _

theorem State.selectReference_ring_sound (mode : Byte) : (s.selectReference mode).state.ring.sound := by
  unfold State.selectReference
  split
  · exact h
  · exact State.evaluateSelection_ring_sound (by exact h)

theorem State.presetTally_ring_sound (b : PresetBody) : (s.presetTally b).state.ring.sound := by
  unfold State.presetTally
  repeat' split
  case h_2.isFalse.isFalse.isFalse.isFalse.isFalse =>
    simp only [State.ok, State.requestCheckpoint_ring]
    exact State.noteUnit_ring_sound (by exact h) _ _ _ _ _
  all_goals exact h

theorem State.lockPresets_ring_sound : s.lockPresets.state.ring.sound := by
  unfold State.lockPresets
  split
  · exact h
  · exact State.note_ring_sound (by exact h) _ _

theorem State.writeSettings_ring_sound (item qual : Byte) (v : List Byte) :
    (s.writeSettings item qual v).state.ring.sound := by
  unfold State.writeSettings
  split
  · exact State.applySettings_ring_sound h _
  · exact h

theorem State.saveSettings_ring_sound : s.saveSettings.state.ring.sound := by
  unfold State.saveSettings
  split
  · exact h
  · simpa [State.withSave] using h

theorem State.setTest_ring_sound (unit : Byte) : (s.setTest unit).state.ring.sound := by
  unfold State.setTest
  repeat' split
  · exact h
  · exact h
  · exact State.noteUnit_ring_sound (s := s.setMode _ _) (by exact h) _ _ _ _ _

theorem State.endTest_ring_sound (unit : Byte) : (s.endTest unit).state.ring.sound := by
  unfold State.endTest
  repeat' split
  · exact h
  · exact State.derive_ring_sound (State.closeTest_ring_sound h _ _) _ _
  · exact h

theorem State.takeShift_ring_sound (crew : Byte) : (s.takeShift crew).state.ring.sound := by
  unfold State.takeShift
  repeat' split
  · exact h
  · exact h
  · exact State.noteHandover_ring_sound (by exact h) _ _

theorem State.handOver_ring_sound (crew : Byte) : (s.handOver crew).state.ring.sound := by
  unfold State.handOver
  repeat' split
  case isFalse.isFalse.isFalse => exact State.noteHandover_ring_sound (by exact h) _ _
  all_goals exact h

theorem State.withdraw_ring_sound : s.withdraw.state.ring.sound := by
  unfold State.withdraw
  split
  · exact State.noteHandover_ring_sound (by exact h) _ _
  · exact h

theorem State.accept_ring_sound (crew : Byte) : (s.accept crew).state.ring.sound := by
  unfold State.accept
  repeat' split
  case h_1.isFalse => exact State.cutShift_ring_sound h crew
  all_goals exact h

/-- READ EVENTS and SEEK EVENTS move a cursor, some owners write a record, and the others leave the ring. -/
theorem State.decide_ring_sound (q : Port) (r : Request) : (s.decide q r).state.ring.sound := by
  cases r
  case readEvents count => exact State.readEvents_ring_sound h q count
  case seekEvents selector seq => exact State.seekEvents_ring_sound h q selector seq
  case setTime second micros => exact State.setTime_ring_sound h second micros
  case selectReference mode => exact State.selectReference_ring_sound h mode
  case presetTally body => exact State.presetTally_ring_sound h body
  case lockPresets => exact State.lockPresets_ring_sound h
  case writeSettings item qual value => exact State.writeSettings_ring_sound h item qual value
  case saveSettings => exact State.saveSettings_ring_sound h
  case restart => exact State.restart_ring_sound h
  case setTest unit => exact State.setTest_ring_sound h unit
  case endTest unit => exact State.endTest_ring_sound h unit
  case takeShift crew => exact State.takeShift_ring_sound h crew
  case handOver crew => exact State.handOver_ring_sound h crew
  case accept crew => exact State.accept_ring_sound h crew
  case withdraw => exact State.withdraw_ring_sound h
  all_goals
    simp only [State.decide, State.readLines, State.readUnit, State.readTripFile, State.readSummary,
      State.readJournal, State.readSettings, State.clearTripFile, State.acknowledgeTripFile,
      State.permitPreset]
    repeat' split
    all_goals exact h

theorem State.take_ring_sound (q : Port) (r : Request) : (s.take q r).ring.sound := by
  unfold State.take
  split
  · exact State.decide_ring_sound h q r
  · exact h

theorem State.frameBegin_ring_sound (q : Port) : (s.frameBegin q).ring.sound := by
  unfold State.frameBegin
  split
  · exact h
  · exact State.take_ring_sound h q .nop

theorem State.frameEnd_ring_sound (q : Port) (bytes : List Byte) : (s.frameEnd q bytes).ring.sound := by
  have ended : ((s.answerNop q).endFrame q bytes).ring.sound := by
    rw [State.endFrame_ring]
    exact State.take_ring_sound h q .nop
  unfold State.frameEnd
  simp only
  repeat' split
  · exact h
  · exact State.take_ring_sound ended q .restart
  · exact ended

theorem State.frameAbort_ring_sound (q : Port) : (s.frameAbort q).ring.sound := by
  unfold State.frameAbort
  split
  · exact h
  · exact State.take_ring_sound h q .nop

theorem State.request_ring_sound (q : Port) (r : Request) : (s.request q r).ring.sound := by
  unfold State.request
  split
  · exact State.take_ring_sound h q r
  · exact State.take_ring_sound (State.frameEnd_ring_sound h q _) q r

/-! ### The oscillator cycle -/

theorem State.servePrompt_ring_sound : s.servePrompt.ring.sound :=
  State.forEach_ring_sound h _ _ fun q _ ht =>
    State.forEach_ring_sound ht _ _ fun b _ hu => State.take_ring_sound hu q b.request

theorem State.serveDriver_ring_sound : s.serveDriver.ring.sound := by
  unfold State.serveDriver
  simp only [State.releaseStrobe_ring]
  exact State.checkEcho_ring_sound (by simpa using h) _

theorem State.serveReferences_ring_sound : s.serveReferences.ring.sound :=
  State.expireUnpaired_ring_sound <| State.forEach_ring_sound h _ _ fun r _ ht =>
    State.expirePulse_ring_sound (State.failLate_ring_sound ht r) r

theorem State.serveScan_ring_sound : s.serveScan.ring.sound := by
  rw [State.serveScan, State.withDue_ring]
  exact State.scan_ring_sound (State.baseline_ring_sound h _) _

theorem State.serveLines_ring_sound : s.serveLines.ring.sound := by
  unfold State.serveLines
  extract_lets d
  have scanned : d.ring.sound := State.serveScan_ring_sound <|
    State.forEach_ring_sound h _ _ fun l _ ht => State.endFastDebounce_ring_sound ht l
  exact State.forEach_ring_sound scanned _ _ fun l t ht =>
    State.endChatter_ring_sound (by rwa [State.closeChatterWindow_ring]) l

theorem State.serveUnits_ring_sound : s.serveUnits.ring.sound := by
  have settled := State.forEach_ring_sound h allUnits (fun u t => (t.settle u).expireTest u)
    fun u _ ht => State.expireTest_ring_sound (State.settle_ring_sound ht u) u
  have closed := State.forEach_ring_sound settled allSlots (fun i t => t.windowEnd i)
    fun i _ ht => State.windowEnd_ring_sound ht i
  exact State.forEach_ring_sound closed _ _ fun u t ht => by rwa [State.lapsePermit_ring]

theorem State.serveDue_ring_sound : s.serveDue.ring.sound := by
  have messages : s.servePrompt.serveMessages.ring.sound :=
    State.forEach_ring_sound (State.servePrompt_ring_sound h) _ _ fun r t ht => by
      rwa [State.takeArrived_ring]
  unfold State.serveDue
  extract_lets a
  have boundary : a.ring.sound := by
    rw [State.millisecondBoundary_ring]
    exact State.secondBoundary_ring_sound messages
  rw [State.serveFlash_ring]
  exact State.lapseOffer_ring_sound (State.endGrace_ring_sound (State.serveUnits_ring_sound
    (State.serveLines_ring_sound (State.serveReferences_ring_sound
      (State.serveDriver_ring_sound boundary)))))

theorem State.oscillatorCycle_ring_sound : s.oscillatorCycle.ring.sound := by
  unfold State.oscillatorCycle
  split
  · exact h
  · rw [State.cycle_ring]
    exact State.serveDue_ring_sound h

/-! ### Every step -/

/-- The effect of a command on the ring: the power gives a fresh one, the events and the requests complete
records, two requests move a cursor, and no other command touches it. -/
theorem exec_ring_sound (i : Instr) {t : State} (ht : exec i s = .next t) : t.ring.sound := by
  cases i
  case powerOn => cases ht; rw [State.powerOn_ring]; exact Ring.powerOn_sound
  case powerLoss => cases ht; exact Ring.powerOn_sound
  case endOfRecovery => cases ht; exact State.endRecovery_ring_sound h
  case baseline pins => cases ht; exact State.baseline_ring_sound h pins
  case restartLine => cases ht; exact State.restart_ring_sound h
  case oscillatorCycle => cases ht; exact State.oscillatorCycle_ring_sound h
  case secondBoundary => cases ht; exact State.secondBoundary_ring_sound h
  case pulseEdge r rising =>
    cases ht
    split
    · exact State.pulseEdge_ring_sound h r rising
    · exact h
  case timeMessage | messageByte => cases ht; split <;> simpa using h
  case pulseLossTimeout r => cases ht; exact State.expirePulse_ring_sound h r
  case latePulse r => cases ht; exact State.failLate_ring_sound h r
  case unpairedMarkTimeout => cases ht; exact State.expireUnpaired_ring_sound h
  case echoCheck asserted => cases ht; exact State.checkEcho_ring_sound (by exact h) asserted
  case fastLineDebounceEnd u f => cases ht; exact State.endFastDebounce_ring_sound h _
  case scanInstant pins => cases ht; exact State.scan_ring_sound h pins
  case chatterOff l => cases ht; exact State.endChatter_ring_sound h l
  case settling u => cases ht; exact State.settle_ring_sound h u
  case testExpiry u => cases ht; exact State.expireTest_ring_sound h u
  case windowEnd slot => cases ht; exact State.windowEnd_ring_sound h slot
  case programEnd left => cases ht; exact State.programEnd_ring_sound h left
  case eraseEnd left => cases ht; exact State.eraseEnd_ring_sound h left
  case graceEnd => cases ht; exact State.endGrace_ring_sound h
  case offerLapse => cases ht; exact State.lapseOffer_ring_sound h
  case frameBegin q => cases ht; exact State.frameBegin_ring_sound h q
  case frameEnd q bytes => cases ht; exact State.frameEnd_ring_sound h q bytes
  case frameAbort q => cases ht; exact State.frameAbort_ring_sound h q
  case responseFinished => cases ht; exact h
  case powerFailWarning | powerFailRelease | millisecondBoundary | messageByteTimeout | strobeRelease
      | wordEnd | dclkDdataChange | fastLineEdge | chatterWindowClose | permitLapse | checkpointInterval
      | countPace | checkpointBegin | settingsEraseEnd | settingsProgramEnd =>
    cases ht
    simpa using h
  case readLines q look => cases ht; exact State.request_ring_sound (by exact h) q _
  all_goals cases ht; exact State.request_ring_sound h _ _

end

/-- Settles O30: the empty queue leaves the state alone, and a command taken from the queue keeps the ring's
form, since the queue is no part of the ring. -/
theorem ringStaysSound : Obligations.RingStaysSound := by
  intro s t h ht
  unfold step at ht
  split at ht
  · cases ht; exact h
  · exact exec_ring_sound (by exact h) _ ht

end Sys2Proof.Machine
end

section
/-! The retired set and the rotation (R147, R154), and what a retirement, the marks and the grants of the flash
make of the journal (R153 to R157): the facts that the end of an erase rests on. -/

namespace Sys2Proof.Machine

/-! ### The retired set (R154) -/

theorem getLsbD_sectorFlag (x y : Fin 32) : (sectorFlag x).getLsbD y.val = Decidable.decide (y = x) := by
  revert x y
  decide

theorem getLsbD_retired_same (retired : BitVec 32) (x : Fin 32) :
    (retired ||| sectorFlag x).getLsbD x.val = true := by
  rw [BitVec.getLsbD_or, getLsbD_sectorFlag, decide_eq_true rfl, Bool.or_true]

theorem getLsbD_retired_other (retired : BitVec 32) {x y : Fin 32} (other : y ≠ x) :
    (retired ||| sectorFlag x).getLsbD y.val = retired.getLsbD y.val := by
  rw [BitVec.getLsbD_or, getLsbD_sectorFlag, decide_eq_false other, Bool.or_false]

/-- Of two conditions that exclude each other the counts add up. -/
theorem countP_or_of_disjoint {α : Type} (p q : α → Bool) (xs : List α)
    (apart : ∀ x ∈ xs, (p x && q x) = false) :
    xs.countP (fun x => p x || q x) = xs.countP p + xs.countP q := by
  induction xs with
  | nil => rfl
  | cons x rest ih =>
    have here := apart x List.mem_cons_self
    have there := ih fun y hy => apart y (List.mem_cons_of_mem _ hy)
    rw [List.countP_cons, List.countP_cons, List.countP_cons, there]
    cases hp : p x <;> cases hq : q x
    case true.true => simp [hp, hq] at here
    all_goals simp <;> omega

/-- A retirement raises the number of retired sectors by one (R155). -/
theorem retiredCount_retired {retired : BitVec 32} {x : Fin 32} (fresh : retired.getLsbD x.val = false) :
    retiredCount (retired ||| sectorFlag x) = retiredCount retired + 1 := by
  have split : ∀ i ∈ List.range 32, (retired ||| sectorFlag x).getLsbD i
      = (retired.getLsbD i || (i == x.val)) := by
    intro i hi
    have flag := getLsbD_sectorFlag x ⟨i, List.mem_range.1 hi⟩
    rw [BitVec.getLsbD_or, flag]
    congr 1
    exact decide_eq_decide.2 Fin.ext_iff
  have once : (List.range 32).countP (· == x.val) = 1 :=
    List.count_eq_one_of_mem List.nodup_range (List.mem_range.2 x.isLt)
  unfold retiredCount
  rw [List.countP_congr fun i hi => by rw [split i hi], countP_or_of_disjoint, once]
  intro i _
  by_cases same : i = x.val
  · rw [same, fresh, Bool.false_and]
  · simp [same]

/-- The first sector retired is the only one. -/
theorem zero_or_sectorFlag (x : Fin 32) : (0 : BitVec 32) ||| sectorFlag x = sectorFlag x := BitVec.zero_or

theorem retiredCount_sectorFlag (x : Fin 32) : retiredCount (sectorFlag x) = 1 := by
  rw [← zero_or_sectorFlag, retiredCount_retired (retired := 0) BitVec.getLsbD_zero]
  rfl

/-- While fewer than 31 sectors are retired, another one is usable beside a sector that is. -/
theorem exists_usable {retired : BitVec 32} {x : Fin 32} (fresh : retired.getLsbD x.val = false)
    (few : retiredCount retired < 31) : ∃ usable : Fin 32, usable ≠ x ∧ retired.getLsbD usable.val = false := by
  by_contra none_left
  push Not at none_left
  have all : ∀ i ∈ List.range 32, (retired ||| sectorFlag x).getLsbD i = true := by
    intro i hi
    by_cases same : (⟨i, List.mem_range.1 hi⟩ : Fin 32) = x
    · rw [← same]
      exact getLsbD_retired_same retired _
    · exact (getLsbD_retired_other retired same).trans (by simpa using none_left _ same)
  have full : retiredCount (retired ||| sectorFlag x) = 32 := List.countP_eq_length.2 all
  rw [retiredCount_retired fresh] at full
  omega

/-! ### The rotation (R147) -/

/-- A usable sector among the next ones is found, or one before it (R147). -/
theorem find_usable {retired : BitVec 32} {x usable : Fin 32} {n : Nat}
    (h : retired.getLsbD usable.val = false) (near : (usable - (x + 1)).val < n) :
    ∃ i < n, ((List.range n).map fun i => x + 1 + Fin.ofNat 32 i).find?
      (fun y => !retired.getLsbD y.val) = some (x + 1 + Fin.ofNat 32 i) := by
  have reached : usable ∈ (List.range n).map fun i => x + 1 + Fin.ofNat 32 i :=
    List.mem_map.2 ⟨(usable - (x + 1)).val, List.mem_range.2 near, by
      rw [Fin.ofNat_val_eq_self]
      exact add_sub_cancel _ _⟩
  obtain ⟨y, found⟩ := Option.isSome_iff_exists.1 <|
    List.find?_isSome (p := fun y : Fin 32 => !retired.getLsbD y.val).2 ⟨usable, reached, by rw [h]; rfl⟩
  obtain ⟨i, hi, place⟩ := List.mem_map.1 (List.mem_of_find?_eq_some found)
  exact ⟨i, List.mem_range.1 hi, by rw [found, ← place]⟩

/-- Where some sector is usable, the rotation goes on to a usable one (R147). -/
theorem sectorAfter_usable {retired : BitVec 32} {usable : Fin 32}
    (h : retired.getLsbD usable.val = false) (x : Fin 32) :
    retired.getLsbD (sectorAfter retired x).val = false := by
  obtain ⟨i, -, found⟩ := find_usable (x := x) h (usable - (x + 1)).isLt
  rw [sectorAfter, found]
  simpa using List.find?_some found

/-- Where another sector is usable, the rotation leaves a sector (R147). -/
theorem sectorAfter_ne {retired : BitVec 32} {x usable : Fin 32} (other : usable ≠ x)
    (h : retired.getLsbD usable.val = false) : sectorAfter retired x ≠ x := by
  have near : (usable - (x + 1)).val < 31 := by
    have apart : usable.val ≠ x.val := fun e => other (Fin.ext e)
    simp only [Fin.sub_def, Fin.add_def]
    omega
  obtain ⟨i, hi, found⟩ := find_usable h near
  rw [sectorAfter, show List.range 32 = List.range 31 ++ [31] from rfl, List.map_append,
    List.find?_append, found]
  intro same
  have value := congrArg Fin.val same
  simp only [Option.some_or, Option.getD_some, Fin.add_def, Fin.ofNat] at value
  omega

/-- The next sector is taken when it is usable, and the one after it when only the next one is retired. -/
theorem sectorAfter_one_retired (x current : Fin 32) :
    sectorAfter (sectorFlag x) current = if current + 1 = x then current + 2 else current + 1 := by
  revert x current
  decide

theorem sectorAfter_none_retired (current : Fin 32) : sectorAfter 0 current = current + 1 := by
  revert current
  decide

end Sys2Proof.Machine
end

section

/-! ## The journal's work on the flash and what it tells (R153 to R156) -/

namespace Sys2Proof.Machine

/-! ### What the journal's work moves -/

/-- From one state to another the journal and the flash have moved, the ring has been handed the entries and the
ports have been raised the notices; nothing else has moved. -/
structure State.Works (s t : State) (es : List Entry) (ks : List Notice) : Prop where
  frame : t = { s with journal := t.journal, flash := t.flash, ring := t.ring, ports := s.latched t }
  tells : s.Tells t es ks

section
variable {s t v : State} {es gs : List Entry} {ks ls : List Notice}

theorem State.Works.of_silent {j : Journal} {f : Flash} (h : t = { s with journal := j, flash := f }) :
    s.Works t [] [] where
  frame := by rw [h]; rfl
  tells := by rw [h]; exact State.Tells.of_eq rfl rfl

theorem State.Works.trans (h : s.Works t es ks) (g : t.Works v gs ls) :
    s.Works v (es ++ gs) (ks ++ ls) where
  frame := by
    have ports := State.latched_trans h.tells.ports g.tells.ports
    rw [← ports, g.frame, h.frame]
  tells := h.tells.trans g.tells

/-- Silent work before what is told. -/
theorem State.Works.after_silent {j : Journal} {f : Flash} (g : t.Works v es ks)
    (h : t = { s with journal := j, flash := f }) : s.Works v es ks :=
  (State.Works.of_silent h).trans g

/-- Silent work after what is told. -/
theorem State.Works.then_silent {j : Journal} {f : Flash} (h : s.Works t es ks)
    (g : v = { t with journal := j, flash := f }) : s.Works v es ks := by
  simpa using h.trans (State.Works.of_silent g)

theorem State.Works.reading (h : s.Works t es ks) : t.reading = s.reading := by
  rw [h.frame]; rfl

theorem State.Works.phase (h : s.Works t es ks) : t.phase = s.phase := by
  rw [h.frame]

end

section
variable (s : State)

/-! ### JOURNAL records and the journal's state (R154, R155) -/

theorem State.noteJournal_works (high low : Nat) :
    s.Works (s.noteJournal high low) [s.ownRecord .journal (datumOf high low)] [.journal] where
  frame := by
    have ports := ((s.note_tells .journal (datumOf high low)).trans
      ((s.note .journal (datumOf high low)).raiseAll_tells .journal)).ports
    obtain ⟨r, p, frame⟩ := s.note_frame .journal (datumOf high low)
    unfold State.noteJournal
    rw [← ports, frame]
    rfl
  tells := (s.note_tells .journal _).trans (State.raiseAll_tells _ .journal)

@[simp] theorem State.noteJournal_flash (high low : Nat) : (s.noteJournal high low).flash = s.flash := by
  simp [State.noteJournal]

/-- The JOURNAL record of a retired sector (R154). -/
def State.retiredRecord (x : Fin 32) : Entry := s.ownRecord .journal (BitVec.ofNat 16 (256 + x.val))

variable {s} {x : Fin 32}

/-- At most seven retired sectors leave a NORMAL journal NORMAL (R155). -/
theorem State.reviewJournal_of_normal (normal : s.journal.state = .normal)
    (few : retiredCount s.journal.retired ≤ 7) (verified : Bool) : s.reviewJournal verified = s := by
  unfold State.reviewJournal
  simp [normal, stateOfRetired, few]

/-- Twenty-nine retired sectors make a journal FAILED (R155). -/
theorem State.reviewJournal_of_many (alive : s.journal.state ≠ .failed)
    (many : 28 < retiredCount s.journal.retired) (verified : Bool) :
    s.reviewJournal verified = s.enterJournalState .failed := by
  have failed : stateOfRetired (retiredCount s.journal.retired) = .failed := by
    unfold stateOfRetired
    rw [if_neg (by omega), if_neg (by omega)]
  unfold State.reviewJournal
  simp [failed, alive, Ne.symm alive]

/-- A retirement that leaves the journal NORMAL, and one in recovery, is the set, the marks and the record. -/
theorem State.retire_eq (same : s.phase = .recovering
      ∨ (s.journal.state = .normal ∧ retiredCount (s.journal.retired ||| sectorFlag x) ≤ 7)) :
    s.retire x = (s.withJournal (s.journal.retiring x)).noteJournal 1 x.val := by
  unfold State.retire
  extract_lets t
  split
  · rfl
  · rename_i running
    obtain ⟨normal, few⟩ := same.resolve_left running
    have journal : t.journal = s.journal.retiring x := State.noteJournal_journal _ _ _
    exact State.reviewJournal_of_normal (journal ▸ normal) (journal ▸ few) false

/-- The retirement that leaves three usable sectors makes the journal FAILED (R155). -/
theorem State.retire_last_eq (running : s.phase ≠ .recovering) (alive : s.journal.state ≠ .failed)
    (many : 28 < retiredCount (s.journal.retired ||| sectorFlag x)) :
    s.retire x
      = ((s.withJournal (s.journal.retiring x)).noteJournal 1 x.val).enterJournalState .failed := by
  unfold State.retire
  extract_lets t
  have journal : t.journal = s.journal.retiring x := State.noteJournal_journal _ _ _
  rw [if_neg running]
  exact State.reviewJournal_of_many (journal ▸ alive) (journal ▸ many) false

/-- A retirement that leaves the journal NORMAL, or is made in recovery (R154). -/
theorem State.retire_works (same : s.phase = .recovering
      ∨ (s.journal.state = .normal ∧ retiredCount (s.journal.retired ||| sectorFlag x) ≤ 7)) :
    s.Works (s.retire x) [s.retiredRecord x] [.journal]
      ∧ (s.retire x).journal = s.journal.retiring x := by
  rw [State.retire_eq same]
  exact ⟨((s.withJournal (s.journal.retiring x)).noteJournal_works 1 x.val).after_silent rfl,
    State.noteJournal_journal _ _ _⟩

/-- The retirement that makes the journal FAILED (R153 to R155). -/
theorem State.retire_last_works (running : s.phase ≠ .recovering) (alive : s.journal.state ≠ .failed)
    (many : 28 < retiredCount (s.journal.retired ||| sectorFlag x)) :
    s.Works (s.retire x) [s.retiredRecord x, s.ownRecord .journal 2] [.journal, .journal]
      ∧ (s.retire x).journal
        = { s.journal.retiring x with state := .failed, pending := 0, retry := none } := by
  rw [State.retire_last_eq running alive many]
  have noted := ((s.withJournal (s.journal.retiring x)).noteJournal_works 1 x.val).after_silent
    (s := s) rfl
  have entered (w : State) : w.Works (w.enterJournalState .failed) [w.ownRecord .journal 2] [.journal] :=
    (State.noteJournal_works (w.withJournal _) 0 2).after_silent rfl
  refine ⟨?_, ?_⟩
  · have both := noted.trans (entered _)
    rwa [show State.ownRecord _ .journal 2 = s.ownRecord .journal 2 by
      rw [State.ownRecord, noted.reading]; rfl] at both
  · rw [State.enterJournalState, State.noteJournal_journal, State.noteJournal_journal]
    rfl

@[simp] theorem State.retire_flash (x : Fin 32) : (s.retire x).flash = s.flash := by
  unfold State.retire State.reviewJournal State.enterJournalState
  simp only
  repeat' split
  all_goals simp

end

/-! ### Grants of the flash (R156) -/

section
variable {s : State}

theorem State.beginSettingsWork_of_no_save (none_saved : s.settings.save = none) :
    s.beginSettingsWork = s := by
  unfold State.beginSettingsWork
  rw [none_saved]

theorem State.grantFlash_of_busy (busy : s.flash.op ≠ .none) : s.grantFlash = s := by
  unfold State.grantFlash
  exact if_pos (Or.inl busy)

/-- A free flash stays free when nothing calls for it. -/
theorem State.grantFlash_of_no_work (retry : s.journal.retry = none) (owed : s.journal.owedErase = none)
    (mark : s.journal.reErase = none) (none_saved : s.settings.save = none) : s.grantFlash = s := by
  unfold State.grantFlash
  simp [State.beginSettingsWork_of_no_save none_saved, retry, owed, mark]

/-- A FAILED journal leaves the flash to the settings (R155). -/
theorem State.grantFlash_of_failed (failed : s.journal.state = .failed)
    (none_saved : s.settings.save = none) : s.grantFlash = s := by
  unfold State.grantFlash
  simp [State.beginSettingsWork_of_no_save none_saved, failed]

theorem State.eraseAhead_of_failed (failed : s.journal.state = .failed) : s.eraseAhead = s := by
  unfold State.eraseAhead
  exact if_pos failed

theorem State.eraseAhead_of_clear (alive : s.journal.state ≠ .failed) (clear : s.journal.taken = false) :
    s.eraseAhead = s.beginErase s.journal.nextSector := by
  unfold State.eraseAhead
  rw [if_neg alive, clear]
  rfl

/-- The journal once the rotation has left a sector that was its current one (R147). -/
def Journal.leaving (j : Journal) (x : Fin 32) : Journal :=
  if j.sector = x then { j with sector := j.nextSector, slot := 0, retireOnLeave := false } else j

theorem State.leaveRetired_eq (s : State) (x : Fin 32) :
    s.leaveRetired x = s.withJournal (s.journal.leaving x) := by
  unfold State.leaveRetired Journal.leaving
  split <;> rfl

/-! ### The end of an erase (R155) -/

/-- The flash as an erase has left it, free again. -/
def State.erased (s : State) (sector : Fin 32) (left : List Byte) : State :=
  { s with flash := { s.flash with
      mem := s.flash.mem.replace (sector.val * 4096) 4096 left, op := .none } }

variable {sector : Fin 32} {left : List Byte}

theorem State.eraseEnd_eq (inflight : s.flash.op = .erase sector) (running : s.phase ≠ .recovering) :
    s.eraseEnd left
      = (if (s.flash.mem.replace (sector.val * 4096) 4096 left).blank (sector.val * 4096) 4096
        then s.erased sector left else (s.erased sector left).eraseFailed sector).grantFlash := by
  unfold State.eraseEnd
  rw [inflight]
  exact if_neg running

theorem State.eraseEnd_recovery_eq (inflight : s.flash.op = .erase sector)
    (recovering : s.phase = .recovering) : s.eraseEnd left
      = (if (s.flash.mem.replace (sector.val * 4096) 4096 left).blank (sector.val * 4096) 4096
        then s.erased sector left
        else (s.erased sector left).countEraseFailure.recoveryEraseFailed sector).continueRecovery := by
  unfold State.eraseEnd
  rw [inflight]
  exact if_pos recovering

end

end Sys2Proof.Machine
end

section

/-! ## A retired sector is spared (R147, R152, R154) -/

namespace Sys2Proof.Machine

/-! ### A retired sector and its marks (R147) -/

/-- A mark that goes when a sector is erased does not come to name another. -/
theorem clearMark_ne_of_ne {x : Fin 32} (y : Fin 32) {mark : Option (Fin 32)} (h : mark ≠ some x) :
    clearMark y mark ≠ some x := by
  unfold clearMark
  split
  · nofun
  · exact h

/-- Without a mark of its own a retirement changes the retired set alone. -/
theorem Journal.retiring_of_unmarked {j : Journal} {x : Fin 32} (mark : j.reErase ≠ some x)
    (owed : j.owedErase ≠ some x) : j.retiring x = { j with retired := j.retired ||| sectorFlag x } := by
  rw [Journal.retiring, clearMark_of_ne mark, clearMark_of_ne owed]

/-- A sector is retired, another one is usable, and neither a mark nor the operation in flight calls for the
erase of the retired one. -/
structure State.Spares (t : State) (x usable : Fin 32) : Prop where
  retired : t.journal.retired.getLsbD x.val = true
  usable : t.journal.retired.getLsbD usable.val = false
  mark : t.journal.reErase ≠ some x
  owed : t.journal.owedErase ≠ some x
  op : t.flash.op ≠ .erase x

section
variable {t : State} {x usable : Fin 32}

/-- A retirement spares the sector it retires (R147, R154). -/
theorem State.retire_spares (other : usable ≠ x) (left : t.journal.retired.getLsbD usable.val = false)
    (op : t.flash.op ≠ .erase x) : (t.retire x).Spares x usable := by
  obtain ⟨st, c, r, journal⟩ := t.retire_journal x
  exact {
    retired := by rw [journal]; exact getLsbD_retired_same _ x
    usable := by rw [journal]; exact (getLsbD_retired_other _ other).trans left
    mark := by rw [journal]; exact clearMark_ne _ _
    owed := by rw [journal]; exact clearMark_ne _ _
    op := by rwa [State.retire_flash] }

namespace State.Spares

/-- The rotation does not come to a retired sector. -/
theorem nextSector_ne (h : t.Spares x usable) : t.journal.nextSector ≠ x := by
  intro same
  have free := sectorAfter_usable h.usable t.journal.sector
  rw [show sectorAfter t.journal.retired t.journal.sector = x from same, h.retired] at free
  exact Bool.noConfusion free

theorem beginErase (h : t.Spares x usable) {y : Fin 32} (other : y ≠ x) :
    (t.beginErase y).Spares x usable :=
  ⟨h.retired, h.usable, clearMark_ne_of_ne y h.mark, clearMark_ne_of_ne y h.owed,
    fun same => other (by cases same; rfl)⟩

theorem eraseAhead (h : t.Spares x usable) : t.eraseAhead.Spares x usable := by
  unfold State.eraseAhead
  repeat' split
  · exact h
  · exact ⟨h.retired, h.usable, h.mark, fun same => h.nextSector_ne (Option.some.inj same), h.op⟩
  · exact h.beginErase h.nextSector_ne

/-- The rotation that leaves the retired sector stands on another one. -/
theorem leaveRetired (h : t.Spares x usable) :
    (t.leaveRetired x).Spares x usable ∧ (t.leaveRetired x).journal.sector ≠ x := by
  unfold State.leaveRetired
  split
  · exact ⟨⟨h.retired, h.usable, h.mark, h.owed, h.op⟩, h.nextSector_ne⟩
  · exact ⟨h, by assumption⟩

theorem beginSettingsWork (h : t.Spares x usable) : t.beginSettingsWork.Spares x usable := by
  unfold State.beginSettingsWork
  split
  · exact ⟨h.retired, h.usable, h.mark, h.owed, nofun⟩
  · exact ⟨h.retired, h.usable, h.mark, h.owed, nofun⟩
  · exact h

theorem grantFlash (h : t.Spares x usable) : t.grantFlash.Spares x usable := by
  unfold State.grantFlash
  extract_lets j
  repeat' split
  · exact h
  · exact h.beginSettingsWork
  · exact ⟨h.retired, h.usable, h.mark, h.owed, nofun⟩
  · rename_i owed
    exact h.beginErase fun same => h.owed (same ▸ owed)
  · rename_i mark
    exact h.beginErase fun same => h.mark (same ▸ mark)
  · exact h.beginSettingsWork
  · exact h

theorem continueRecovery (h : t.Spares x usable) (current : t.journal.sector ≠ x) :
    t.continueRecovery.Spares x usable := by
  unfold State.continueRecovery
  repeat' split
  · exact h
  · rename_i y erase
    refine h.beginErase ?_
    unfold State.recoveryErase at erase
    rintro rfl
    simp only at erase
    repeat' split at erase
    · cases erase
    · rename_i mark
      cases erase
      exact h.mark mark
    · exact current (Option.some.inj erase)
    · exact h.nextSector_ne (Option.some.inj erase)
    · cases erase
  · exact h

theorem withStage (h : t.Spares x usable) (st : PowerFailStage) : (t.withStage st).Spares x usable :=
  ⟨h.retired, h.usable, h.mark, h.owed, h.op⟩

theorem afterTakenProgram (h : t.Spares x usable) (r : JournalRecord) (verified : Bool) :
    (t.afterTakenProgram r verified).Spares x usable := by
  unfold State.afterTakenProgram State.beginPowerFail State.retryPowerFail
  repeat' split
  case h_1.isFalse | h_2.isFalse.isTrue => exact ⟨h.retired, h.usable, h.mark, h.owed, nofun⟩
  case h_4 | h_5 => exact h
  all_goals exact h.withStage .done

theorem requestCheckpoint (h : t.Spares x usable) (c : Cause) : (t.requestCheckpoint c).Spares x usable := by
  unfold State.requestCheckpoint
  split
  · exact h
  · exact ⟨h.retired, h.usable, h.mark, h.owed, h.op⟩

theorem beginReleasedPowerFail (h : t.Spares x usable) : t.beginReleasedPowerFail.Spares x usable := by
  have requested := (h.withStage .none).requestCheckpoint .powerFail
  unfold State.beginReleasedPowerFail
  extract_lets u p
  repeat' split
  · exact h.withStage .none
  · exact ⟨requested.retired, requested.usable, requested.mark, requested.owed, nofun⟩
  · exact requested

end State.Spares

end

/-! ### A failed program in the last slot of a sector (R147, R152, R153) -/

section
variable {s : State} {sector : Fin 32} {slot : Fin 8} {r : JournalRecord} {left : Option (List Byte)}

/-- The flash as a program has left it, free again. -/
def State.programmed (s : State) (sector : Fin 32) (slot : Fin 8) (r : JournalRecord)
    (left : Option (List Byte)) : State :=
  (s.withMem (s.flash.mem.afterProgram (slotAddress sector slot) r.bytes left)).withOp .none

/-- What follows the end of a failed program (R153, R157). -/
theorem State.programEnd_failed_eq (inflight : s.flash.op = .program sector slot r)
    (failed : (s.programmed sector slot r left).flash.mem.readBackMatches (slotAddress sector slot)
      r.bytes left = false) :
    s.programEnd left
      = (if s.journal.taken then
          ((s.programmed sector slot r left).programFailed r).afterTakenProgram r false
        else if s.journal.stage = .waiting then
          ((s.programmed sector slot r left).programFailed r).beginReleasedPowerFail
        else (s.programmed sector slot r left).programFailed r).grantFlash := by
  unfold State.programEnd
  rw [inflight]
  unfold State.programmed at failed ⊢
  simp only [State.endProgram, failed, Bool.false_eq_true, if_false]

/-- A failed program is counted, and the rotation leaves its sector, the program having been in the last slot. -/
def State.leftAfterFailure (s : State) : State :=
  s.withJournal { s.journal with
    programFailures := min 65535 (s.journal.programFailures + 1)
    sector := s.journal.nextSector
    slot := 0
    retireOnLeave := false }

/-- The record of a failed program waits for its retry, unless the power-fail checkpoint takes its place or the
journal has become FAILED (R153, R157). -/
def State.retrying (t : State) (r : JournalRecord) : State :=
  if t.journal.taken || Decidable.decide (t.journal.stage = .waiting ∨ t.journal.state = .failed) then t
  else t.withJournal { t.journal with retry := some r }

/-- A failed program in the last slot retires the sector it leaves, and the erase ahead follows (R152, R153). -/
theorem State.programFailed_last_eq (last : s.journal.slot = 7)
    (leaves : s.journal.nextSector ≠ s.journal.sector) (r : JournalRecord) :
    s.programFailed r
      = ((s.leftAfterFailure.retire s.journal.sector).eraseAhead).retrying r := by
  have moved : (s.withJournal { s.journal with
      programFailures := satAdd Config.smallCap s.journal.programFailures 1
      retireOnLeave := true }).moveOn = (s.leftAfterFailure.retire s.journal.sector).eraseAhead := by
    unfold State.moveOn slotAfter
    simp only [State.withJournal_journal, last, if_true]
    exact if_neg leaves
  unfold State.programFailed State.retrying
  rw [moved]

/-- A failed program in the last slot of a sector spares it, while another sector is usable (R147). -/
theorem State.programFailed_spares {usable : Fin 32} (last : s.journal.slot = 7)
    (other : usable ≠ s.journal.sector) (free : s.journal.retired.getLsbD usable.val = false)
    (op : s.flash.op ≠ .erase s.journal.sector) (r : JournalRecord) :
    (s.programFailed r).Spares s.journal.sector usable := by
  rw [State.programFailed_last_eq last (sectorAfter_ne other free)]
  have moved : ((s.leftAfterFailure.retire s.journal.sector).eraseAhead).Spares s.journal.sector usable :=
    (State.retire_spares (t := s.leftAfterFailure) other free op).eraseAhead
  unfold State.retrying
  split
  · exact moved
  · exact ⟨moved.retired, moved.usable, moved.mark, moved.owed, moved.op⟩

/-- A program that has failed in the last slot, by its read-back or by the bytes that the command names (R153;
log 52). -/
theorem State.programmed_unread
    (failed : ¬(left = none ∧ (s.flash.mem.afterProgram (sector.val * 4096 + 3584) r.bytes left).slice
      (sector.val * 4096 + 3584) 512 = r.bytes)) :
    (s.programmed sector 7 r left).flash.mem.readBackMatches (slotAddress sector 7) r.bytes left
      = false := by
  cases left with
  | some rest => rfl
  | none =>
    rw [Memory.readBackMatches_none]
    exact beq_false_of_ne fun same => failed ⟨rfl, same⟩

end

end Sys2Proof.Machine
end

section

/-! ## An erase verified, or its sector retired (O40) -/

namespace Sys2Proof.Machine

/-! ### An erase verified, or its sector retired (R147, R154, R155) -/

section
variable {s : State} {sector : Fin 32}

/-- The journal after a failed erase that leaves it NORMAL, no sector having been retired (R154, R155). -/
theorem Journal.leaving_retiring_first {j : Journal} (none_retired : j.retired = 0)
    (mark : j.reErase = none) (owed : j.owedErase = none) : (j.retiring sector).leaving sector = { j with
      retired := sectorFlag sector
      sector := if j.sector = sector then sector + 1 else j.sector
      slot := if j.sector = sector then 0 else j.slot
      retireOnLeave := if j.sector = sector then false else j.retireOnLeave } := by
  have next : sectorAfter (sectorFlag sector) sector = sector + 1 := by
    rw [sectorAfter_one_retired, if_neg (by revert sector; decide)]
  rw [Journal.retiring_of_unmarked (by rw [mark]; nofun) (by rw [owed]; nofun), none_retired,
    zero_or_sectorFlag]
  by_cases current : j.sector = sector
  · simp only [Journal.leaving, Journal.nextSector, current, next, if_true]
  · simp only [Journal.leaving, current, if_false]

/-- A failed erase that leaves the journal NORMAL: the retirement is told, the rotation leaves the sector, and
the next erase begins (R154, R155). -/
theorem State.eraseFailed_first (normal : s.journal.state = .normal)
    (none_retired : s.journal.retired = 0) (clear : s.journal.taken = false)
    (mark : s.journal.reErase = none) (owed : s.journal.owedErase = none) :
    let current := if s.journal.sector = sector then sector + 1 else s.journal.sector
    s.Works (s.eraseFailed sector) [s.retiredRecord sector] [.journal]
      ∧ (s.eraseFailed sector).journal = { s.journal with
          eraseFailures := min 65535 (s.journal.eraseFailures + 1)
          retired := sectorFlag sector
          sector := current
          slot := if s.journal.sector = sector then 0 else s.journal.slot
          retireOnLeave := if s.journal.sector = sector then false else s.journal.retireOnLeave }
      ∧ (s.eraseFailed sector).flash = { s.flash with
          op := .erase (if current + 1 = sector then current + 2 else current + 1) } := by
  intro current
  have few : retiredCount (s.countEraseFailure.journal.retired ||| sectorFlag sector) ≤ 7 := by
    rw [show s.countEraseFailure.journal.retired = 0 from none_retired, zero_or_sectorFlag,
      retiredCount_sectorFlag]
    decide
  obtain ⟨works, journal⟩ := State.retire_works (s := s.countEraseFailure) (.inr ⟨normal, few⟩)
  have left : ((s.countEraseFailure.retire sector).leaveRetired sector).journal
      = { s.countEraseFailure.journal with
        retired := sectorFlag sector
        sector := current
        slot := if s.journal.sector = sector then 0 else s.journal.slot
        retireOnLeave := if s.journal.sector = sector then false else s.journal.retireOnLeave } := by
    rw [State.leaveRetired_eq, State.withJournal_journal, journal]
    exact Journal.leaving_retiring_first none_retired mark owed
  have ahead : s.eraseFailed sector
      = ((s.countEraseFailure.retire sector).leaveRetired sector).beginErase
        (if current + 1 = sector then current + 2 else current + 1) := by
    rw [State.eraseFailed, State.eraseAhead_of_clear, Journal.nextSector, left,
      sectorAfter_one_retired]
    · rw [left]
      exact fun failed => by cases normal.symm.trans failed
    · rw [left]
      exact clear
  refine ⟨(works.after_silent rfl).then_silent (by rw [ahead, State.leaveRetired_eq]; rfl), ?_, ?_⟩
  · rw [ahead, State.beginErase, State.withOp, State.withFlash_journal, State.withJournal_journal, left]
    simp only [State.countEraseFailure, State.withJournal_journal, mark, owed, clearMark]
    rfl
  · rw [ahead, State.leaveRetired_eq]
    simp only [State.beginErase, State.withOp, State.withFlash_flash, State.withJournal_flash,
      State.retire_flash]
    rfl

end

theorem erasedSector_isVerifiedOrRetired : Claims.ErasedSectorIsVerifiedOrRetired := by
  intro s left sector inflight running normal none_retired clear mark owed retry none_saved mem current
  refine ⟨s.eraseEnd left, rfl, ?_⟩
  rw [State.eraseEnd_eq inflight (by rw [running]; nofun)]
  by_cases blank : mem.blank (sector.val * 4096) 4096 = true
  · unfold mem at blank
    rw [if_pos blank, State.grantFlash_of_no_work (s := s.erased sector left) retry owed mark none_saved]
    exact ⟨rfl, fun _ => rfl, fun dirty => by cases blank.symm.trans dirty⟩
  · unfold mem at blank
    rw [if_neg blank]
    obtain ⟨works, journal, flash⟩ := State.eraseFailed_first (s := s.erased sector left)
      (sector := sector) normal none_retired clear mark owed
    rw [State.grantFlash_of_busy (by rw [flash]; nofun)]
    have told := works.after_silent (s := s) rfl
    refine ⟨by rw [flash]; rfl, fun clean => absurd clean blank, fun _ => ⟨journal, by rw [flash]; rfl,
      told.tells.noticed (by simp) (by decide), fun on => told.tells.holds_first on (by simp), told.frame⟩⟩

end Sys2Proof.Machine
end

section

/-! ## The last retirement, and an erase in recovery (O40) -/

namespace Sys2Proof.Machine

/-! ### The last retirement (R153, R154, R155) -/

/-- The journal has become FAILED by the retirement of a sector: nothing is pending or in progress, no erase
begins, the newest record stays, and JOURNAL follows the retirement's own record. -/
def State.JournalLost (s t : State) (x : Fin 32) : Prop :=
  t.journal.state = .failed ∧ t.journal.pending = 0 ∧ t.journal.retry = none
    ∧ t.journal.newest = s.journal.newest ∧ t.journal.nextSeq = s.journal.nextSeq
    ∧ t.journal.retired = s.journal.retired ||| 1#32 <<< x.val
    ∧ t.flash.op = .none ∧ t.noticed .journal
    ∧ (s.ring.started = true →
        t.ring.holds s.ring.next (s.ownRecord .journal (BitVec.ofNat 16 (256 + x.val)))
        ∧ t.ring.holds (s.ring.next + 1) (s.ownRecord .journal 2))
    ∧ t = { s with
        journal := t.journal, flash := t.flash, ring := t.ring, ports := s.latched t }

section
variable {s t : State} {x : Fin 32}

/-- The retirement of the 29th sector, the flash being free and the journal's records as they were. -/
theorem State.retire_last_lost {w : State} {j : Journal} {f : Flash}
    (work : w = { s with journal := j, flash := f })
    (records : j.newest = s.journal.newest ∧ j.nextSeq = s.journal.nextSeq ∧ j.retired = s.journal.retired)
    (free : f.op = .none) (running : s.phase = .running) (alive : j.state ≠ .failed)
    (many : retiredCount s.journal.retired = 28) (fresh : s.journal.retired.getLsbD x.val = false) :
    s.JournalLost (w.retire x) x := by
  obtain ⟨newest, nextSeq, retired⟩ := records
  have last : 28 < retiredCount (w.journal.retired ||| sectorFlag x) := by
    rw [work, retired, retiredCount_retired fresh, many]
    decide
  obtain ⟨works, journal⟩ := State.retire_last_works (s := w) (x := x)
    (by rw [work, running]; nofun) (by rw [work]; exact alive) last
  have told : s.Works (w.retire x) [s.retiredRecord x, s.ownRecord .journal 2] [.journal, .journal] := by
    subst work
    exact works.after_silent rfl
  refine ⟨by rw [journal], by rw [journal], by rw [journal], ?_, ?_, ?_, ?_,
    told.tells.noticed (by simp) (by decide), fun on => ⟨told.tells.holds_first on (by simp), ?_⟩,
    told.frame⟩
  · rw [journal, work]
    exact newest
  · rw [journal, work]
    exact nextSeq
  · rw [journal, work]
    exact congrArg (· ||| sectorFlag x) retired
  · rw [State.retire_flash, work]
    exact free
  · exact Ring.Gains.holds (before := [s.retiredRecord x]) (after := []) told.tells.ring on (by simp)

theorem State.JournalLost.failed (h : s.JournalLost t x) : t.journal.state = .failed := h.1

theorem State.JournalLost.settings (h : s.JournalLost t x) : t.settings = s.settings := by
  obtain ⟨-, -, -, -, -, -, -, -, -, frame⟩ := h
  rw [frame]

/-- The rotation may leave the sector afterwards. -/
theorem State.JournalLost.leaveRetired (h : s.JournalLost t x) : s.JournalLost (t.leaveRetired x) x := by
  obtain ⟨state, pending, retry, newest, nextSeq, retired, op, noticed, holds, frame⟩ := h
  unfold State.leaveRetired
  split
  · refine ⟨state, pending, retry, newest, nextSeq, retired, op, noticed, holds, ?_⟩
    exact congrArg (fun v : State => v.withJournal _) frame
  · exact ⟨state, pending, retry, newest, nextSeq, retired, op, noticed, holds, frame⟩

theorem State.leaveRetired_eraseFailures (t : State) (x : Fin 32) :
    (t.leaveRetired x).journal.eraseFailures = t.journal.eraseFailures := by
  unfold State.leaveRetired
  split <;> rfl

theorem State.retire_failures (t : State) (x : Fin 32) :
    (t.retire x).journal.eraseFailures = t.journal.eraseFailures
      ∧ (t.retire x).journal.programFailures = t.journal.programFailures := by
  obtain ⟨st, c, r, journal⟩ := t.retire_journal x
  rw [journal]
  exact ⟨rfl, rfl⟩

end

theorem lastRetirement_failsJournal : Claims.LastRetirementFailsJournal := by
  intro s sector running alive many fresh clear none_saved
  refine ⟨fun left inflight dirty => ⟨s.eraseEnd left, rfl, ?_⟩, ?_⟩
  · let w := (s.erased sector left).countEraseFailure
    have lost : s.JournalLost ((w.retire sector).leaveRetired sector) sector :=
      (State.retire_last_lost (w := w) rfl ⟨rfl, rfl, rfl⟩ rfl running alive many fresh).leaveRetired
    have ended : s.eraseEnd left = (w.retire sector).leaveRetired sector := by
      rw [State.eraseEnd_eq inflight (by rw [running]; nofun), if_neg (by rw [dirty]; nofun),
        State.eraseFailed, State.eraseAhead_of_failed lost.failed,
        State.grantFlash_of_failed lost.failed (lost.settings ▸ none_saved)]
    rw [ended]
    refine ⟨lost, ?_⟩
    rw [State.leaveRetired_eraseFailures, (w.retire_failures sector).1]
    rfl
  · intro left r inflight current last waits address mem failed
    refine ⟨s.programEnd left, rfl, ?_⟩
    subst current
    let p := s.programmed s.journal.sector 7 r left
    obtain ⟨usable, other, free⟩ := exists_usable fresh (by rw [show retiredCount _ = 28 from many]; decide)
    have lost : s.JournalLost (p.leftAfterFailure.retire s.journal.sector) s.journal.sector :=
      State.retire_last_lost (w := p.leftAfterFailure) rfl ⟨rfl, rfl, rfl⟩ rfl running alive many fresh
    have retired : p.programFailed r = p.leftAfterFailure.retire s.journal.sector := by
      rw [State.programFailed_last_eq (s := p) last (sectorAfter_ne other free)]
      have ahead := State.eraseAhead_of_failed lost.failed
      exact (congrArg (State.retrying · r) ahead).trans (if_pos (by simp [lost.failed]))
    have ended : s.programEnd left = p.leftAfterFailure.retire s.journal.sector := by
      rw [State.programEnd_failed_eq inflight
        (State.programmed_unread (by cases left <;> exact failed)), if_neg (by rw [clear]; nofun),
        if_neg waits, retired, State.grantFlash_of_failed lost.failed (lost.settings ▸ none_saved)]
    rw [ended]
    exact ⟨lost, (p.leftAfterFailure.retire_failures s.journal.sector).2⟩

/-! ### A retired sector is not erased (R147, R154) -/

theorem retiredSector_isNotErased : Claims.RetiredSectorIsNotErased := by
  intro s sector usable other free
  refine ⟨fun left inflight dirty => ⟨s.eraseEnd left, rfl, ?_⟩, ?_⟩
  · have retired := State.retire_spares (t := (s.erased sector left).countEraseFailure) other free nofun
    obtain ⟨moved, away⟩ := retired.leaveRetired
    by_cases recovering : s.phase = .recovering
    · rw [State.eraseEnd_recovery_eq inflight recovering, if_neg (by rw [dirty]; nofun)]
      have ended := moved.continueRecovery away
      exact ⟨ended.retired, ended.mark, ended.owed, ended.op⟩
    · rw [State.eraseEnd_eq inflight recovering, if_neg (by rw [dirty]; nofun)]
      have ended := moved.eraseAhead.grantFlash
      exact ⟨ended.retired, ended.mark, ended.owed, ended.op⟩
  · intro left r inflight current last address mem failed
    refine ⟨s.programEnd left, rfl, ?_⟩
    subst current
    rw [State.programEnd_failed_eq inflight (State.programmed_unread (by cases left <;> exact failed))]
    have retired := State.programFailed_spares (s := s.programmed s.journal.sector 7 r left) last other
      free nofun r
    split
    · have ended := (retired.afterTakenProgram r false).grantFlash
      exact ⟨ended.retired, ended.mark, ended.owed, ended.op⟩
    · split
      · have ended := retired.beginReleasedPowerFail.grantFlash
        exact ⟨ended.retired, ended.mark, ended.owed, ended.op⟩
      · have ended := retired.grantFlash
        exact ⟨ended.retired, ended.mark, ended.owed, ended.op⟩

/-! ### An erase in recovery (R110, R154, R160) -/

section
variable {s : State}

/-- With no erase abandoned and the current sector blank, recovery looks at the sector after it (R158, R160). -/
theorem State.continueRecovery_ahead (few : retiredCount s.journal.retired < 29)
    (clear : s.journal.taken = false) (mark : s.journal.reErase = none)
    (blank : s.flash.mem.sectorBlank s.journal.sector.val = true) :
    s.continueRecovery = if s.flash.mem.sectorBlank s.journal.nextSector.val then s
      else s.beginErase s.journal.nextSector := by
  have erase : s.recoveryErase = if s.flash.mem.sectorBlank s.journal.nextSector.val then none
      else some s.journal.nextSector := by
    unfold State.recoveryErase
    simp only [mark, blank, if_neg (Nat.not_le.2 few)]
    cases s.flash.mem.sectorBlank s.journal.nextSector.val <;> simp
  unfold State.continueRecovery
  rw [clear, erase]
  cases s.flash.mem.sectorBlank s.journal.nextSector.val <;> rfl

/-- What recovery goes on with moves the marks and the operation in flight only (R158, R160). -/
theorem State.continueRecovery_frame (s : State) :
    ∃ owed mark op, s.continueRecovery = { s with
      journal := { s.journal with owedErase := owed, reErase := mark }
      flash := { s.flash with op := op } } := by
  unfold State.continueRecovery
  repeat' split
  · exact ⟨_, _, _, rfl⟩
  · exact ⟨_, _, _, rfl⟩
  · exact ⟨_, _, _, rfl⟩

/-- A JOURNAL record handed before START is held (R110). -/
theorem State.noteJournal_deferred (off : s.ring.started = false) (high low : Nat) :
    (s.noteJournal high low).ring.deferred
      = s.ring.deferred ++ [s.ownRecord .journal (datumOf high low)] := by
  rw [State.noteJournal, State.raiseAll_ring, State.note, State.append_held _ _ off]
  rfl

/-- A failed erase in recovery retires the current sector, and the rotation stands on the next one (R110, R160). -/
theorem State.recoveryEraseFailed_first {sector : Fin 32} (recovering : s.phase = .recovering)
    (none_retired : s.journal.retired = 0) (current : s.journal.sector = sector)
    (held : s.ring.started = false) :
    let t := s.recoveryEraseFailed sector
    s.Works t [s.retiredRecord sector] [.journal]
      ∧ t.journal.sector = sector + 1 ∧ t.journal.slot = 0 ∧ t.journal.retired = sectorFlag sector
      ∧ t.flash.mem = s.flash.mem
      ∧ t.ring.deferred = s.ring.deferred ++ [s.retiredRecord sector] := by
  obtain ⟨works, journal⟩ := State.retire_works (x := sector) (.inl recovering)
  have retired : (s.journal.retiring sector).retired = sectorFlag sector := by
    rw [Journal.retiring, none_retired, zero_or_sectorFlag]
  have next : (s.journal.retiring sector).nextSector = sector + 1 := by
    rw [Journal.nextSector, retired, show (s.journal.retiring sector).sector = sector from current,
      sectorAfter_one_retired, if_neg (by simp)]
  have left : (s.recoveryEraseFailed sector).journal
      = { s.journal.retiring sector with sector := sector + 1, slot := 0, retireOnLeave := false } := by
    rw [State.recoveryEraseFailed, State.leaveRetired_eq, State.withJournal_journal, journal,
      Journal.leaving, if_pos (show (s.journal.retiring sector).sector = sector from current), next]
  refine ⟨works.then_silent (by rw [State.recoveryEraseFailed, State.leaveRetired_eq]; rfl),
    by rw [left], by rw [left], by rw [left, ← retired], ?_, ?_⟩
  · rw [State.recoveryEraseFailed, State.leaveRetired_eq, State.withJournal_flash, State.retire_flash]
  · rw [State.recoveryEraseFailed, State.leaveRetired_eq, State.withJournal_ring,
      State.retire_eq (.inl recovering),
      State.noteJournal_deferred (s := s.withJournal (s.journal.retiring sector)) held]
    rfl

end

theorem recoveryErase_goesOnOrRetires : Claims.RecoveryEraseGoesOnOrRetires := by
  intro s left sector inflight recovering none_retired current first mark clear held mem
  refine ⟨s.eraseEnd left, rfl, ?_⟩
  rw [State.eraseEnd_recovery_eq inflight recovering]
  by_cases blank : mem.blank (sector.val * 4096) 4096 = true
  · unfold mem at blank
    rw [if_pos blank]
    have next : (s.erased sector left).journal.nextSector = sector + 1 := by
      rw [Journal.nextSector, show (s.erased sector left).journal.retired = 0 from none_retired,
        show (s.erased sector left).journal.sector = sector from current, sectorAfter_none_retired]
    have ahead := State.continueRecovery_ahead (s := s.erased sector left)
      (by rw [show (s.erased sector left).journal.retired = 0 from none_retired]; decide) clear mark
      (by rw [show (s.erased sector left).journal.sector = sector from current]; exact blank)
    rw [next] at ahead
    by_cases clean : mem.blank ((sector + 1).val * 4096) 4096 = true
    · rw [ahead.trans (if_pos clean), if_pos clean]
      exact ⟨rfl, recovering, fun _ => ⟨rfl, current, none_retired⟩,
        fun dirty => by cases blank.symm.trans dirty⟩
    · rw [ahead.trans (if_neg clean), if_neg clean]
      exact ⟨rfl, recovering, fun _ => ⟨rfl, current, none_retired⟩,
        fun dirty => by cases blank.symm.trans dirty⟩
  · unfold mem at blank
    rw [if_neg blank]
    obtain ⟨works, next, slot, retired, same, deferred⟩ :=
      State.recoveryEraseFailed_first (s := (s.erased sector left).countEraseFailure) recovering
        none_retired current held
    have told := works.after_silent (s := s) rfl
    obtain ⟨owed, reErase, op, ended⟩ := State.continueRecovery_frame
      ((s.erased sector left).countEraseFailure.recoveryEraseFailed sector)
    rw [ended]
    exact ⟨same, told.phase.trans recovering, fun clean => absurd clean blank,
      fun _ => ⟨next, slot, retired, deferred, told.tells.noticed (by simp) (by decide)⟩⟩

/-- Settles O40. `State.Works` carries what a retirement moves and tells, in a first failed erase and in
recovery; `State.JournalLost` is what the last retirement makes of the journal; and `State.Spares`, that a
retired sector is not to be erased, is kept by every operation that follows the retirement. -/
theorem eraseEndVerifiesOrRetires : Obligations.EraseEndVerifiesOrRetires :=
  ⟨erasedSector_isVerifiedOrRetired, lastRetirement_failsJournal, retiredSector_isNotErased,
    recoveryErase_goesOnOrRetires⟩

end Sys2Proof.Machine
end

section
/-! Trip files acknowledged and cleared: O34 (R124, R125). -/

namespace Sys2Proof.Machine

/-! ### One slot changed -/

theorem State.file_setSlot_same (s : State) (i : SlotId) (g : Option TripFile) : (s.setSlot i g).file i = g :=
  Table.get_set_same _ _ _

theorem State.file_setSlot_other (s : State) {i j : SlotId} (g : Option TripFile) (other : j ≠ i) :
    (s.setSlot i g).file j = s.file j :=
  Table.get_set_other _ _ other

section
variable {s : State} {q : Port} {i : SlotId}

/-- A request whose owner changes one slot and raises FILE is answered OK, and nothing else moves. -/
theorem State.request_changesSlot {r : Request} {g : Option TripFile} (waits : (s.port q).waits r = true)
    (other : r ≠ .nop) (decided : s.decide q r = ((s.setSlot i g).raiseAll .file).ok) :
    let t := s.request q r
    AnsweredAndNoticed q r .ok [] s t ∧ t.file i = g ∧ (∀ j, j ≠ i → t.file j = s.file j) ∧ t.noticed .file
      ∧ t = { s with trips := { s.trips with slots := t.trips.slots }, ports := t.ports } := by
  have told : s.Tells ((s.setSlot i g).raiseAll .file) [] [.file] :=
    (State.raiseAll_tells _ .file).after_silence rfl rfl
  obtain ⟨answered, ⟨o, taken⟩, latches⟩ :=
    s.take_answer_noticed q r _ .ok [] waits other decided told.ports
  rw [State.request_of_waits waits]
  refine ⟨answered, ?_, fun j foreign => ?_, State.noticed_congr (told.noticed (by simp) (by decide)) latches, ?_⟩
  · rw [taken]
    exact s.file_setSlot_same i g
  · rw [taken]
    exact s.file_setSlot_other g foreign
  · rw [taken]
    rfl

/-! ### The file that is named (R124, R125) -/

theorem State.fileMatches_of_file {f : TripFile} {st : FileState} {second : Second} (file : s.file i = some f)
    (state : f.state = st) (named : f.second = second) : s.fileMatches i st second = true := by
  simp only [State.fileMatches, file, state, named, and_self, decide_true]

theorem State.fileMatches_of_other {st : FileState} {second : Second}
    (other : ∀ f, s.file i = some f → f.state ≠ st ∨ f.second ≠ second) : s.fileMatches i st second = false := by
  unfold State.fileMatches
  cases file : s.file i with
  | none => rfl
  | some f => exact decide_eq_false (not_and_or.2 (other f file))

section
variable {slot : Byte} {second : Second}

theorem State.acknowledgeTripFile_of_closed {f : TripFile} (named : slot.toNat = i.val) (file : s.file i = some f)
    (closed : f.state = .closed) (same : f.second = second) : s.acknowledgeTripFile slot second
      = ((s.setSlot i (some { f with state := .acknowledged })).raiseAll .file).ok := by
  rw [State.acknowledgeTripFile, slotNamed_of_eq named]
  dsimp only
  rw [if_pos (State.fileMatches_of_file file closed same), State.modFile_of_file file]

theorem State.acknowledgeTripFile_of_other (named : slot.toNat = i.val)
    (other : ∀ f, s.file i = some f → f.state ≠ .closed ∨ f.second ≠ second) :
    s.acknowledgeTripFile slot second = s.refuse .wrongState := by
  rw [State.acknowledgeTripFile, slotNamed_of_eq named]
  dsimp only
  rw [State.fileMatches_of_other other, if_neg Bool.false_ne_true]

theorem State.acknowledgeTripFile_of_high (high : 15 < slot.toNat) :
    s.acknowledgeTripFile slot second = s.refuse .badValue := by
  rw [State.acknowledgeTripFile, slotNamed_of_high high]

theorem State.clearTripFile_of_acknowledged {f : TripFile} (named : slot.toNat = i.val) (file : s.file i = some f)
    (acknowledged : f.state = .acknowledged) (same : f.second = second) :
    s.clearTripFile slot second = ((s.setSlot i none).raiseAll .file).ok := by
  rw [State.clearTripFile, slotNamed_of_eq named]
  exact if_pos (State.fileMatches_of_file file acknowledged same)

theorem State.clearTripFile_of_other (named : slot.toNat = i.val)
    (other : ∀ f, s.file i = some f → f.state ≠ .acknowledged ∨ f.second ≠ second) :
    s.clearTripFile slot second = s.refuse .wrongState := by
  rw [State.clearTripFile, slotNamed_of_eq named]
  dsimp only
  rw [State.fileMatches_of_other other, if_neg Bool.false_ne_true]

theorem State.clearTripFile_of_high (high : 15 < slot.toNat) :
    s.clearTripFile slot second = s.refuse .badValue := by
  rw [State.clearTripFile, slotNamed_of_high high]

end

end

/-- Settles O34: either request changes the one slot it names, or is refused. -/
theorem tripFileIsAcknowledgedThenCleared : Obligations.TripFileIsAcknowledgedThenCleared := by
  refine ⟨fun s q slot second waits => ⟨_, rfl, fun high => ?_, fun i named =>
      ⟨fun f file closed same => ?_, fun other => ?_⟩⟩,
    fun s q slot second waits => ⟨_, rfl, fun high => ?_, fun i named =>
      ⟨fun f file acknowledged same => ?_, fun other => ?_⟩⟩⟩
  · exact State.request_refused waits (by simp) (State.acknowledgeTripFile_of_high high)
  · exact State.request_changesSlot waits (by simp) (State.acknowledgeTripFile_of_closed named file closed same)
  · exact State.request_refused waits (by simp) (State.acknowledgeTripFile_of_other named other)
  · exact State.request_refused waits (by simp) (State.clearTripFile_of_high high)
  · exact State.request_changesSlot waits (by simp) (State.clearTripFile_of_acknowledged named file acknowledged same)
  · exact State.request_refused waits (by simp) (State.clearTripFile_of_other named other)

end Sys2Proof.Machine
end

section
/-! Trip files closed at their window end: O33 (R122, R123, R137). -/

namespace Sys2Proof.Machine

/-! ### The close of a file (R122, R137) -/

/-- The Tally Unit once it has heard the first-out of a file that closes without TEST (R137). -/
def TallyUnit.hearing (x : TallyUnit) (f : TripFile) : TallyUnit :=
  if f.test then x else { x with
    units := x.units.modify f.unit fun y => { y with
      lastTrip := y.lastTrip.map fun l => { l with firstOut := f.firstOut } } }

theorem TallyUnit.hearing_of_test (x : TallyUnit) {f : TripFile} (test : f.test = true) : x.hearing f = x :=
  if_pos test

theorem TallyUnit.hearing_lastTrip (x : TallyUnit) {f : TripFile} (counted : f.test = false) :
    ((x.hearing f).units.get f.unit).lastTrip
      = (x.units.get f.unit).lastTrip.map fun l => { l with firstOut := f.firstOut } := by
  rw [TallyUnit.hearing, counted, if_neg Bool.false_ne_true, Table.get_modify, if_pos rfl]

section
variable (s : State) (i : SlotId) (f : TripFile)

/-- The Trip File Table with one file closed: changed in its slot, gone from the opening order. -/
def Trips.closing (x : Trips) (i : SlotId) (g : TripFile) : Trips :=
  ⟨x.slots.set i (some g), x.order.filter fun j => Decidable.decide (j ≠ i)⟩

/-- A close is the file's record and, without TEST, its first-out heard by the Tally Unit. -/
theorem State.closeFile_recorded (cut : Bool) :
    s.closeFile i f cut = { s.fileRecorded i f cut with tally := s.tally.hearing f } := by
  obtain ⟨g, p, recorded⟩ := s.fileRecorded_frame i f cut
  rw [s.closeFile_eq, TallyUnit.hearing, recorded]
  cases f.test <;> rfl

theorem State.closeFile_tells (cut : Bool) : s.Tells (s.closeFile i f cut) [s.cutRecord (i, f)] [.file] := by
  rw [s.closeFile_recorded i f cut]
  exact (s.fileRecorded_tells i f cut).then_silence rfl rfl

theorem State.closeFile_whole (cut : Bool) : s.closeFile i f cut = { s with
    trips := s.trips.closing i (f.closed cut)
    tally := s.tally.hearing f
    ring := (s.closeFile i f cut).ring
    ports := (s.closeFile i f cut).ports } := by
  obtain ⟨g, p, recorded⟩ := s.fileRecorded_frame i f cut
  rw [s.closeFile_recorded i f cut, recorded]
  rfl

/-! ### The judgement of the breaker (R123) -/

/-- The BREAKER_FAIL record of a file. -/
def State.breakerFail : Entry :=
  { kind := .breakerFail, field := BitVec.ofNat 8 (f.unit.val + 1)
    stamp := s.reading, datum := BitVec.ofNat 16 i.val }

theorem TripFile.breakerFailed_iff :
    f.breakerFailed = true ↔ f.test = false ∧ f.breakerClosed = true ∧ f.breakerOpen = none := by
  simp [TripFile.breakerFailed, and_assoc]

theorem State.judgeBreaker_of_failed (failed : f.breakerFailed = true) :
    s.judgeBreaker i f = (s.append (s.breakerFail i f)).raiseAll .trip := if_pos failed

theorem State.judgeBreaker_of_sound (sound : ¬ f.breakerFailed = true) : s.judgeBreaker i f = s := if_neg sound

theorem State.judgeBreaker_tells_failed (failed : f.breakerFailed = true) :
    s.Tells (s.judgeBreaker i f) [s.breakerFail i f] [.trip] := by
  rw [s.judgeBreaker_of_failed i f failed]
  exact (s.append_tells _).trans (State.raiseAll_tells _ .trip)

theorem State.judgeBreaker_few : s.TellsFew 1 (s.judgeBreaker i f) := by
  by_cases failed : f.breakerFailed = true
  · exact (s.judgeBreaker_tells_failed i f failed).few le_rfl
  · rw [s.judgeBreaker_of_sound i f failed]
    exact State.TellsFew.none rfl rfl

theorem State.judgeBreaker_frame : ∃ (r : Ring) (p : PerPort PortState),
    s.judgeBreaker i f = { s with ring := r, ports := p } := by
  by_cases failed : f.breakerFailed = true
  · obtain ⟨r, p, noted⟩ := s.append_frame (s.breakerFail i f)
    exact ⟨r, _, by rw [s.judgeBreaker_of_failed i f failed, State.raiseAll_frame, noted]⟩
  · exact ⟨s.ring, s.ports, s.judgeBreaker_of_sound i f failed⟩

end

/-! ### The window end (R122) -/

section
variable {s : State} {i : SlotId} {f : TripFile}

theorem State.windowEnd_of_due (file : s.file i = some f) (opened : f.state = .opened)
    (due : f.windowEnd ≤ s.tb.runClock) : s.windowEnd i = (s.closeFile i f false).judgeBreaker i f := by
  simp [State.windowEnd, State.windowEndDue, file, opened, due]

theorem State.windowEnd_of_early (file : s.file i = some f) (early : s.tb.runClock < f.windowEnd) :
    s.windowEnd i = s := by
  simp [State.windowEnd, State.windowEndDue, file, early]

/-- All that a window end changes. -/
theorem State.windowEnd_whole (file : s.file i = some f) (opened : f.state = .opened)
    (due : f.windowEnd ≤ s.tb.runClock) : s.windowEnd i = { s with
      trips := s.trips.closing i (f.closed false)
      tally := s.tally.hearing f
      ring := (s.windowEnd i).ring
      ports := s.latched (s.windowEnd i) } := by
  have ports := State.latched_trans (s.closeFile_tells i f false).ports
    ((s.closeFile i f false).judgeBreaker_few i f).ports
  rw [State.windowEnd_of_due file opened due, ← ports]
  obtain ⟨r, p, judged⟩ := (s.closeFile i f false).judgeBreaker_frame i f
  rw [judged, s.closeFile_whole i f false]

/-- A file whose breaker was closed at the trip and never released tells FILE_CLOSED, then BREAKER_FAIL, both
dated by one reading (R123). -/
theorem State.windowEnd_tells_failed (file : s.file i = some f) (opened : f.state = .opened)
    (due : f.windowEnd ≤ s.tb.runClock) (failed : f.breakerFailed = true) :
    s.Tells (s.windowEnd i) [s.cutRecord (i, f), s.breakerFail i f] [.file, .trip] := by
  have reading : (s.closeFile i f false).breakerFail i f = s.breakerFail i f := by
    rw [s.closeFile_whole i f false]
    rfl
  rw [State.windowEnd_of_due file opened due, ← reading]
  exact (s.closeFile_tells i f false).trans (State.judgeBreaker_tells_failed _ i f failed)

theorem State.windowEnd_tells_sound (file : s.file i = some f) (opened : f.state = .opened)
    (due : f.windowEnd ≤ s.tb.runClock) (sound : ¬ f.breakerFailed = true) :
    s.Tells (s.windowEnd i) [s.cutRecord (i, f)] [.file] := by
  rw [State.windowEnd_of_due file opened due, State.judgeBreaker_of_sound _ i f sound]
  exact s.closeFile_tells i f false

/-- Whatever the breaker did, FILE_CLOSED comes first and FILE is raised. -/
theorem State.windowEnd_tells (file : s.file i = some f) (opened : f.state = .opened)
    (due : f.windowEnd ≤ s.tb.runClock) (on : s.ring.started = true) :
    (s.windowEnd i).ring.holds s.ring.next (s.cutRecord (i, f)) ∧ (s.windowEnd i).noticed .file := by
  by_cases failed : f.breakerFailed = true
  · have told := State.windowEnd_tells_failed file opened due failed
    exact ⟨told.holds_first on (by simp), told.noticed (by simp) (by decide)⟩
  · have told := State.windowEnd_tells_sound file opened due failed
    exact ⟨told.holds_first on (by simp), told.noticed (by simp) (by decide)⟩

end

/-- Settles O33: the close of the file and what it tells, then the judgement of the breaker. -/
theorem windowEndClosesFile : Obligations.WindowEndClosesFile := by
  intro s i f file opened
  refine ⟨fun due on => ⟨_, rfl, ?_⟩, fun early => congrArg Host.Outcome.next (State.windowEnd_of_early file early)⟩
  have whole := State.windowEnd_whole file opened due
  obtain ⟨closed, noticed⟩ := State.windowEnd_tells file opened due on
  have trips := congrArg State.trips whole
  have tally := congrArg State.tally whole
  refine ⟨?_, fun j other => ?_, congrArg Trips.order trips, closed, noticed, fun counted => ?_, fun test => ?_,
    fun conditions => ?_, fun spared => ?_, ?_⟩
  · exact (congrArg (fun x : Trips => x.slots.get i) trips).trans (Table.get_set_same _ _ _)
  · exact (congrArg (fun x : Trips => x.slots.get j) trips).trans (Table.get_set_other _ _ other)
  · exact (congrArg (fun x : TallyUnit => (x.units.get f.unit).lastTrip) tally).trans
      (s.tally.hearing_lastTrip counted)
  · exact tally.trans (s.tally.hearing_of_test test)
  · have told := State.windowEnd_tells_failed file opened due (f.breakerFailed_iff.2 conditions)
    exact ⟨told.noticed (by simp) (by decide), told.ring.holds (before := [s.cutRecord (i, f)]) on (by simp)⟩
  · have sound : ¬ f.breakerFailed = true := fun failed => by
      obtain ⟨counted, closed, released⟩ := f.breakerFailed_iff.1 failed
      rcases spared with test | opened | present
      · exact absurd (test.symm.trans counted) (by decide)
      · exact absurd (opened.symm.trans closed) (by decide)
      · exact present released
    obtain ⟨-, -, -, next, -⟩ := (State.windowEnd_tells_sound file opened due sound).ring.took on
    exact next
  · rw [trips, tally]
    exact whole

end Sys2Proof.Machine
end

section
/-! Trips: the slot a trip's file takes (R114), the file that opens (R115, R116), and the trip recorded and counted
(R113, R117, R134, R136, R149, R150, R178): O31. -/

namespace Sys2Proof.Machine

/-! ### The choice of a slot (R114) -/

/-- The slots before one have lower numbers, those after it higher ones. -/
theorem allSlots_split (i : SlotId) :
    ∃ before after, allSlots = before ++ i :: after ∧ (∀ j ∈ before, j < i) ∧ ∀ j ∈ after, i < j := by
  obtain ⟨before, after, split⟩ := List.append_of_mem (List.mem_finRange i)
  have rising : (before ++ i :: after).Pairwise (· < ·) := split ▸ (List.sortedLT_finRange 16).pairwise
  rw [List.pairwise_append] at rising
  obtain ⟨-, later, across⟩ := rising
  exact ⟨before, after, split, fun j mem => across j mem i List.mem_cons_self, (List.pairwise_cons.1 later).1⟩

/-- A slot either leaves the older of two candidates standing, or its ACKNOWLEDGED file came before it. -/
theorem olderFile_cases (best : Option (SlotId × Nat)) (i : SlotId) (g : Option TripFile) :
    olderFile best i g = best
      ∨ ∃ f, g = some f ∧ f.state = .acknowledged ∧ olderFile best i g = some (i, f.runClock)
        ∧ ∀ b, best = some b → f.runClock < b.2 := by
  unfold olderFile
  split
  · rename_i f
    split
    · rename_i acknowledged
      split
      · exact .inr ⟨f, rfl, acknowledged, rfl, by simp⟩
      · rename_i b
        split
        · rename_i older
          exact .inr ⟨f, rfl, acknowledged, rfl, fun c same => Option.some.inj same ▸ older⟩
        · exact .inl rfl
    · exact .inl rfl
  · exact .inl rfl

theorem olderFile_of_older {best : Option (SlotId × Nat)} {i : SlotId} {f : TripFile}
    (acknowledged : f.state = .acknowledged) (older : ∀ b, best = some b → f.runClock < b.2) :
    olderFile best i (some f) = some (i, f.runClock) := by
  cases best with
  | none => simp [olderFile, acknowledged]
  | some b => simp [olderFile, acknowledged, older b rfl]

section
variable {s : State} {i : SlotId} {f : TripFile}

/-- The file in a slot is ACKNOWLEDGED and its trip came first among the ACKNOWLEDGED ones; of equal ones the
lower slot's did (R114). -/
structure State.OldestAcknowledged (s : State) (i : SlotId) (f : TripFile) : Prop where
  file : s.file i = some f
  acknowledged : f.state = .acknowledged
  first : ∀ j g, s.file j = some g → g.state = .acknowledged → j ≠ i →
    f.runClock < g.runClock ∨ (f.runClock = g.runClock ∧ i < j)

/-- Through slots whose files all came later, only later candidates stand. -/
theorem State.olderFile_walk_later {xs : List SlotId} {best : Option (SlotId × Nat)} {limit : Nat}
    (later : ∀ j ∈ xs, ∀ g, s.file j = some g → g.state = .acknowledged → limit < g.runClock)
    (start : ∀ b, best = some b → limit < b.2) :
    ∀ b, xs.foldl (fun best j => olderFile best j (s.file j)) best = some b → limit < b.2 := by
  induction xs generalizing best with
  | nil => exact start
  | cons j xs ih =>
    rw [List.foldl_cons]
    refine ih (fun k mem => later k (List.mem_cons_of_mem _ mem)) ?_
    rcases olderFile_cases best j (s.file j) with kept | ⟨g, file, acknowledged, taken, -⟩
    · rw [kept]
      exact start
    · rw [taken]
      rintro b ⟨⟩
      exact later j List.mem_cons_self g file acknowledged

/-- A candidate stands through slots whose files did not come before it. -/
theorem State.olderFile_walk_kept {xs : List SlotId} {b : SlotId × Nat}
    (later : ∀ j ∈ xs, ∀ g, s.file j = some g → g.state = .acknowledged → b.2 ≤ g.runClock) :
    xs.foldl (fun best j => olderFile best j (s.file j)) (some b) = some b := by
  induction xs with
  | nil => rfl
  | cons j xs ih =>
    rw [List.foldl_cons]
    rcases olderFile_cases (some b) j (s.file j) with kept | ⟨g, file, acknowledged, -, older⟩
    · rw [kept]
      exact ih fun k mem => later k (List.mem_cons_of_mem _ mem)
    · exact absurd (older b rfl) (Nat.not_lt.2 (later j List.mem_cons_self g file acknowledged))

theorem State.reusableSlot_of_oldest (h : s.OldestAcknowledged i f) : s.reusableSlot = some i := by
  obtain ⟨before, after, split, lower, higher⟩ := allSlots_split i
  have earlier : ∀ j ∈ before, ∀ g, s.file j = some g → g.state = .acknowledged → f.runClock < g.runClock :=
    fun j mem g file acknowledged => by
      have below := lower j mem
      rcases h.first j g file acknowledged (ne_of_lt below) with older | ⟨-, above⟩
      · exact older
      · exact absurd above (lt_asymm below)
  have later : ∀ j ∈ after, ∀ g, s.file j = some g → g.state = .acknowledged → f.runClock ≤ g.runClock :=
    fun j mem g file acknowledged => by
      rcases h.first j g file acknowledged (ne_of_gt (higher j mem)) with older | ⟨equal, -⟩
      · exact older.le
      · exact equal.le
  have here := olderFile_of_older (i := i) h.acknowledged (State.olderFile_walk_later earlier (best := none) (by simp))
  rw [State.reusableSlot, split, List.foldl_append, List.foldl_cons, h.file, here,
    State.olderFile_walk_kept later]
  rfl

theorem State.reusableSlot_of_none (none_acknowledged : ∀ j g, s.file j = some g → g.state ≠ .acknowledged) :
    s.reusableSlot = none := by
  have walk (xs : List SlotId) : xs.foldl (fun best j => olderFile best j (s.file j)) none = none := by
    induction xs with
    | nil => rfl
    | cons j xs ih =>
      rw [List.foldl_cons]
      rcases olderFile_cases none j (s.file j) with kept | ⟨g, file, acknowledged, -⟩
      · rw [kept, ih]
      · exact absurd acknowledged (none_acknowledged j g file)
  rw [State.reusableSlot, walk]
  rfl

theorem State.freeSlot_of_lowest (free : s.file i = none) (lowest : ∀ j, j < i → s.file j ≠ none) :
    s.freeSlot = some i := by
  obtain ⟨before, after, split, lower, -⟩ := allSlots_split i
  rw [State.freeSlot, List.find?_eq_some_iff_append]
  refine ⟨by rw [free]; rfl, before, after, split, fun j mem => ?_⟩
  simpa [Option.isSome_iff_ne_none] using lowest j (lower j mem)

theorem State.freeSlot_of_full (full : ∀ j, s.file j ≠ none) : s.freeSlot = none := by
  rw [State.freeSlot, List.find?_eq_none]
  intro j _
  simpa using full j

/-! ### The opening (R115, R116) -/

/-- The Trip File Table with a file opened in a slot. -/
def Trips.opening (x : Trips) (i : SlotId) (f : TripFile) : Trips := ⟨x.slots.set i (some f), x.order ++ [i]⟩

/-- What has become of the table once a trip has sought its slot: its slots and order, the slot taken, and the
notices raised. -/
structure State.Seeks (s : State) (u : UnitId) (x : Stamp) (trips : Trips) (slot : Option SlotId)
    (ks : List Notice) : Prop where
  slot : (s.openSomeFile u x).2 = slot
  frame : (s.openSomeFile u x).1 = { s with trips := trips, ports := (s.openSomeFile u x).1.ports }
  tells : s.Tells (s.openSomeFile u x).1 [] ks

variable {u : UnitId} {x : Stamp}

theorem State.openSomeFile_of_free (free : s.freeSlot = some i) :
    s.Seeks u x (s.trips.opening i (s.newFile u x)) (some i) [] := by
  have taken : s.openSomeFile u x = (s.openFile i u x, some i) := by
    rw [State.openSomeFile, free]
  exact ⟨by rw [taken], by rw [taken]; rfl, by rw [taken]; exact State.Tells.of_eq rfl rfl⟩

theorem State.openSomeFile_of_reused (full : s.freeSlot = none) (reused : s.reusableSlot = some i) :
    s.Seeks u x (s.trips.opening i (s.newFile u x)) (some i) [.file] := by
  have taken : s.openSomeFile u x = ((s.openFile i u x).raiseAll .file, some i) := by
    rw [State.openSomeFile, full]
    dsimp only
    rw [reused]
  have told : s.Tells ((s.openFile i u x).raiseAll .file) [] [.file] :=
    (State.raiseAll_tells _ .file).after_silence rfl rfl
  exact ⟨by rw [taken], by rw [taken]; rfl, by rw [taken]; exact told⟩

theorem State.openSomeFile_of_none (full : s.freeSlot = none) (none_reusable : s.reusableSlot = none) :
    s.Seeks u x s.trips none [] := by
  have taken : s.openSomeFile u x = (s, none) := by
    rw [State.openSomeFile, full]
    dsimp only
    rw [none_reusable]
  exact ⟨by rw [taken], by rw [taken], by rw [taken]; exact State.Tells.of_eq rfl rfl⟩

/-- Whatever slot is found, or none. -/
theorem State.openSomeFile_seeks (s : State) (u : UnitId) (x : Stamp) :
    ∃ trips slot ks, s.Seeks u x trips slot ks := by
  cases free : s.freeSlot with
  | some i => exact ⟨_, _, _, State.openSomeFile_of_free free⟩
  | none =>
    cases reused : s.reusableSlot with
    | some i => exact ⟨_, _, _, State.openSomeFile_of_reused free reused⟩
    | none => exact ⟨_, _, _, State.openSomeFile_of_none free reused⟩

theorem State.precedingUnit_eq (s : State) :
    s.precedingUnit = s.trips.order.head?.bind fun j => (s.file j).map TripFile.unit := by
  unfold State.precedingUnit
  cases s.trips.order <;> rfl

end

/-! ### The trip counted (R117, R134, R136, R178) -/

/-- The Tally Unit has taken a trip (R134, R136). -/
def UnitTally.tripped (y : UnitTally) (x : Stamp) : UnitTally := { y with
  trips := min 9999999 (y.trips + 1), lastTrip := some ⟨x.second, x.cls, none⟩ }

/-- The Shift Controller has taken a trip (R178). -/
def Shift.tripped (x : Shift) (u : UnitId) : Shift := { x with
  running := x.running.map fun m => { m with
    units := m.units.modify u fun z => { z with trips := min 65535 (z.trips + 1) } } }

theorem Shift.tripped_entry (x : Shift) (u : UnitId) :
    x.EntryBecomes u (fun z => { z with trips := min 65535 (z.trips + 1) }) (x.tripped u) :=
  Shift.entryBecomes_of_map rfl

section
variable (s : State) (u : UnitId) (x : Stamp)

/-- The tallies after a trip, which are not touched in test. -/
def State.tallyTripped (test : Bool) : TallyUnit :=
  if test then s.tally else { s.tally with units := s.tally.units.set u ((s.tallyOf u).tripped x) }

/-- The shift after a trip, which is not touched in test. -/
def State.shiftTripped (test : Bool) : Shift := if test then s.shift else s.shift.tripped u

/-- What the journal is told of a trip: a count that rises, out of test. -/
def State.tripTold (test : Bool) : Journal :=
  s.journalTold (!test && Decidable.decide ((s.tallyOf u).trips < 9999999))

theorem State.countTrip_eq (test : Bool) : s.countTrip u x test = { s with
    tally := s.tallyTripped u x test, shift := s.shiftTripped u test, journal := s.tripTold u test } := by
  cases test with
  | true => rfl
  | false =>
    change (((s.setTally u ((s.tallyOf u).tripped x)).noteRise (s.tallyOf u).trips).shiftTakesTrip u) = _
    rw [State.noteRise_told]
    rfl

/-- The journal with a checkpoint requested, which a FAILED one ignores (R149). -/
def Journal.requested (j : Journal) (c : Cause) : Journal := { j with
  pending := if j.state = .failed then j.pending else j.pending ||| c.bit }

theorem Journal.requested_of_state {j : Journal} {st : JournalState} (state : j.state = st) (c : Cause) :
    j.requested c = { j with pending := if st = .failed then j.pending else j.pending ||| c.bit } := by
  rw [← state]
  rfl

theorem State.requestCheckpoint_requested (c : Cause) :
    s.requestCheckpoint c = s.withJournal (s.journal.requested c) := by
  unfold Journal.requested
  by_cases failed : s.journal.state = .failed
  · rw [s.requestCheckpoint_failed c failed, if_pos failed]
    rfl
  · rw [State.requestCheckpoint, if_neg failed, if_neg failed]

/-- The journal after a trip: a file that opens requests a checkpoint (R117, R149). -/
def State.journalTripped (slot : Option SlotId) : Journal :=
  if slot.isSome then (s.tripTold u (s.inTest u)).requested .trip else s.tripTold u (s.inTest u)

/-- The TRIP record (R117). -/
def State.tripEntry (slot : Option SlotId) : Entry :=
  { kind := .trip, field := BitVec.ofNat 8 (u.val + 1), stamp := x, datum := slotDatum slot, test := s.inTest u }

/-- The TRIP record and notice, over the table in which the file has opened. -/
def State.tripNoted : State :=
  ((s.openSomeFile u x).1.append (s.tripEntry u x (s.openSomeFile u x).2)).raiseAll .trip

theorem State.trip_eq_counted : s.trip u x = if (s.openSomeFile u x).2.isSome
    then ((s.tripNoted u x).countTrip u x (s.inTest u)).requestCheckpoint .trip
    else (s.tripNoted u x).countTrip u x (s.inTest u) := rfl

variable {s u x} {trips : Trips} {slot : Option SlotId} {ks : List Notice}

theorem State.Seeks.noted_tells (h : s.Seeks u x trips slot ks) :
    s.Tells (s.tripNoted u x) [s.tripEntry u x slot] (ks ++ [.trip]) := by
  unfold State.tripNoted
  rw [h.slot]
  exact h.tells.trans ((State.append_tells _ _).trans (State.raiseAll_tells _ .trip))

theorem State.Seeks.noted_frame (h : s.Seeks u x trips slot ks) : s.tripNoted u x = { s with
    trips := trips, ring := (s.tripNoted u x).ring, ports := (s.tripNoted u x).ports } := by
  unfold State.tripNoted
  obtain ⟨r, p, noted⟩ := (s.openSomeFile u x).1.append_frame (s.tripEntry u x (s.openSomeFile u x).2)
  rw [noted, h.frame]
  rfl

/-- The whole trip: what it moves besides what is noted is the counts and the journal. -/
theorem State.Seeks.trip_counted (h : s.Seeks u x trips slot ks) : s.trip u x = { s.tripNoted u x with
    tally := s.tallyTripped u x (s.inTest u), shift := s.shiftTripped u (s.inTest u)
    journal := s.journalTripped u slot } := by
  rw [State.trip_eq_counted, h.slot, State.countTrip_eq, State.requestCheckpoint_requested, h.noted_frame]
  cases slot <;> rfl

theorem State.Seeks.trip_tells (h : s.Seeks u x trips slot ks) :
    s.Tells (s.trip u x) [s.tripEntry u x slot] (ks ++ [.trip]) := by
  rw [h.trip_counted]
  exact h.noted_tells.then_silence rfl rfl

/-- All that a trip changes. -/
theorem State.Seeks.trip_whole (h : s.Seeks u x trips slot ks) : s.trip u x = { s with
    trips := trips, tally := s.tallyTripped u x (s.inTest u), shift := s.shiftTripped u (s.inTest u)
    journal := s.journalTripped u slot, ring := (s.trip u x).ring, ports := s.latched (s.trip u x) } := by
  rw [← h.trip_tells.ports, h.trip_counted, h.noted_frame]

end

/-! ### A master trip without an OPEN file (R113) -/

section
variable {s : State} {u : UnitId} {x : Stamp} {l : LineId} {i : SlotId}

theorem State.tripsTake_trip (line : l.val = 8 * u.val) (slot : s.openSlot u = none) :
    s.tripsTake .masterTrip ⟨l, true, x⟩ = s.trip u x := by
  have unit : LineId.unit l = u := Fin.ext (by simp only [LineId.unit]; omega)
  simp only [State.tripsTake, unit, slot]

/-- A trip whose file opens: its slot and the order, the TRIP record and the checkpoint requested. -/
theorem State.Seeks.trip_opens {ks : List Notice}
    (h : s.Seeks u x (s.trips.opening i (s.newFile u x)) (some i) ks) (on : s.ring.started = true) :
    let t := s.trip u x
    t.file i = some (s.newFile u x) ∧ (∀ j, j ≠ i → t.file j = s.file j) ∧ t.trips.order = s.trips.order ++ [i]
      ∧ t.ring.holds s.ring.next (s.tripEntry u x (some i))
      ∧ t.journal = (s.tripTold u (s.inTest u)).requested .trip := by
  have whole := h.trip_whole
  have trips := congrArg State.trips whole
  refine ⟨?_, fun j other => ?_, congrArg Trips.order trips, h.trip_tells.holds_first on (by simp),
    congrArg State.journal whole⟩
  · exact (congrArg (fun y : Trips => y.slots.get i) trips).trans (Table.get_set_same _ _ _)
  · exact (congrArg (fun y : Trips => y.slots.get j) trips).trans (Table.get_set_other _ _ other)

end

/-- Settles O31: the slot chosen, by the order of the slots and of the trips, and what the trip then moves and
tells, whatever slot it found. -/
theorem tripOpensFile : Obligations.TripOpensFile := by
  intro s u x l line unopened on
  rw [State.tripsTake_trip line unopened]
  intro t test told opened record opensIn
  have contents : opened = s.newFile u x := by
    simp only [opened, ← s.precedingUnit_eq]
    rfl
  have opens {i : SlotId} {ks : List Notice}
      (h : s.Seeks u x (s.trips.opening i (s.newFile u x)) (some i) ks) : opensIn i := by
    obtain ⟨file, others, order, held, journal⟩ := h.trip_opens on
    refine ⟨contents ▸ file, others, order, held,
      journal.trans (Journal.requested_of_state (s.journalTold_kept _).2 .trip)⟩
  obtain ⟨trips, slot, ks, sought⟩ := s.openSomeFile_seeks u x
  have whole := sought.trip_whole
  have tally := congrArg State.tally whole
  have shift := congrArg State.shift whole
  refine ⟨fun i free lowest => opens (State.openSomeFile_of_free (State.freeSlot_of_lowest free lowest)),
    fun i f full file acknowledged first => ?_, fun unfit => ?_, sought.trip_tells.noticed (by simp) (by decide),
    fun out => ?_, fun inTest => ?_, ?_⟩
  · have reused := State.openSomeFile_of_reused (u := u) (x := x) (State.freeSlot_of_full full)
      (State.reusableSlot_of_oldest ⟨file, acknowledged, first⟩)
    exact ⟨opens reused, reused.trip_tells.noticed (by simp) (by decide)⟩
  · have full : ∀ j, s.file j ≠ none := fun j free => by
      obtain ⟨f, file, -⟩ := unfit j
      exact Option.some_ne_none f (file.symm.trans free)
    have none_acknowledged : ∀ j g, s.file j = some g → g.state ≠ .acknowledged := fun j g held => by
      obtain ⟨f, file, other⟩ := unfit j
      exact Option.some.inj (file.symm.trans held) ▸ other
    have none_found := State.openSomeFile_of_none (u := u) (x := x) (State.freeSlot_of_full full)
      (State.reusableSlot_of_none none_acknowledged)
    have kept := congrArg State.trips none_found.trip_whole
    have journal := congrArg State.journal none_found.trip_whole
    exact ⟨kept, none_found.trip_tells.holds_first on (by simp), journal⟩
  · have counted : s.inTest u = false := out
    rw [counted] at tally shift
    obtain ⟨taken, others, locked⟩ := State.tallyOf_of_tally (s := s) (t := t) tally
    refine ⟨taken, others, locked, ?_, ?_⟩
    · rw [show t.shift = s.shift.tripped u from shift]
      rfl
    · rw [show t.shift = s.shift.tripped u from shift]
      exact s.shift.tripped_entry u
  · have tested : s.inTest u = true := inTest
    rw [tested] at tally shift
    exact ⟨tally, shift⟩
  · rw [show t = _ from whole]
    rfl

end Sys2Proof.Machine
end

section
/-! Run-clock milliseconds: what one counts into the tallies and the running summary (R131, R177): O35. -/

namespace Sys2Proof.Machine

/-! ### One unit's millisecond (R131) -/

section
variable {x : UnitTally}

theorem UnitTally.countMillisecond_of_none (idle : x.counted = none) : x.countMillisecond = x := by
  rw [UnitTally.countMillisecond, idle]

/-- The counted mode gains one millisecond up to the cap, and the saturated flag sets there. -/
theorem UnitTally.countMillisecond_of_counted {k : Mode} (counted : x.counted = some k) :
    x.countMillisecond = { x with
      tallies := x.tallies.set k (min 3599999999999 (x.tallies.get k + 1))
      saturated := x.saturated.set k (x.saturated.get k
        || Decidable.decide (min 3599999999999 (x.tallies.get k + 1) = 3599999999999)) } := by
  rw [UnitTally.countMillisecond, counted]
  rfl

end

/-! ### The running summary's millisecond (R177) -/

section
variable (units : Table 6 ShiftUnit) (m : Summary) (u : UnitId)

theorem Summary.countMillisecond_buckets {k : Mode} (counted : (units.get u).counted = some k) :
    ((m.countMillisecond units).units.get u).buckets
      = (m.units.get u).buckets.set k ((m.units.get u).buckets.get k + 1) := by
  rw [Summary.countMillisecond, Table.get_mapIdx, counted]

theorem Summary.countMillisecond_testTime :
    ((m.countMillisecond units).units.get u).testTime
      = (m.units.get u).testTime + if (m.units.get u).inTest then 1 else 0 := by
  rw [Summary.countMillisecond, Table.get_mapIdx]
  cases (m.units.get u).inTest <;> rfl

end

/-! ### The boundary (R3) -/

section
variable {s : State}

theorem State.millisecondBoundary_of_idle (idle : s.due.millisecond = false) : s.millisecondBoundary = s :=
  if_neg (by rw [idle]; nofun)

theorem State.millisecondBoundary_of_due (due : s.due.millisecond = true) :
    s.millisecondBoundary = { s with
      due := { s.due with millisecond := false }
      tally := { s.tally with units := s.tally.units.map UnitTally.countMillisecond }
      shift := { s.shift with running := s.shift.running.map (Summary.countMillisecond s.shift.units) } } :=
  if_pos due

theorem State.millisecondBoundary_tallyOf (due : s.due.millisecond = true) (u : UnitId) :
    s.millisecondBoundary.tallyOf u = (s.tallyOf u).countMillisecond := by
  rw [State.millisecondBoundary_of_due due]
  exact Table.get_map _ _ _

theorem State.millisecondBoundary_running (due : s.due.millisecond = true) {m : Summary}
    (running : s.shift.running = some m) :
    s.millisecondBoundary.shift.running = some (m.countMillisecond s.shift.units) := by
  rw [State.millisecondBoundary_of_due due]
  exact congrArg (Option.map _) running

end

/-- Settles O35: a boundary that is due counts into every unit's tallies and into the running summary. -/
theorem millisecondCountsEveryUnit : Obligations.MillisecondCountsEveryUnit := by
  refine ⟨fun s idle => congrArg Host.Outcome.next (State.millisecondBoundary_of_idle idle),
    fun s due => ⟨s.millisecondBoundary, rfl, fun u idle => ?_, fun u k counted => ?_, fun m running =>
      ⟨_, State.millisecondBoundary_running due running, rfl,
        fun u k counted => m.countMillisecond_buckets _ u counted, fun u => m.countMillisecond_testTime _ u⟩, ?_⟩⟩
  · rw [State.millisecondBoundary_tallyOf due, UnitTally.countMillisecond_of_none idle]
  · rw [State.millisecondBoundary_tallyOf due]
    exact UnitTally.countMillisecond_of_counted counted
  · rw [State.millisecondBoundary_of_due due]

end Sys2Proof.Machine
end

section
/-! Presets: the conditions of PRESET TALLY in their order and what an accepted one sets (R133, R139 to R141): O36. -/

namespace Sys2Proof.Machine

/-! ### Requests that their owner accepts -/

section
variable {s e : State} {q : Port} {r : Request}

/-- A request whose effect leaves the ports alone is answered over that effect. -/
theorem State.request_answers {result : Result} {body : List Byte} (waits : (s.port q).waits r = true)
    (other : r ≠ .nop) (decided : s.decide q r = ⟨e, .answer result body⟩) (ports : e.ports = s.ports) :
    AnsweredIn q r result body e (s.request q r) := by
  rw [State.request_of_waits waits]
  exact s.take_answer q r e result body waits other decided (by rw [State.port, ports]; exact waits)

/-- A request whose effect completes one record is answered OK, and the effect stands but for the ports. -/
theorem State.request_records {x : Entry} (waits : (s.port q).waits r = true) (other : r ≠ .nop)
    (decided : s.decide q r = e.ok) (told : s.Tells e [x] []) (on : s.ring.started = true) :
    (∃ o : PerPort PortState, s.request q r = { e with ports := o })
      ∧ AnsweredAndNoticed q r .ok [] s (s.request q r)
      ∧ (s.request q r).ring.holds s.ring.next x := by
  obtain ⟨answered, ⟨o, taken⟩, -⟩ := s.take_answer_noticed q r e .ok [] waits other decided told.ports
  rw [State.request_of_waits waits]
  refine ⟨⟨o, taken⟩, answered, ?_⟩
  rw [taken]
  exact told.holds_first on (by simp)

end

/-! ### The ranges and the values (R133, R140, R141) -/

/-- Condition 2 of R140, limit by limit. -/
theorem PresetBody.inRange_eq (b : PresetBody) :
    PresetBody.inRange b = (TallyBody.inRange b.spin && TallyBody.inRange b.gen && TallyBody.inRange b.pump
      && TallyBody.inRange b.cond && Decidable.decide (b.starts.toNat ≤ 9999999)
      && Decidable.decide (b.trips.toNat ≤ 9999999) && Decidable.decide (b.closings.toNat ≤ 9999999)) := by
  simp only [PresetBody.inRange, Bool.decide_and, Bool.and_assoc]
  rfl

theorem TallyBody.inRange_eq (x : TallyBody) :
    TallyBody.inRange x
      = (Decidable.decide (x.hours.toNat ≤ 999999) && Decidable.decide (x.millis.toNat ≤ 3599999)) :=
  Bool.decide_and _ _

/-- A preset names every tally but STAND, whose value and flag stay (R141). -/
theorem UnitTally.preset_eq (x : UnitTally) (b : PresetBody) : x.preset b = { x with
    tallies := ⟨x.tallies.stand, TallyBody.value b.spin, TallyBody.value b.gen, TallyBody.value b.pump,
      TallyBody.value b.cond⟩
    saturated := ⟨x.saturated.stand, Decidable.decide (TallyBody.value b.spin = 3599999999999),
      Decidable.decide (TallyBody.value b.gen = 3599999999999),
      Decidable.decide (TallyBody.value b.pump = 3599999999999),
      Decidable.decide (TallyBody.value b.cond = 3599999999999)⟩
    starts := b.starts.toNat
    trips := b.trips.toNat
    closings := b.closings.toNat
    permit := none } := rfl

/-! ### An accepted preset (R141) -/

theorem State.requestCheckpoint_of_alive {s : State} (alive : s.journal.state ≠ .failed) (c : Cause) :
    s.requestCheckpoint c = s.withJournal { s.journal with pending := s.journal.pending ||| c.bit } :=
  if_neg alive

section
variable (s : State) (u : UnitId) (b : PresetBody)

/-- The PRESET record of a unit's preset. -/
def State.presetEntry (unit : Byte) : Entry :=
  { kind := .preset, field := unit, stamp := s.reading, datum := BitVec.ofNat 16 unit.toNat }

/-- The unit's values preset, the record written and the checkpoint requested. -/
def State.presetTaken : State :=
  ((s.setTally u ((s.tallyOf u).preset b)).append (s.presetEntry b.unit)).requestCheckpoint .preset

theorem State.presetTaken_tells : s.Tells (s.presetTaken u b) [s.presetEntry b.unit] [] := by
  have told : s.Tells ((s.setTally u ((s.tallyOf u).preset b)).append (s.presetEntry b.unit)) [_] [] :=
    (State.append_tells _ _).after_silence rfl rfl
  exact told.then_silence (State.requestCheckpoint_ring _ _) (State.requestCheckpoint_ports _ _)

/-- All that an accepted preset changes, the journal not being FAILED (R141, R149). -/
theorem State.presetTaken_eq (alive : s.journal.state ≠ .failed) : s.presetTaken u b = { s with
    tally := { s.tally with units := s.tally.units.set u ((s.tallyOf u).preset b) }
    journal := { s.journal with pending := s.journal.pending ||| 4#6 }
    ring := (s.presetTaken u b).ring
    ports := (s.presetTaken u b).ports } := by
  unfold State.presetTaken
  obtain ⟨r, p, noted⟩ := (s.setTally u ((s.tallyOf u).preset b)).append_frame (s.presetEntry b.unit)
  rw [State.requestCheckpoint_of_alive (by rw [State.append_journal]; exact alive), noted]
  rfl

end

/-! ### The judgement (R140) -/

section
variable {s : State} {u : UnitId} {b : PresetBody}

theorem State.presetTally_of_outside (outside : b.unit.toNat = 0 ∨ 6 < b.unit.toNat) :
    s.presetTally b = s.refuse .badValue := by
  rw [State.presetTally, unitNamed_of_outside outside]

theorem State.presetTally_of_range (range : PresetBody.inRange b = false) :
    s.presetTally b = s.refuse .badValue := by
  unfold State.presetTally
  split
  · rfl
  · exact if_pos range

theorem State.permitted_eq_false_iff : s.permitted u = false ↔ ¬ ∃ grant, (s.tallyOf u).permit = some grant := by
  rw [← Option.isSome_iff_exists, Bool.not_eq_true]
  rfl

/-- With the unit and the ranges met, the lock, the journal, the permit and the mode are judged in that order. -/
theorem State.presetTally_of_named (named : b.unit.toNat = u.val + 1) (range : PresetBody.inRange b = true) :
    s.presetTally b =
      if s.tally.locked then s.refuse .locked
      else if s.journal.state = .failed then s.refuse .journalFailed
      else if s.permitted u = false then s.refuse .notPermitted
      else if (s.modeOf u).settled ≠ some .stand then s.refuse .wrongState
      else (s.presetTaken u b).ok := by
  have entry : s.presetEntry b.unit
      = { kind := .preset, field := unitByte u, stamp := s.reading, datum := (unitByte u).setWidth 16 } := by
    rw [unitByte_of_eq named, State.presetEntry, BitVec.ofNat_toNat]
  rw [State.presetTaken, entry, State.presetTally, unitNamed_of_eq named]
  exact if_neg (by rw [range]; nofun)

end

section
variable {s : State} {q : Port} {u : UnitId} {b : PresetBody}

/-- A preset that meets every condition is answered OK and taken (R141). -/
theorem State.request_presets (waits : (s.port q).waits (.presetTally b) = true)
    (accepted : s.presetTally b = (s.presetTaken u b).ok) (alive : s.journal.state ≠ .failed)
    (on : s.ring.started = true) :
    let t := s.request q (.presetTally b)
    AnsweredAndNoticed q (.presetTally b) .ok [] s t
      ∧ t.tallyOf u = (s.tallyOf u).preset b
      ∧ (∀ v, v ≠ u → t.tallyOf v = s.tallyOf v)
      ∧ t.journal = { s.journal with pending := s.journal.pending ||| 4#6 }
      ∧ t.ring.holds s.ring.next (s.presetEntry b.unit)
      ∧ t = { s with tally := t.tally, journal := t.journal, ring := t.ring, ports := t.ports } := by
  intro t
  obtain ⟨⟨o, taken⟩, answered, held⟩ :=
    State.request_records waits (by simp) accepted (s.presetTaken_tells u b) on
  have whole : t = { s.presetTaken u b with ports := o } := taken
  rw [s.presetTaken_eq u b alive] at whole
  obtain ⟨tally, others, -⟩ := State.tallyOf_of_tally (s := s) (congrArg State.tally whole)
  refine ⟨answered, tally, others, congrArg State.journal whole, held, ?_⟩
  rw [whole]

end

/-- Settles O36: each condition of R140 is judged where the ones before it are met, and a preset that meets them all
is taken. -/
theorem presetTallyIsJudgedInOrder : Obligations.PresetTallyIsJudgedInOrder := by
  intro s q b waits value inRange ranges
  have range : PresetBody.inRange b = ranges := by
    rw [PresetBody.inRange_eq]
    simp only [TallyBody.inRange_eq, ranges, inRange]
  have refused {result : Result} (h : s.presetTally b = s.refuse result) :
      AnsweredIn q (.presetTally b) result [] s (s.request q (.presetTally b)) :=
    State.request_refused waits (by simp) h
  refine ⟨_, rfl, fun unfit => refused ?_, fun u named within => ?_⟩
  · rcases unfit with zero | high | beyond
    · exact State.presetTally_of_outside (.inl zero)
    · exact State.presetTally_of_outside (.inr high)
    · exact State.presetTally_of_range (range.trans beyond)
  intro permitted
  have judged := State.presetTally_of_named (s := s) named (range.trans within)
  have unlocked (free : s.tally.locked = false) : ¬ s.tally.locked = true := by rw [free]; nofun
  have stands (granted : permitted) : ¬ s.permitted u = false :=
    fun absent => State.permitted_eq_false_iff.1 absent granted
  refine ⟨fun locked => refused ?_, fun free failed => refused ?_, fun free alive absent => refused ?_,
    fun free alive granted moving => refused ?_, fun free alive granted standing on => ?_⟩
  · rw [judged, if_pos locked]
  · rw [judged, if_neg (unlocked free), if_pos failed]
  · rw [judged, if_neg (unlocked free), if_neg alive, if_pos (State.permitted_eq_false_iff.2 absent)]
  · rw [judged, if_neg (unlocked free), if_neg alive, if_neg (stands granted), if_pos moving]
  · rw [if_neg (unlocked free), if_neg alive, if_neg (stands granted), if_neg (not_not_intro standing)] at judged
    obtain ⟨answered, tally, rest⟩ := State.request_presets waits judged alive on
    exact ⟨answered, tally.trans (UnitTally.preset_eq _ b), rest⟩

end Sys2Proof.Machine
end

section
/-! Permits: granted, lapsed, and removed and barred by LOCK PRESETS (R138, R139, R143): O37. -/

namespace Sys2Proof.Machine

/-! ### PERMIT PRESET (R138) -/

section
variable {s : State} {u : UnitId} {unit : Byte}

theorem State.permitPreset_of_outside (outside : unit.toNat = 0 ∨ 6 < unit.toNat) :
    s.permitPreset unit = s.refuse .badValue := by
  rw [State.permitPreset, unitNamed_of_outside outside]

theorem State.permitPreset_of_locked (named : unit.toNat = u.val + 1) (locked : s.tally.locked = true) :
    s.permitPreset unit = s.refuse .locked := by
  rw [State.permitPreset, unitNamed_of_eq named]
  exact if_pos locked

/-- The answer gives the permit's life, 600 s. -/
theorem State.permitPreset_of_free (named : unit.toNat = u.val + 1) (free : s.tally.locked = false) :
    s.permitPreset unit
      = (s.setTally u { s.tallyOf u with permit := some s.tb.runClock }).gives [0, 0, 2, 88] := by
  rw [State.permitPreset, unitNamed_of_eq named]
  exact if_neg (by rw [free]; nofun)

/-! ### A permit's lapse (R139) -/

theorem State.permitLapseDue_iff {grant : Nat} (granted : (s.tallyOf u).permit = some grant) :
    s.permitLapseDue u = true ↔ grant + 600000000000 ≤ s.tb.runClock := by
  rw [State.permitLapseDue, granted]
  change (!Decidable.decide (s.tb.runClock < grant + 600000000000)) = true ↔ _
  rw [Bool.not_eq_true', decide_eq_false_iff_not, Nat.not_lt]

theorem State.lapsePermit_of_passed {grant : Nat} (granted : (s.tallyOf u).permit = some grant)
    (passed : grant + 600000000000 ≤ s.tb.runClock) :
    s.lapsePermit u = s.setTally u { s.tallyOf u with permit := none } :=
  if_pos ((State.permitLapseDue_iff granted).2 passed)

theorem State.lapsePermit_of_early {grant : Nat} (granted : (s.tallyOf u).permit = some grant)
    (early : s.tb.runClock < grant + 600000000000) : s.lapsePermit u = s :=
  if_neg fun due => Nat.not_le.2 early ((State.permitLapseDue_iff granted).1 due)

end

theorem State.permit_isGrantedAndLapses : Claims.PermitIsGrantedAndLapses := by
  refine ⟨fun s q unit waits => ⟨_, rfl, fun outside => ?_, fun u named => ⟨fun locked => ?_, fun free => ?_⟩⟩,
    fun s u grant granted =>
      ⟨fun passed => congrArg Host.Outcome.next (State.lapsePermit_of_passed granted passed),
        fun early => congrArg Host.Outcome.next (State.lapsePermit_of_early granted early)⟩⟩
  · exact State.request_refused waits (by simp) (State.permitPreset_of_outside outside)
  · exact State.request_refused waits (by simp) (State.permitPreset_of_locked named locked)
  · exact State.request_answers waits (by simp) (State.permitPreset_of_free named free) rfl

/-! ### LOCK PRESETS (R143) -/

section
variable (s : State)

/-- The state with presets locked, every permit removed and the PRESET record written. -/
def State.presetsLocked : State := ({ s with tally := s.tally.lock } : State).note .preset 0

theorem State.presetsLocked_tells : s.Tells s.presetsLocked [s.ownRecord .preset 0] [] :=
  (State.note_tells { s with tally := s.tally.lock } .preset 0).after_silence rfl rfl

theorem State.presetsLocked_eq : s.presetsLocked = { s with
    tally := s.tally.lock, ring := s.presetsLocked.ring, ports := s.presetsLocked.ports } := by
  unfold State.presetsLocked
  obtain ⟨r, p, noted⟩ := ({ s with tally := s.tally.lock } : State).note_frame .preset 0
  rw [noted]

theorem State.lockPresets_of_locked (locked : s.tally.locked = true) : s.lockPresets = s.ok :=
  if_pos locked

theorem State.lockPresets_of_free (free : s.tally.locked = false) : s.lockPresets = s.presetsLocked.ok :=
  if_neg (by rw [free]; nofun)

end

theorem State.lockPresets_removesPermits : Claims.LockPresetsRemovesPermits := by
  intro s q waits
  refine ⟨s.request q .lockPresets, rfl, fun locked => ?_, fun free on => ?_⟩
  · exact State.request_answers waits (by simp) (s.lockPresets_of_locked locked) rfl
  · obtain ⟨⟨o, taken⟩, answered, held⟩ :=
      State.request_records waits (by simp) (s.lockPresets_of_free free) s.presetsLocked_tells on
    have whole : s.request q .lockPresets = { s.presetsLocked with ports := o } := taken
    rw [s.presetsLocked_eq] at whole
    have tally : (s.request q .lockPresets).tally = s.tally.lock := congrArg State.tally whole
    refine ⟨answered, congrArg TallyUnit.locked tally, fun u => ?_, held, ?_⟩
    · rw [State.tallyOf, tally]
      exact Table.get_map _ _ _
    · rw [whole]

/-- Settles O37: a permit is granted or refused, lapses at ten minutes, and falls to LOCK PRESETS. -/
theorem permitsAreGrantedLapseAndLock : Obligations.PermitsAreGrantedLapseAndLock :=
  ⟨State.permit_isGrantedAndLapses, State.lockPresets_removesPermits⟩

end Sys2Proof.Machine
end

section

/-! ## The supply falls (O58) -/

namespace Sys2Proof.Machine

/-! ### The array after a program (9.1) -/

section
variable {m : Memory}

theorem Memory.slice_getElem? (h : Memory.wf m = true) (a : Nat) {len i : Nat} (inside : i < len) :
    (m.slice a len)[i]? = some (Memory.read m (a + i)) := by
  rw [Memory.slice_eq h, List.getElem?_map, List.getElem?_range inside]
  rfl

/-- Inside its stretch a program leaves a bit one where both the array and the data have it so (9.1). -/
theorem Memory.read_program_inside (h : Memory.wf m = true) (a : Nat) {bytes : List Byte} {i : Nat}
    (inside : i < bytes.length) :
    Memory.read (m.program a bytes) (a + i) = Memory.read m (a + i) &&& bytes[i] := by
  rw [Memory.program, Memory.read_replace_inside h _ _ _ _ inside, List.getD_eq_getElem?_getD,
    List.getElem?_zipWith, Memory.slice_getElem? h a inside, List.getElem?_eq_getElem inside]
  rfl

theorem Memory.read_program_outside (h : Memory.wf m = true) {a x : Nat} {bytes : List Byte}
    (outside : x < a ∨ a + bytes.length ≤ x) : Memory.read (m.program a bytes) x = Memory.read m x :=
  Memory.read_replace_outside h a _ x _ outside

/-- A program turns bits to zero only (9.1). -/
theorem Memory.read_program_and (h : Memory.wf m = true) (a x : Nat) (bytes : List Byte) :
    Memory.read (m.program a bytes) x &&& Memory.read m x = Memory.read (m.program a bytes) x := by
  by_cases outside : x < a ∨ a + bytes.length ≤ x
  · rw [Memory.read_program_outside h outside, BitVec.and_self]
  · obtain ⟨i, rfl⟩ : ∃ i, x = a + i := ⟨x - a, by omega⟩
    rw [Memory.read_program_inside h a (by omega), BitVec.and_assoc, BitVec.and_comm bytes[i],
      ← BitVec.and_assoc, BitVec.and_self]

end

/-! ### What the loss of the supply leaves of an operation in flight (R157) -/

section
variable {s : State}

theorem State.freeBytes_length (s : State) (len : Nat) : (s.freeBytes len).1.length = len := by
  rw [State.freeBytes, residue, List.length_map, List.length_range]

/-- The end of a save leaves the bytes and the operation of the flash alone, and an abandoned one leaves sector 32
spoiled (log 29). -/
theorem State.endSave_abandoned_flash (spoiled : s.flash.spoiled = true) :
    (s.endSave .abandoned).flash = s.flash := by
  unfold State.endSave
  split
  · rfl
  · rw [show s.flash = { s.flash with spoiled := true } by rw [← spoiled]]
    rfl

/-- Work on sector 32 that is stopped leaves free values there and the sector spoiled (log 8, log 29). -/
theorem State.abandonSettingsWork_flash (s : State) : s.abandonSettingsWork.flash
    = ⟨s.flash.mem.eraseSector 32 (s.freeBytes Config.sectorSize).1, .none, true⟩ :=
  State.endSave_abandoned_flash rfl

theorem State.cutFlash_of_settings (work : s.flash.op = .settingsErase ∨ s.flash.op = .settingsProgram) :
    s.cutFlash = s.abandonSettingsWork := by
  unfold State.cutFlash
  rcases work with work | work <;> rw [work]

theorem State.cutFlash_of_erase {sector : Fin 32} (erase : s.flash.op = .erase sector) :
    s.cutFlash = s.abandonErase sector := by
  unfold State.cutFlash
  rw [erase]

theorem State.cutFlash_of_program {sector : Fin 32} {slot : Fin 8} {r : JournalRecord}
    (program : s.flash.op = .program sector slot r) : s.cutFlash.flash = { s.flash with
      mem := s.flash.mem.program (slotAddress sector slot) (s.freeBytes Config.recordSize).1, op := .none } := by
  unfold State.cutFlash
  rw [program]
  rfl

end

/-- The operation is over. -/
theorem State.cutFlash_op (s : State) : s.cutFlash.flash.op = .none := by
  cases op : s.flash.op with
  | none => rw [s.cutFlash_of_idle op, op]
  | erase sector => rw [State.cutFlash_of_erase op]; rfl
  | settingsErase => rw [State.cutFlash_of_settings (.inl op), State.abandonSettingsWork_flash]
  | settingsProgram => rw [State.cutFlash_of_settings (.inr op), State.abandonSettingsWork_flash]
  | program sector slot r => rw [State.cutFlash_of_program op]

/-- What the loss leaves of the flash and of the free values is what it leaves of the operation in flight. -/
theorem State.dark_flash (s : State) :
    s.dark.flash = s.cutFlash.flash ∧ s.dark.freeCount = s.cutFlash.freeCount := ⟨rfl, rfl⟩

/-- Settles O58, by what the loss leaves of each operation in flight. -/
theorem powerLossKeepsFlashAlone : Obligations.PowerLossKeepsFlashAlone := by
  intro s
  obtain ⟨flash, freeCount⟩ := s.dark_flash
  refine ⟨s.dark, rfl, rfl, rfl, fun l => ?_, ?_, fun idle => ?_, fun sector erase => ?_,
    fun work => ?_, fun sector slot r program => ?_⟩
  · simp [State.dark, State.line, State.reset]
  · rw [flash, s.cutFlash_op]
  · rw [flash, freeCount, s.cutFlash_of_idle idle]
    exact ⟨rfl, rfl⟩
  · rw [flash, State.cutFlash_of_erase erase]
    exact ⟨rfl, fun sound => Memory.eraseSector_sameOutside sound _ _⟩
  · rw [flash, State.cutFlash_of_settings work, State.abandonSettingsWork_flash]
    exact ⟨rfl, fun sound => Memory.eraseSector_sameOutside sound _ _⟩
  · rw [flash, State.cutFlash_of_program program]
    refine ⟨rfl, fun sound a => ⟨Memory.read_program_and sound _ _ _, fun outside => ?_⟩⟩
    refine Memory.read_program_outside sound ?_
    rw [State.freeBytes_length]
    exact outside

end Sys2Proof.Machine
end

section

/-! ## A journal record read back (O42) -/

namespace Sys2Proof.Machine

/-! ### Fields of a layout (R203) -/

/-- A field that begins behind a part is a field of the rest. -/
theorem field_append_right {front rest : List Byte} {a len : Nat} (behind : front.length ≤ a) :
    field (front ++ rest) a len = field rest (a - front.length) len := by
  rw [field, field, List.drop_append, List.drop_eq_nil_of_le behind, List.nil_append]

/-- A field that is the first part. -/
theorem field_append_left {front rest : List Byte} {len : Nat} (whole : front.length = len) :
    field (front ++ rest) 0 len = front := by
  rw [field, List.drop_zero, ← whole, List.take_left]

theorem field_self {bytes : List Byte} {len : Nat} (whole : bytes.length = len) : field bytes 0 len = bytes := by
  rw [field, List.drop_zero, ← whole, List.take_length]

/-- Of parts of one length each is a field of its own. -/
theorem field_flatMap {α : Type} {f : α → List Byte} {n : Nat} {xs : List α} {rest : List Byte}
    (even : ∀ x ∈ xs, (f x).length = n) {i : Nat} (inside : i < xs.length) :
    field (xs.flatMap f ++ rest) (n * i) n = f xs[i] := by
  induction xs generalizing i with
  | nil => cases inside
  | cons x xs ih =>
    have first : (f x).length = n := even x List.mem_cons_self
    rw [List.flatMap_cons, List.append_assoc]
    cases i with
    | zero => exact field_append_left first
    | succ i =>
      rw [field_append_right (by rw [first]; exact Nat.le_mul_of_pos_right n i.succ_pos), first,
        Nat.mul_succ, Nat.add_sub_cancel]
      exact ih (fun y hy => even y (List.mem_cons_of_mem _ hy)) (Nat.lt_of_succ_lt_succ inside)

/-! ### Values of one byte and signed values (R203) -/

theorem byteOf_length (v : Nat) : (byteOf v).length = 1 := be_length 1 v

theorem byteOf_getD_zero {v : Nat} (range : v < 256) (rest : List Byte) :
    ((byteOf v ++ rest).getD 0 0).toNat = v := by
  rw [byteOf_eq]
  exact Nat.mod_eq_of_lt range

theorem word_ofBe_be (v : BitVec 32) : BitVec.ofNat 32 (ofBe (be 4 v.toNat)) = v := secondOf_secondBytes v

/-- A signed value of four bytes is read back (R203). -/
theorem ofBeInt_beInt_four {v : Int} (low : -2147483648 ≤ v) (high : v < 2147483648) :
    ofBeInt (beInt 4 v) = v := by
  have spelled : ofBe (beInt 4 v) = (v % 4294967296).toNat :=
    ofBe_be_of_lt (show (v % 4294967296).toNat < 4294967296 by omega)
  rw [ofBeInt]
  simp only [spelled, beInt_length]
  split <;> omega

/-! ### The last trip (R209) -/

theorem lineNamed_val (l : LineId) : lineNamed (BitVec.ofNat 8 l.val) = some l := by
  revert l
  decide

theorem optionBytes_length {len : Nat} {x : Option (List Byte)} (whole : ∀ v, x = some v → v.length = len) :
    (optionBytes len x).length = len + 1 := by
  cases x with
  | none => rw [optionBytes, List.length_cons, List.length_replicate]
  | some v => rw [optionBytes, List.length_cons, whole v rfl]

theorem firstOutBytes_length (x : Option LineId) :
    (optionBytes 1 (x.map fun l => byteOf l.val)).length = 2 :=
  optionBytes_length (by rintro _ h; obtain ⟨l, -, rfl⟩ := Option.map_eq_some_iff.1 h; exact byteOf_length _)

theorem lastTripBytes_length (x : Option LastTrip) : (lastTripBytes x).length = 8 :=
  optionBytes_length (by
    rintro _ h
    obtain ⟨y, -, rfl⟩ := Option.map_eq_some_iff.1 h
    rw [List.length_append, List.length_append, secondBytes_length, byteOf_length, firstOutBytes_length])

theorem firstOut_readBack (x : Option LineId) (b : List Byte)
    (laid : b = optionBytes 1 (x.map fun l => byteOf l.val)) :
    (if b.getD 0 0 = 0 then none else lineNamed (b.getD 1 0)) = x := by
  subst laid
  cases x with
  | none => rfl
  | some l => simp [optionBytes, byteOf_eq, lineNamed_val]

/-- A last-trip record is read back (R209). -/
theorem lastTripOf_lastTripBytes {x : Option LastTrip} (range : ∀ y, x = some y → y.cls < 256) :
    lastTripOf (lastTripBytes x) = x := by
  cases x with
  | none => rfl
  | some y =>
    have parts : lastTripBytes (some y) = [1] ++ (secondBytes y.second ++ (byteOf y.cls
        ++ optionBytes 1 (y.firstOut.map fun l => byteOf l.val))) := by
      rw [lastTripBytes_eq, Option.map_some, List.append_assoc]
      rfl
    have present : (lastTripBytes (some y)).headD 0 ≠ 0 := by
      rw [parts]
      exact show ¬ (1 : Byte) = 0 by decide
    have second : field (lastTripBytes (some y)) 1 4 = secondBytes y.second := by
      rw [parts, field_append_right (by simp)]
      exact field_append_left (secondBytes_length _)
    have cls : ((lastTripBytes (some y)).getD 5 0).toNat = y.cls := by
      rw [parts, List.getD_append_right _ _ _ _ (by simp), List.getD_append_right _ _ _ _ (by simp)]
      exact byteOf_getD_zero (range y rfl) _
    have behind (i : Nat) : (lastTripBytes (some y)).getD (6 + i) 0
        = (optionBytes 1 (y.firstOut.map fun l => byteOf l.val)).getD i 0 := by
      rw [parts, List.getD_append_right _ _ _ _ (by simp; omega), List.getD_append_right _ _ _ _ (by simp; omega),
        List.getD_append_right _ _ _ _ (by simp [byteOf_length]; omega)]
      congr 1
      simp [byteOf_length]
      omega
    rw [lastTripOf, if_neg present, second, cls, secondOf_secondBytes, behind 0, behind 1,
      firstOut_readBack y.firstOut _ rfl]

/-! ### A unit block (R209) -/

/-- The values of a unit block lie in the ranges of their fields. -/
def JournalUnit.InFields (x : JournalUnit) : Prop :=
  (∀ m, x.tallies.get m < 2 ^ 48) ∧ x.starts < 2 ^ 24 ∧ x.trips < 2 ^ 24
    ∧ x.closings < 2 ^ 24 ∧ ∀ y, x.lastTrip = some y → y.cls < 256

theorem JournalUnit.bytes_parts (x : JournalUnit) : x.bytes
    = be 6 x.tallies.stand ++ (be 6 x.tallies.spin ++ (be 6 x.tallies.gen ++ (be 6 x.tallies.pump
      ++ (be 6 x.tallies.cond ++ (be 3 x.starts ++ (be 3 x.trips ++ (be 3 x.closings
      ++ lastTripBytes x.lastTrip))))))) := by
  simp [JournalUnit.bytes, PerMode.toList]

theorem JournalUnit.bytes_length (x : JournalUnit) : x.bytes.length = 47 := by
  simp [JournalUnit.bytes_parts, lastTripBytes_length]

/-- A unit block is read back (R209). -/
theorem journalUnitOf_bytes {x : JournalUnit} (h : x.InFields) : journalUnitOf x.bytes = x := by
  obtain ⟨tallies, starts, trips, closings, cls⟩ := h
  have tally (m : Mode) : ofBe (be 6 (x.tallies.get m)) = x.tallies.get m := ofBe_be_of_lt (tallies m)
  have stand := tally .stand
  have spin := tally .spin
  have gen := tally .gen
  have pump := tally .pump
  have cond := tally .cond
  simp only [PerMode.get] at stand spin gen pump cond
  simp (disch := simp [lastTripBytes_length]) only [journalUnitOf, JournalUnit.bytes_parts, field_append_right,
    field_append_left, field_self, be_length, Nat.reduceSub, stand, spin, gen, pump, cond,
    ofBe_be_of_lt (n := 3) starts, ofBe_be_of_lt (n := 3) trips, ofBe_be_of_lt (n := 3) closings,
    lastTripOf_lastTripBytes cls]

/-! ### The record (R148, R209) -/

theorem JournalRecord.units_length (r : JournalRecord) : (r.units.list.flatMap JournalUnit.bytes).length = 282 := by
  rw [List.length_flatMap, List.map_congr_left fun x _ => x.bytes_length, List.map_const', List.sum_replicate,
    r.units.size]
  rfl

/-- The values of a record, field by field. -/
def JournalRecord.values (r : JournalRecord) : List Byte :=
  be 4 r.seq.toNat ++ (secondBytes r.second ++ (byteOf r.cls ++ (byteOf r.causes.toNat
    ++ (beInt 4 r.integral ++ (be 4 r.retired.toNat ++ (be 4 r.shift.number.toNat ++ ([r.shift.crew]
    ++ (secondBytes r.shift.start ++ (secondBytes r.shift.nextDue
    ++ r.units.list.flatMap JournalUnit.bytes)))))))))

theorem JournalRecord.values_length (r : JournalRecord) : r.values.length = 313 := by
  simp [JournalRecord.values, byteOf_length, r.units_length]

theorem JournalRecord.bytes_eq (r : JournalRecord) : r.bytes = sealRecord Config.journalMarker r.values := by
  simp [JournalRecord.bytes, JournalRecord.values, Shift.identityBytes]

theorem JournalRecord.bytes_length (r : JournalRecord) : r.bytes.length = 512 := by
  rw [r.bytes_eq]
  exact sealRecord_length _ (by rw [r.values_length]; decide)

/-- A sealed record is its marker, its values and what fills it up. -/
theorem sealRecord_parts (marker : BitVec 32) (values : List Byte) :
    ∃ rest, sealRecord marker values = be 4 marker.toNat ++ (values ++ rest) :=
  ⟨_, by rw [sealRecord, List.append_assoc, List.append_assoc]⟩

/-- The bytes of a record in the order of their fields. -/
theorem JournalRecord.bytes_parts (r : JournalRecord) : ∃ rest, r.bytes
    = be 4 Config.journalMarker.toNat ++ (be 4 r.seq.toNat ++ (secondBytes r.second ++ (byteOf r.cls
      ++ (byteOf r.causes.toNat ++ (beInt 4 r.integral ++ (be 4 r.retired.toNat ++ (be 4 r.shift.number.toNat
      ++ ([r.shift.crew] ++ (secondBytes r.shift.start ++ (secondBytes r.shift.nextDue
      ++ (r.units.list.flatMap JournalUnit.bytes ++ rest))))))))))) := by
  obtain ⟨rest, parts⟩ := sealRecord_parts Config.journalMarker r.values
  exact ⟨rest, by rw [r.bytes_eq, parts]; simp only [JournalRecord.values, List.append_assoc]⟩

theorem JournalRecord.field_unit (r : JournalRecord) (u : UnitId) :
    field r.bytes (35 + 47 * u.val) 47 = (r.units.get u).bytes := by
  obtain ⟨rest, parts⟩ := r.bytes_parts
  have inside : u.val < r.units.list.length := by rw [r.units.size]; exact u.isLt
  have block := field_flatMap (rest := rest) (fun x (_ : x ∈ r.units.list) => x.bytes_length) inside
  rw [parts]
  simp (disch := simp [byteOf_length]; omega) only [field_append_right]
  rw [← Table.get_eq] at block
  rw [← block]
  congr 1
  simp [byteOf_length]
  omega

theorem causes_readBack (causes : Causes) (rest : List Byte) :
    BitVec.ofNat 6 ((byteOf causes.toNat ++ rest).getD 0 0).toNat = causes := by
  rw [byteOf_getD_zero (by have := causes.isLt; omega), BitVec.ofNat_toNat, BitVec.setWidth_eq]

/-- A record whose values lie in the ranges of their fields is read back (R148, R209). -/
theorem journalRecordOf_bytes {r : JournalRecord} (cls : r.cls < 256) (low : -2147483648 ≤ r.integral)
    (high : r.integral < 2147483648) (units : ∀ u, (r.units.get u).InFields) : journalRecordOf r.bytes = r := by
  obtain ⟨rest, parts⟩ := r.bytes_parts
  have table : (Table.build fun u : UnitId => journalUnitOf (field r.bytes (35 + 47 * u.val) 47)) = r.units :=
    Table.ext_get fun u => by rw [Table.get_build, r.field_unit, journalUnitOf_bytes (units u)]
  rw [journalRecordOf, table, parts]
  simp (disch := simp [byteOf_length]) only [field_append_right, field_append_left, List.getD_append_right, be_length,
    beInt_length, secondBytes_length, byteOf_length, List.length_singleton, Nat.reduceSub, word_ofBe_be,
    secondOf_secondBytes, byteOf_getD_zero cls, causes_readBack, ofBeInt_beInt_four low high]
  rfl

/-- Settles O42: each field is cut out of the parts of the record, the unit blocks as parts of one length. -/
theorem journalRecordReadsBackAsWritten : Obligations.JournalRecordReadsBackAsWritten := by
  intro r cls low high units
  refine ⟨r.bytes_length, ?_, journalRecordOf_bytes cls low high units⟩
  rw [r.bytes_eq]
  exact recordSound_sealRecord _ (by rw [r.values_length]; decide)

end Sys2Proof.Machine
end

section

/-! ## Checkpoints are requested and captured (O38) -/

namespace Sys2Proof.Machine

variable {s : State}

/-! ### Interval and pace (R149, R150) -/

theorem State.watching_of_running (running : s.phase = .running) : s.watching = true := by
  rw [State.watching, running]
  rfl

theorem State.intervalPassed_iff (w : Settings) : s.intervalPassed w = true
    ↔ s.journal.since + w.checkpointInterval * 60 * 1000000000 ≤ s.tb.runClock := by
  rw [State.intervalPassed, decide_eq_true_iff, Config.second_eq]

theorem State.intervalRequest_of_passed (running : s.phase = .running)
    (working : s.intervalPassed s.settings.working = true) (atCycle : s.intervalPassed s.settings.atCycle = true) :
    s.intervalRequest = s.requestCheckpoint .interval := by
  rw [State.intervalRequest, State.intervalDue, State.watching_of_running running, working, atCycle]
  rfl

theorem State.intervalRequest_of_early (early : s.intervalPassed s.settings.working = false
    ∨ s.intervalPassed s.settings.atCycle = false) : s.intervalRequest = s := by
  rw [State.intervalRequest, State.intervalDue]
  rcases early with early | early <;> simp [early]

theorem State.paceRequest_of_passed (running : s.phase = .running) (changed : s.journal.countChanged = true)
    (passed : s.journal.since + 10000000000 ≤ s.tb.runClock) :
    s.paceRequest = s.requestCheckpoint .count := by
  rw [State.paceRequest, State.countPaceDue, State.watching_of_running running, changed,
    show Config.countPace = 10000000000 from rfl, decide_eq_true passed]
  rfl

theorem State.paceRequest_of_early (early : s.tb.runClock < s.journal.since + 10000000000
    ∨ s.journal.countChanged = false) : s.paceRequest = s := by
  rw [State.paceRequest, State.countPaceDue, show Config.countPace = 10000000000 from rfl]
  rcases early with early | early
  · simp [Nat.not_le.2 early]
  · simp [early]

theorem State.intervalRequest_of_failed (failed : s.journal.state = .failed) : s.intervalRequest = s := by
  rw [State.intervalRequest]
  split
  · exact s.requestCheckpoint_failed _ failed
  · rfl

theorem State.paceRequest_of_failed (failed : s.journal.state = .failed) : s.paceRequest = s := by
  rw [State.paceRequest]
  split
  · exact s.requestCheckpoint_failed _ failed
  · rfl

theorem intervalAndPace_requestCheckpoints : Claims.IntervalAndPaceRequestCheckpoints := by
  intro s running since passed
  have from_since : s.journal.since = since := s.journal.since_eq
  have passed_iff (w : Settings) : s.intervalPassed w = true ↔ passed w := by
    rw [State.intervalPassed_iff, from_since]
  refine ⟨fun working atCycle alive => ?_, fun held => ?_, fun pace changed alive => ?_, fun held => ?_⟩
  · refine congrArg Host.Outcome.next (?_ : s.intervalRequest = _)
    rw [State.intervalRequest_of_passed running ((passed_iff _).2 working) ((passed_iff _).2 atCycle),
      State.requestCheckpoint_of_alive alive]
    rfl
  · refine congrArg Host.Outcome.next (?_ : s.intervalRequest = _)
    simp only [← passed_iff, Bool.not_eq_true] at held
    rcases held with early | early | failed
    · exact State.intervalRequest_of_early (.inl early)
    · exact State.intervalRequest_of_early (.inr early)
    · exact State.intervalRequest_of_failed failed
  · refine congrArg Host.Outcome.next (?_ : s.paceRequest = _)
    rw [State.paceRequest_of_passed running changed (by rwa [from_since]),
      State.requestCheckpoint_of_alive alive]
    rfl
  · refine congrArg Host.Outcome.next (?_ : s.paceRequest = _)
    rcases held with early | unchanged | failed
    · exact State.paceRequest_of_early (.inl (by rwa [from_since]))
    · exact State.paceRequest_of_early (.inr unchanged)
    · exact State.paceRequest_of_failed failed

/-! ### The capture (R148, R151) -/

/-- The record captured holds the values as they stand, under the pending causes (R151). -/
theorem State.capturedRecord_captures (s : State) : s.capturedRecord.Captures s s.journal.pending :=
  ⟨rfl, rfl, rfl, rfl, rfl, rfl, rfl, fun u => by
    rw [State.capturedRecord, Table.get_map]
    rfl⟩

/-- A checkpoint goes into the current slot (R151). -/
theorem State.beginCheckpoint_eq (s : State) : s.beginCheckpoint = { s with
    journal := s.journal.captured s.tb.runClock
    flash := { s.flash with op := .program s.journal.sector s.journal.slot s.capturedRecord } } := rfl

theorem State.checkpointReady_iff : s.checkpointReady = true ↔ s.watching = true ∧ s.journal.pending ≠ 0
    ∧ s.journal.state ≠ .failed ∧ s.flash.op = .none ∧ s.journal.taken = false ∧ s.journal.reErase = none
    ∧ s.journal.owedErase = none ∧ s.journal.retry = none := by
  simp [State.checkpointReady, Journal.noMarks, and_assoc]

theorem checkpoint_capturesPresentValues : Claims.CheckpointCapturesPresentValues := by
  refine ⟨fun s running pending alive free clear mark owed retry => ⟨s.capturedRecord, s.capturedRecord_captures,
    congrArg Host.Outcome.next ?_⟩, fun s held => congrArg Host.Outcome.next ?_⟩
  · exact if_pos (State.checkpointReady_iff.2
      ⟨State.watching_of_running running, pending, alive, free, clear, mark, owed, retry⟩)
  · refine if_neg fun ready => ?_
    obtain ⟨-, pending, alive, free, clear, mark, owed, retry⟩ := State.checkpointReady_iff.1 ready
    simp only [alive, free, clear, mark, owed, retry, ne_eq, not_true_eq_false, Bool.false_eq_true,
      or_false] at held
    exact pending held

/-- Settles O38: a request is due or not by interval and pace, and a checkpoint is ready or not. -/
theorem checkpointsAreRequestedAndCaptured : Obligations.CheckpointsAreRequestedAndCaptured :=
  ⟨intervalAndPace_requestCheckpoints, checkpoint_capturesPresentValues⟩

end Sys2Proof.Machine
end

section

/-! ## The save of the settings (O55) -/

namespace Sys2Proof.Machine

/-! ### Builds that change (R187, R201) -/

/-- Where no build meets the condition nothing changes. -/
theorem PortState.changeBuild_of_none {x : PortState} {c : Build → Bool} {f : Build → Option Build}
    (none_meets : x.builds.any c = false) : x.changeBuild c f = x := by
  simp only [PortState.builds, List.any_append, Bool.or_eq_false_iff] at none_meets
  obtain ⟨⟨orphans, slotA⟩, slotB⟩ := none_meets
  have same : x.slotB.change c f = x.slotB := by
    cases slot : x.slotB with
    | building b =>
      rw [slot] at slotB
      exact if_neg (by simpa [Slot.builds] using slotB)
    | empty | finished | sending => rfl
  rw [PortState.changeBuild, orphans, slotA, same]
  rfl

theorem changeFirst_congr {α : Type} {c : α → Bool} {f g : α → Option α} {xs : List α}
    (same : ∀ x ∈ xs, c x = true → f x = g x) : changeFirst c f xs = changeFirst c g xs := by
  induction xs with
  | nil => rfl
  | cons x rest ih =>
    simp only [changeFirst, ih fun y mem => same y (List.mem_cons_of_mem _ mem)]
    split
    · rename_i meets
      rw [same x List.mem_cons_self meets]
    · rfl

theorem Slot.change_congr {c : Build → Bool} {f g : Build → Option Build} {slot : Slot}
    (same : ∀ b ∈ slot.builds, c b = true → f b = g b) : slot.change c f = slot.change c g := by
  cases slot with
  | building b =>
    unfold Slot.change
    simp only
    split
    · rename_i meets
      rw [same b (by simp [Slot.builds]) meets]
    · rfl
  | empty | finished | sending => rfl

/-- A change depends on what it makes of the builds of the port. -/
theorem PortState.changeBuild_congr {x : PortState} {c : Build → Bool} {f g : Build → Option Build}
    (same : ∀ b ∈ x.builds, c b = true → f b = g b) : x.changeBuild c f = x.changeBuild c g := by
  simp only [PortState.builds, List.mem_append] at same
  unfold PortState.changeBuild
  rw [changeFirst_congr fun b mem => same b (.inl (.inl mem)),
    Slot.change_congr (slot := x.slotA) fun b mem => same b (.inl (.inr mem)),
    Slot.change_congr (slot := x.slotB) fun b mem => same b (.inr mem)]

/-- A request that its owner answers later stays a build, taken. -/
theorem PortState.settle_later {x : PortState} {r : Request} (waits : x.waits r = true)
    (fresh : ∀ b ∈ x.builds, b.taken = false → b.answer = none) :
    x.Settles (Build.waits r) ⟨r, true, none⟩ (x.settle r .later) :=
  have same : x.settle r .later = x.changeBuild (Build.waits r) fun _ => some ⟨r, true, none⟩ :=
    PortState.changeBuild_congr fun b mem meets => by
      simp only [Build.waits, Bool.and_eq_true, decide_eq_true_eq, Bool.not_eq_true'] at meets
      obtain ⟨rfl, untaken⟩ := meets
      simp only [Build.settle, fresh b mem untaken]
  same ▸ x.changeBuild_settles _ _ _ waits fun _ _ => rfl

/-! ### The end of a save (R201) -/

/-- The answer to SAVE SETTINGS does not depend on latches, and leaves them. -/
theorem PortState.answerSave_latches (x : PortState) (l : NoticeSet) (body : List Byte) :
    ({ x with latches := l } : PortState).answerSave body = { x.answerSave body with latches := l } := by
  unfold PortState.answerSave PortState.changeBuild
  simp only
  repeat' split
  all_goals rfl

section
variable {s : State} {save : Save} {o : SaveOutcome}

/-- What the end of a save makes of the settings and the flash (R201; log 29). -/
theorem State.endSave_eq (saving : s.settings.save = some save) : s.endSave o = { s with
    settings := { s.settings with
      save := none, outcome := some o
      stored := if o = .saved then save.values else s.settings.stored
      valid := Decidable.decide (o = .saved) }
    flash := { s.flash with spoiled := Decidable.decide (o ≠ .saved) }
    ports := (s.endSave o).ports } := by
  unfold State.endSave
  rw [saving]
  simp only
  split <;> rfl

/-- What the end of a save makes of a port: port G has the answer, and every port hears of a save that did not end
SAVED (R201). -/
theorem State.endSave_port (saving : s.settings.save = some save) (q : Port) : (s.endSave o).port q
    = { (if q = .g then (s.port .g).answerSave (byteOf o.code) else s.port q) with
      latches := if o = .saved then (s.port q).latches else (s.port q).latches ||| Notice.settings.bit } := by
  unfold State.endSave
  rw [saving]
  by_cases saved : o = .saved
  all_goals simp only [saved, if_true, if_false]
  all_goals cases q
  case pos.g => exact (s.port .g).answerSave_latches (s.port .g).latches _
  case neg.g => exact (s.port .g).answerSave_latches _ _
  all_goals rfl

/-- Of the ports the end of a save moves, beside latches, the SAVE SETTINGS that waits on port G (R201). -/
theorem State.endSave_latched (saving : s.settings.save = some save) : (s.endSave o).ports
    = (s.setPort .g ((s.port .g).answerSave (byteOf o.code))).latched (s.endSave o) := by
  refine PerPort.ext_get fun q => ?_
  have port := State.endSave_port (o := o) saving q
  rw [State.latched, PerPort.get_map2]
  rw [State.port] at port
  rw [port]
  cases q <;> rfl

/-- The end of a save answers the SAVE SETTINGS that waits for it. -/
theorem State.endSave_answered (saving : s.settings.save = some save) {code : Byte}
    (outcome : byteOf o.code = [code]) : SaveAnswered code s (s.endSave o) := by
  refine ⟨(s.port .g).answerSave (byteOf o.code), ?_, State.endSave_latched saving⟩
  rw [outcome]
  cases waiting : (s.port .g).builds.any Build.awaitsSave with
  | false => exact .inl ⟨rfl, PortState.changeBuild_of_none waiting⟩
  | true => exact .inr (PortState.answerSave_settles _ _ waiting)

theorem State.endSave_noticed (saving : s.settings.save = some save) (unsaved : o ≠ .saved) :
    (s.endSave o).noticed .settings := fun q => by
  rw [State.endSave_port saving]
  simp only [if_neg unsaved, BitVec.getLsbD_or, Notice.bit_getLsbD, decide_true, Bool.or_true]

/-- A save that ended SAVED raises no notice. -/
theorem State.endSave_silent (saving : s.settings.save = some save) :
    s.latched (s.endSave .saved) = s.ports := by
  refine PerPort.ext_get fun q => ?_
  have latches := congrArg PortState.latches (State.endSave_port (o := .saved) saving q)
  rw [State.port] at latches
  rw [State.latched, PerPort.get_map2, latches]
  rfl

/-- The save that has ended is over: a free flash stays free while no journal work waits. -/
theorem State.grantFlash_endSave (saving : s.settings.save = some save) (retry : s.journal.retry = none)
    (owed : s.journal.owedErase = none) (mark : s.journal.reErase = none) :
    (s.endSave o).grantFlash = s.endSave o := by
  have ended := State.endSave_eq (o := o) saving
  exact State.grantFlash_of_no_work (by rw [ended, retry]) (by rw [ended, owed]) (by rw [ended, mark])
    (by rw [ended])

end

/-! ### The flash granted to a save (R156, R201) -/

section
variable {s : State}

/-- No journal work waits for the flash. -/
def State.JournalIdle (s : State) : Prop := s.journal.taken = false ∧ s.journal.reErase = none
  ∧ s.journal.owedErase = none ∧ s.journal.retry = none ∧ s.journal.pending = 0

/-- A free flash that the journal does not ask for goes to the save (R156). -/
theorem State.grantFlash_of_idle (idle : s.JournalIdle) (free : s.flash.op = .none) :
    s.grantFlash = s.beginSettingsWork := by
  obtain ⟨clear, mark, owed, retry, pending⟩ := idle
  unfold State.grantFlash
  simp [free, clear, mark, owed, retry, pending]

/-- A flash that is held, or kept for the power-fail checkpoint, is granted to nobody (R156, R157). -/
theorem State.grantFlash_of_held (held : s.flash.op ≠ .none ∨ s.journal.taken = true) : s.grantFlash = s := by
  unfold State.grantFlash
  exact if_pos held

/-! ### SAVE SETTINGS (R201) -/

variable {q : Port}

/-- SAVE SETTINGS is taken, and answered when the save has ended. -/
theorem State.request_saves (waits : (s.port q).waits .saveSettings = true)
    (fresh : ∀ b ∈ (s.port q).builds, b.taken = false → b.answer = none) (none_saved : s.settings.save = none)
    {e : State} (granted : (s.withSave .waitErase s.settings.working).grantFlash = e) (ports : e.ports = s.ports) :
    let t := s.request q .saveSettings
    (e.port q).Settles (Build.waits .saveSettings) ⟨.saveSettings, true, none⟩ (t.port q)
      ∧ t = e.setPort q (t.port q) := by
  have same : e.port q = s.port q := congrArg (PerPort.get · q) ports
  have decided : s.decide q .saveSettings = ⟨e, .later⟩ := by
    rw [State.decide, State.saveSettings, none_saved]
    exact congrArg (Decision.mk · .later) granted
  have taken : s.request q .saveSettings = e.setPort q ((e.port q).settle .saveSettings .later) := by
    simp [State.request_of_waits waits, State.take, waits, decided, State.modPort, PortState.finishNop]
  have port : (s.request q .saveSettings).port q = (e.port q).settle .saveSettings .later := by
    rw [taken]
    exact PerPort.get_set_same _ _ _
  simp only [port]
  exact ⟨PortState.settle_later (same ▸ waits) (same ▸ fresh), taken⟩

/-! ### The end of the erase and of the program (R201) -/

variable {save : Save}

/-- The array after the erase of sector 32, the flash free again. -/
def State.settingsErased (s : State) (left : List Byte) : State :=
  s.withFlash ⟨s.flash.mem.replace (32 * 4096) 4096 left, .none, false⟩

/-- The array after the program of sector 32, the flash free again. -/
def State.settingsProgrammed (s : State) (values : Settings) (left : Option (List Byte)) : State :=
  s.withFlash { s.flash with
    mem := s.flash.mem.afterProgram settingsAddress (Settings.record values) left, op := .none }

theorem State.settingsEraseEnd_eq (erase : s.flash.op = .settingsErase) (saving : s.settings.save = some save)
    (left : List Byte) : s.settingsEraseEnd left
      = (if (s.flash.mem.replace (32 * 4096) 4096 left).blank (32 * 4096) 4096
        then (s.settingsErased left).withSave .waitProgram save.values
        else (s.settingsErased left).endSave .eraseFailed).grantFlash := by
  unfold State.settingsEraseEnd
  rw [erase, saving]
  rfl

theorem State.settingsProgramEnd_eq (program : s.flash.op = .settingsProgram) (saving : s.settings.save = some save)
    (left : Option (List Byte)) : s.settingsProgramEnd left
      = ((s.settingsProgrammed save.values left).endSave
        (if (s.settingsProgrammed save.values left).flash.mem.readBackMatches settingsAddress
            (Settings.record save.values) left then .saved else .programFailed)).grantFlash := by
  unfold State.settingsProgramEnd
  rw [program, saving]
  rfl

end

/-- A read-back matches when the command names no bytes and the place holds the record (R152, R153; log 52). -/
theorem Memory.readBackMatches_iff (m : Memory) (address : Nat) (bytes : List Byte) (left : Option (List Byte)) :
    m.readBackMatches address bytes left = true ↔ left = none ∧ m.slice address 512 = bytes := by
  cases left with
  | none => simp [Config.recordSize]
  | some rest => simp

/-- Settles O55: what the flash is granted to, and what the end of a save tells, case by case. -/
theorem saveErasesThenPrograms : Obligations.SaveErasesThenPrograms := by
  refine ⟨fun s q waits => ⟨s.request q .saveSettings, rfl, fun going => ?_, fun none_saved fresh =>
    ⟨fun idle free => ?_, fun held => ?_⟩⟩, fun s left values erase saving idle => ?_,
    fun s left values program saving idle => ?_⟩
  · obtain ⟨save, saving⟩ := Option.isSome_iff_exists.1 going
    exact State.request_refused waits (by decide) (by rw [State.decide, State.saveSettings, saving])
  · exact State.request_saves waits fresh none_saved (State.grantFlash_of_idle idle free) rfl
  · exact State.request_saves waits fresh none_saved (State.grantFlash_of_held held) rfl
  · refine ⟨s.settingsEraseEnd left, rfl, ?_⟩
    obtain ⟨clear, mark, owed, retry, pending⟩ := idle
    rw [State.settingsEraseEnd_eq erase saving]
    refine ⟨fun blank => ?_, fun dirty => ?_⟩
    · rw [if_pos blank]
      exact State.grantFlash_of_idle ⟨clear, mark, owed, retry, pending⟩ rfl
    · rw [if_neg (by rw [dirty]; nofun), State.grantFlash_endSave (s := s.settingsErased left) saving retry owed mark]
      exact ⟨State.endSave_eq (s := s.settingsErased left) saving,
        State.endSave_answered (s := s.settingsErased left) saving rfl,
        State.endSave_noticed (s := s.settingsErased left) saving (by decide)⟩
  · intro mem verified
    refine ⟨s.settingsProgramEnd left, rfl, ?_⟩
    obtain ⟨clear, mark, owed, retry, pending⟩ := idle
    have left_mem : (s.settingsProgrammed values left).flash = { s.flash with mem := mem, op := .none } := by
      cases left <;> rfl
    rw [State.settingsProgramEnd_eq program saving,
      State.grantFlash_endSave (s := s.settingsProgrammed values left) saving retry owed mark, left_mem]
    have read := Memory.readBackMatches_iff mem settingsAddress (Settings.record values) left
    have ended (o : SaveOutcome) := State.endSave_eq (s := s.settingsProgrammed values left) (o := o) saving
    have answered {o : SaveOutcome} {code : Byte} (outcome : byteOf o.code = [code]) :=
      State.endSave_answered (s := s.settingsProgrammed values left) saving outcome
    rw [left_mem] at ended
    refine ⟨fun matched => ?_, fun differed => ?_⟩
    · rw [if_pos (read.2 matched)]
      exact ⟨ended .saved, answered rfl, State.endSave_silent (s := s.settingsProgrammed values left) saving⟩
    · rw [if_neg (mt read.1 differed)]
      exact ⟨ended .programFailed, answered rfl,
        State.endSave_noticed (s := s.settingsProgrammed values left) saving (by decide)⟩

end Sys2Proof.Machine
end

section

/-! ## The power-fail warning and its release (O41) -/

namespace Sys2Proof.Machine

/-! ### What the warning stops (R157) -/

section
variable {s : State}

/-- A capture depends on the Timebase, the tallies, the shift's identity, the next sequence and the retired set
(R148, R151). -/
theorem JournalRecord.Captures.congr {e : State} {r : JournalRecord} {causes : Causes} (h : r.Captures e causes)
    (tb : e.tb = s.tb) (tally : e.tally = s.tally) (shift : e.shift = s.shift)
    (nextSeq : e.journal.nextSeq = s.journal.nextSeq) (retired : e.journal.retired = s.journal.retired) :
    r.Captures s causes := by
  unfold JournalRecord.Captures State.cls State.tallyOf at h ⊢
  rwa [tb, tally, shift, nextSeq, retired] at h

/-- The power-fail checkpoint begins at once, POWER_FAIL among its causes (R157). -/
theorem State.beginPowerFail_of_alive (alive : s.journal.state ≠ .failed) :
    ∃ r : JournalRecord, r.Captures s (s.journal.pending ||| 32#6) ∧ s.beginPowerFail = { s with
      journal := { s.journal.captured s.tb.runClock with stage := .firstTry }
      flash := { s.flash with op := .program s.journal.sector s.journal.slot r } } :=
  ⟨_, State.capturedRecord_captures (s.withJournal { s.journal with
    pending := s.journal.pending ||| 32#6 }), if_neg alive⟩

/-- The warning line is asserted. -/
def State.warned (s : State) : State := s.withJournal { s.journal with warning := true }

theorem State.abandonWaitingSave_of_other (other : ∀ v, s.settings.save ≠ some ⟨.waitProgram, v⟩) :
    s.abandonWaitingSave = s := by
  unfold State.abandonWaitingSave
  split
  · rename_i v waiting
    exact absurd waiting (other v)
  · rfl

theorem State.abandonWaitingSave_of_waiting {v : Settings} (waiting : s.settings.save = some ⟨.waitProgram, v⟩) :
    s.abandonWaitingSave = s.endSave .abandoned := by
  unfold State.abandonWaitingSave
  rw [waiting]

/-- The warning is taken in a part that runs, unless the journal is FAILED or the state TAKEN already (R157, R158). -/
theorem State.powerFailWarning_of_running (running : s.phase = .running) : s.powerFailWarning
    = if s.journal.taken || Decidable.decide (s.journal.state = .failed)
      then s.warned
      else s.warned.takeWarning := by
  unfold State.powerFailWarning
  rw [running]
  rfl

theorem State.powerFailWarning_of_alive (running : s.phase = .running) (clear : s.journal.taken = false)
    (alive : s.journal.state ≠ .failed) :
    s.powerFailWarning = s.warned.takeWarning := by
  rw [State.powerFailWarning_of_running running, if_neg (by simp [clear, alive])]

/-- A warning that finds a program in flight waits for its end (R157). -/
theorem State.takeWarning_of_program (running : s.phase = .running)
    (other : ∀ v, s.settings.save ≠ some ⟨.waitProgram, v⟩) {a : Fin 32} {b : Fin 8} {r : JournalRecord}
    (program : s.flash.op = .program a b r) : s.takeWarning
      = s.withJournal { s.journal with taken := true, stage := .waiting, retry := none } := by
  have stopped : s.stopFlash = s := by
    unfold State.stopFlash
    rw [program]
  unfold State.takeWarning
  rw [stopped, State.abandonWaitingSave_of_other other]
  simp only [running, ne_eq, not_true_eq_false, if_false, State.withJournal_flash, program]

/-- A warning that has stopped the flash begins the power-fail checkpoint (R157). -/
theorem State.takeWarning_of_stopped (running : s.phase = .running) {t : State}
    (stopped : s.stopFlash.abandonWaitingSave = t) (free : t.flash.op = .none)
    (alive : t.journal.state ≠ .failed) :
    ∃ r : JournalRecord, r.Captures t (t.journal.pending ||| 32#6) ∧ s.takeWarning = { t with
      journal := { t.journal.captured t.tb.runClock with taken := true, retry := none, stage := .firstTry }
      flash := { t.flash with op := .program t.journal.sector t.journal.slot r } } := by
  obtain ⟨r, captures, begun⟩ := State.beginPowerFail_of_alive (s := t.withJournal { t.journal with
    taken := true, stage := .waiting, retry := none }) alive
  refine ⟨r, captures.congr rfl rfl rfl rfl rfl, ?_⟩
  unfold State.takeWarning
  rw [stopped]
  simp only [running, ne_eq, not_true_eq_false, if_false, State.withJournal_flash, free]
  exact begun

/-- Once the flash is free the power-fail checkpoint begins at once, POWER_FAIL among its causes; what stopping the
flash has moved stays so (R157). -/
theorem State.powerFailWarning_of_stopped (running : s.phase = .running) (clear : s.journal.taken = false)
    (alive : s.journal.state ≠ .failed) {mark : Option (Fin 32)} {f : Flash} {x : SettingsStore}
    {p : PerPort PortState} {n : Nat}
    (stopped : s.warned.stopFlash.abandonWaitingSave = { s with
      journal := { s.journal with warning := true, reErase := mark }
      flash := f, settings := x, ports := p, freeCount := n })
    (free : f.op = .none) :
    ∃ r : JournalRecord, r.Captures s (s.journal.pending ||| 32#6) ∧ s.powerFailWarning = { s with
      journal := { s.journal.captured s.tb.runClock with
        warning := true, taken := true, retry := none, stage := .firstTry, reErase := mark }
      flash := { f with op := .program s.journal.sector s.journal.slot r }
      settings := x, ports := p, freeCount := n } := by
  obtain ⟨r, captures, begun⟩ := State.takeWarning_of_stopped (s := s.warned) running stopped free alive
  exact ⟨r, captures.congr rfl rfl rfl rfl rfl, (State.powerFailWarning_of_alive running clear alive).trans begun⟩

end

theorem warning_beginsPowerFailCheckpoint : Claims.WarningBeginsPowerFailCheckpoint := by
  refine ⟨fun s running clear alive other => ?_, fun s running held => ?_⟩
  · refine ⟨fun a b r program => ?_, fun free => ?_, fun sector erase => ?_⟩
    · exact congrArg Host.Outcome.next ((State.powerFailWarning_of_alive running clear alive).trans
        (State.takeWarning_of_program (s := s.warned) running other program))
    · have stopped : s.warned.stopFlash
          = s.warned := by
        unfold State.stopFlash
        rw [show s.warned.flash.op = .none from free]
      obtain ⟨r, captures, ended⟩ := State.powerFailWarning_of_stopped (mark := s.journal.reErase) running clear
        alive (by rw [stopped, State.abandonWaitingSave_of_other (s := s.warned) other]; rfl) free
      exact ⟨r, captures, congrArg Host.Outcome.next ended⟩
    · have stopped : s.warned.stopFlash
          = s.warned.abandonErase sector := by
        unfold State.stopFlash
        rw [show s.warned.flash.op = .erase sector from erase]
      obtain ⟨r, captures, ended⟩ := State.powerFailWarning_of_stopped (mark := some sector) running clear
        alive (by rw [stopped, State.abandonWaitingSave_of_other (s := s.warned.abandonErase sector) other]; rfl) rfl
      exact ⟨_, r, congrArg Host.Outcome.next ended, captures, rfl,
        fun sound => Memory.eraseSector_sameOutside sound _ _⟩
  · refine congrArg Host.Outcome.next ((State.powerFailWarning_of_running running).trans (if_pos ?_))
    rcases held with failed | taken
    · rw [decide_eq_true failed, Bool.or_true]
    · rw [taken, Bool.true_or]

/-! ### A save that the warning stops (R157, R201) -/

/-- The warning stops a save: its erase or program is cut short, or it waits between the two (R157). -/
theorem State.warned_stops_save {s : State} {save : Save} (saving : s.settings.save = some save)
    (work : s.flash.op = .settingsErase ∨ s.flash.op = .settingsProgram
      ∨ (s.flash.op = .none ∧ save.stage = .waitProgram)) :
    ∃ (f : Flash) (n : Nat), f.op = .none ∧ (s.flash.sound → s.flash.mem.SameOutside 32 f.mem)
      ∧ s.warned.stopFlash.abandonWaitingSave
        = ({ s.warned with flash := f, freeCount := n } : State).endSave .abandoned := by
  have cut (stopped : s.warned.stopFlash = s.warned.abandonSettingsWork) :
      ∃ (f : Flash) (n : Nat), f.op = .none ∧ (s.flash.sound → s.flash.mem.SameOutside 32 f.mem)
        ∧ s.warned.stopFlash.abandonWaitingSave
          = ({ s.warned with flash := f, freeCount := n } : State).endSave .abandoned := by
    refine ⟨⟨s.flash.mem.eraseSector 32 (s.freeBytes Config.sectorSize).1, .none, true⟩, s.freeCount + 1, rfl,
      fun sound => Memory.eraseSector_sameOutside sound _ _, ?_⟩
    rw [stopped]
    refine State.abandonWaitingSave_of_other fun v waiting => ?_
    rw [State.abandonSettingsWork, State.endSave_eq (save := save)] at waiting
    · cases waiting
    · exact saving
  rcases work with erase | program | ⟨free, waits⟩
  · exact cut (by unfold State.stopFlash; rw [show s.warned.flash.op = _ from erase])
  · exact cut (by unfold State.stopFlash; rw [show s.warned.flash.op = _ from program])
  · have stopped : s.warned.stopFlash = s.warned := by
      unfold State.stopFlash
      rw [show s.warned.flash.op = _ from free]
    refine ⟨s.flash, s.freeCount, free, fun _ _ _ => rfl, ?_⟩
    rw [stopped]
    obtain ⟨stage, v⟩ := save
    subst waits
    exact State.abandonWaitingSave_of_waiting saving

theorem warning_abandonsSave : Claims.WarningAbandonsSave := by
  intro s save running clear alive saving work
  obtain ⟨f, n, free, same, stopped⟩ := State.warned_stops_save saving work
  let e : State := { s.warned with flash := f, freeCount := n }
  have ended := stopped.trans (State.endSave_eq (s := e) saving)
  obtain ⟨r, captures, begun⟩ := State.powerFailWarning_of_stopped (mark := s.journal.reErase) running clear alive
    ended free
  refine ⟨_, r, congrArg Host.Outcome.next begun, rfl, State.endSave_noticed (s := e) saving (by decide),
    State.endSave_answered (s := e) saving rfl, rfl, captures, same, rfl, rfl⟩

/-! ### The release (R156, R158) -/

section
variable {s : State}

theorem State.powerFailRelease_of_clear (clear : s.journal.taken = false) :
    s.powerFailRelease = s.withJournal { s.journal with warning := false } := by
  unfold State.powerFailRelease
  rw [clear]
  rfl

/-- The journal at the release of the power-fail state (R158). -/
def State.warningReleased (s : State) : State :=
  s.withJournal { s.journal with warning := false, taken := false, stage := s.stageReleased }

theorem State.powerFailRelease_of_taken (running : s.phase = .running) (taken : s.journal.taken = true) :
    s.powerFailRelease = s.warningReleased.grantFlash := by
  unfold State.powerFailRelease
  rw [taken, running]
  rfl

theorem State.stageReleased_of_free (free : s.flash.op = .none) : s.stageReleased = .none := by
  unfold State.stageReleased
  rw [free]
  split
  · rename_i program
    cases program
  · rfl

theorem State.stageReleased_of_program {a : Fin 32} {b : Fin 8} {r : JournalRecord}
    (program : s.flash.op = .program a b r) :
    s.stageReleased = if s.journal.stage = .waiting then .waiting else .none := by
  unfold State.stageReleased
  rw [program]
  cases s.journal.stage <;> rfl

/-- A free flash serves an owed erase first (R156). -/
theorem State.grantFlash_of_owed (free : s.flash.op = .none) (clear : s.journal.taken = false)
    (alive : s.journal.state ≠ .failed) (retry : s.journal.retry = none) {x : Fin 32}
    (owed : s.journal.owedErase = some x) : s.grantFlash = s.beginErase x := by
  unfold State.grantFlash
  simp [free, clear, alive, retry, owed]

/-- Then it serves a re-erase mark (R156). -/
theorem State.grantFlash_of_mark (free : s.flash.op = .none) (clear : s.journal.taken = false)
    (alive : s.journal.state ≠ .failed) (retry : s.journal.retry = none) (owed : s.journal.owedErase = none)
    {x : Fin 32} (mark : s.journal.reErase = some x) : s.grantFlash = s.beginErase x := by
  unfold State.grantFlash
  simp [free, clear, alive, retry, owed, mark]

theorem release_servesOwedEraseFirst : Claims.ReleaseServesOwedEraseFirst := by
  intro s running alive
  refine ⟨fun clear => congrArg Host.Outcome.next (State.powerFailRelease_of_clear clear),
    fun taken retry free => ?_, fun a b r taken program => congrArg Host.Outcome.next ?_⟩
  · have stage := State.stageReleased_of_free free
    have granted := State.powerFailRelease_of_taken running taken
    refine ⟨fun x owed => ?_, fun x owed mark => ?_, fun owed mark none_saved => ?_⟩
    all_goals refine congrArg Host.Outcome.next (granted.trans ?_)
    · rw [State.grantFlash_of_owed (s := s.warningReleased) free rfl alive retry owed]
      simp only [State.beginErase, State.warningReleased, State.withJournal_journal, stage, owed, clearMark, if_true]
      rfl
    · rw [State.grantFlash_of_mark (s := s.warningReleased) free rfl alive retry owed mark]
      simp only [State.beginErase, State.warningReleased, State.withJournal_journal, stage, owed, mark, clearMark,
        if_true]
      rfl
    · rw [State.grantFlash_of_no_work (s := s.warningReleased) retry owed mark none_saved,
        State.warningReleased, stage]
      rfl
  · rw [State.powerFailRelease_of_taken running taken,
      State.grantFlash_of_busy (s := s.warningReleased)
        (by rw [show s.warningReleased.flash.op = _ from program]; nofun),
      State.warningReleased, State.stageReleased_of_program program]
    rfl

end

/-- Settles O41. A warning that has stopped the flash begins the power-fail checkpoint, whatever it stopped; the
release grants the flash in the order of R156. -/
theorem powerFailTakesCheckpointAndClears : Obligations.PowerFailTakesCheckpointAndClears :=
  ⟨warning_beginsPowerFailCheckpoint, warning_abandonsSave, release_servesOwedEraseFirst⟩

end Sys2Proof.Machine
end

section

/-! ## The end of a program (O39) -/

namespace Sys2Proof.Machine

/-! ### The rotation leaves a slot (R147, R152, R153) -/

section
variable {s : State} {good : Bool} {r : JournalRecord} {x : Fin 32}

/-- The rotation stands on the slot after the current one, in the same sector (R147). -/
def Journal.onNextSlot (j : Journal) : Journal := { j with slot := j.slot + 1 }

/-- The rotation stands in the sector after the current one, no sector being retired (R147). -/
def Journal.inNextSector (j : Journal) : Journal := { j with sector := j.sector + 1, slot := 0 }

/-- The rotation stands in the sector after the current one, which it has retired (R153, R154). -/
def Journal.leftMarked (j : Journal) : Journal :=
  { j with
    sector := j.sector + 1
    slot := 0
    retired := sectorFlag j.sector
    owedErase := clearMark j.sector j.owedErase
    reErase := clearMark j.sector j.reErase
    retireOnLeave := false }

theorem Journal.inNextSector_nextSector {j : Journal} (none_retired : j.retired = 0) :
    j.inNextSector.nextSector = j.sector + 2 := by
  rw [Journal.nextSector, show j.inNextSector.retired = 0 from none_retired, sectorAfter_none_retired]
  show j.sector + 1 + 1 = j.sector + 2
  omega

theorem Journal.leftMarked_nextSector (j : Journal) : j.leftMarked.nextSector = j.sector + 2 := by
  show sectorAfter (sectorFlag j.sector) (j.sector + 1) = j.sector + 2
  rw [sectorAfter_one_retired, if_neg (by omega)]
  omega

theorem State.moveOn_within (within : s.journal.slot ≠ 7) : s.moveOn = s.withJournal s.journal.onNextSlot := by
  have next : slotAfter s.journal.retired s.journal.sector s.journal.slot = (s.journal.sector, s.journal.slot + 1) :=
    if_neg within
  simp only [State.moveOn, next, if_true]
  rfl

/-- Past the last slot the rotation stands in the next sector, and the one after it is erased (R147, R152). -/
theorem State.moveOn_last (last : s.journal.slot = 7) (none_retired : s.journal.retired = 0) :
    s.moveOn = ((s.withJournal s.journal.inNextSector).leaveSector s.journal.sector).eraseAhead := by
  have next : slotAfter s.journal.retired s.journal.sector s.journal.slot = (s.journal.sector + 1, 0) := by
    rw [slotAfter, if_pos last, none_retired, sectorAfter_none_retired]
  have leaves : s.journal.sector + 1 ≠ s.journal.sector := by simp
  simp only [State.moveOn, next, leaves, if_false]
  rfl

theorem State.moveOn_unmarked (last : s.journal.slot = 7) (none_retired : s.journal.retired = 0)
    (unmarked : s.journal.retireOnLeave = false) :
    s.moveOn = (s.withJournal s.journal.inNextSector).eraseAhead := by
  rw [State.moveOn_last last none_retired, State.leaveSector, if_neg]
  rw [show (s.withJournal s.journal.inNextSector).journal.retireOnLeave = false from unmarked]
  nofun

/-- A marked sector is retired as the rotation leaves it, with the JOURNAL record and notice (R153, R154). -/
theorem State.moveOn_marked (last : s.journal.slot = 7) (none_retired : s.journal.retired = 0)
    (marked : s.journal.retireOnLeave = true) (normal : s.journal.state = .normal) :
    ∃ w : State, s.moveOn = w.eraseAhead ∧ s.Works w [s.retiredRecord s.journal.sector] [.journal]
      ∧ w.journal = s.journal.leftMarked ∧ w.flash = s.flash := by
  let v := s.withJournal { s.journal.inNextSector with retireOnLeave := false }
  have few : retiredCount (v.journal.retired ||| sectorFlag s.journal.sector) ≤ 7 := by
    rw [show v.journal.retired = 0 from none_retired, zero_or_sectorFlag, retiredCount_sectorFlag]
    decide
  obtain ⟨works, journal⟩ := State.retire_works (s := v) (.inr ⟨normal, few⟩)
  refine ⟨v.retire s.journal.sector, ?_, works.after_silent rfl, journal.trans ?_, State.retire_flash _⟩
  · rw [State.moveOn_last last none_retired]
    exact congrArg State.eraseAhead (if_pos marked)
  · rw [Journal.retiring, show v.journal.retired = 0 from none_retired, zero_or_sectorFlag]
    rfl

theorem State.eraseAhead_of_taken (alive : s.journal.state ≠ .failed) (taken : s.journal.taken = true) :
    s.eraseAhead = s.withJournal { s.journal with owedErase := some s.journal.nextSector } := by
  rw [State.eraseAhead, if_neg alive, if_pos taken]

theorem Journal.alive_of_normal {j : Journal} (normal : j.state = .normal) : j.state ≠ .failed := by
  rw [normal]
  nofun

/-- Without a mark an erase that begins moves the operation in flight alone (R155). -/
theorem State.beginErase_unmarked (mark : s.journal.reErase = none) (owed : s.journal.owedErase = none) :
    s.beginErase x = s.withOp (.erase x) := by
  have same : { s.journal with owedErase := clearMark x s.journal.owedErase
                               reErase := clearMark x s.journal.reErase } = s.journal := by
    rw [clearMark_of_ne (by rw [mark]; nofun), clearMark_of_ne (by rw [owed]; nofun)]
  exact congrArg (fun j => (s.withJournal j).withOp (.erase x)) same

theorem State.eraseAhead_unmarked (normal : s.journal.state = .normal) (clear : s.journal.taken = false)
    (mark : s.journal.reErase = none) (owed : s.journal.owedErase = none) :
    s.eraseAhead = s.withOp (.erase s.journal.nextSector) := by
  rw [State.eraseAhead_of_clear (Journal.alive_of_normal normal) clear, State.beginErase_unmarked mark owed]

/-! ### The program judged (R152, R153) -/

/-- A program of the current slot has been judged by its read-back (R152, R153). -/
def State.judged (s : State) (good : Bool) (r : JournalRecord) : State :=
  if good then s.programVerified s.journal.sector s.journal.slot r else s.programFailed r

/-- What follows the end of a program (R152, R153, R157). -/
def State.afterProgram (s : State) (good : Bool) (r : JournalRecord) : State :=
  (if s.journal.taken then (s.judged good r).afterTakenProgram r good
    else if s.journal.stage = .waiting then (s.judged good r).beginReleasedPowerFail
    else s.judged good r).grantFlash

/-- The array holds what the program has left, and the flash is free again. -/
def State.freedWith (s : State) (m : Memory) : State := s.withFlash { s.flash with mem := m, op := .none }

/-- The read-back of the current slot's program, or the bytes that the command names, decide how it has ended (R152,
R153; log 52). -/
theorem State.programEnd_eq {left : Option (List Byte)} {m : Memory}
    (inflight : s.flash.op = .program s.journal.sector s.journal.slot r)
    (array : s.flash.mem.afterProgram (slotAddress s.journal.sector s.journal.slot) r.bytes left = m) :
    s.programEnd left = (s.freedWith m).afterProgram (Decidable.decide
      (left = none ∧ m.slice (slotAddress s.journal.sector s.journal.slot) 512 = r.bytes)) r := by
  have read := Memory.readBackMatches_iff m (slotAddress s.journal.sector s.journal.slot) r.bytes left
  rw [← Bool.eq_iff_iff.2 (read.trans decide_eq_true_iff.symm), ← array]
  unfold State.programEnd
  rw [inflight]
  rfl

/-- The journal with the record of the current slot as its newest. -/
def Journal.verified (j : Journal) (r : JournalRecord) : Journal := { j with newest := some ⟨r, j.sector, j.slot⟩ }

/-- The journal with a failed program counted and its sector marked (R153). -/
def Journal.failed (j : Journal) : Journal :=
  { j with programFailures := min 65535 (j.programFailures + 1), retireOnLeave := true }

theorem State.judged_good (normal : s.journal.state = .normal) (none_retired : s.journal.retired = 0) :
    s.judged true r = (s.withJournal (s.journal.verified r)).moveOn :=
  congrArg State.moveOn (State.reviewJournal_of_normal (s := s.withJournal (s.journal.verified r)) normal
    (by rw [show (s.withJournal (s.journal.verified r)).journal.retired = 0 from none_retired]; decide) true)

theorem State.judged_bad : s.judged false r = ((s.withJournal s.journal.failed).moveOn).retrying r := rfl

/-- Where the power-fail checkpoint takes the place of a failed record nothing waits for a retry (R157). -/
theorem State.retrying_of_powerFail (powerFail : s.journal.taken = true ∨ s.journal.stage = .waiting) :
    s.retrying r = s := by
  refine if_pos ?_
  rcases powerFail with taken | waiting
  · rw [taken, Bool.true_or]
  · rw [decide_eq_true (.inl waiting), Bool.or_true]

theorem State.retrying_of_clear (clear : s.journal.taken = false) (other : s.journal.stage ≠ .waiting)
    (alive : s.journal.state ≠ .failed) : s.retrying r = s.withJournal { s.journal with retry := some r } := by
  unfold State.retrying
  simp [clear, other, alive]

/-! ### The power-fail state CLEAR (R152, R153, R156) -/

/-- A free flash goes to the retry first (R153, R156). -/
theorem State.grantFlash_of_retry (free : s.flash.op = .none) (clear : s.journal.taken = false)
    (alive : s.journal.state ≠ .failed) (retry : s.journal.retry = some r) :
    s.grantFlash = (s.withJournal { s.journal with retry := none }).beginProgram r := by
  unfold State.grantFlash
  simp [free, clear, alive, retry]

theorem State.afterProgram_of_clear (clear : s.journal.taken = false) (other : s.journal.stage ≠ .waiting) :
    s.afterProgram good r = (s.judged good r).grantFlash := by
  unfold State.afterProgram
  rw [clear, if_neg other]
  rfl

theorem State.afterProgram_of_taken (taken : s.journal.taken = true) :
    s.afterProgram good r = ((s.judged good r).afterTakenProgram r good).grantFlash :=
  congrArg State.grantFlash (if_pos taken)

theorem State.afterProgram_of_waiting (clear : s.journal.taken = false) (waiting : s.journal.stage = .waiting) :
    s.afterProgram good r = (s.judged good r).beginReleasedPowerFail.grantFlash := by
  unfold State.afterProgram
  rw [clear, if_pos waiting]
  rfl

/-- The NORMAL journal that no other work waits for and no sector is retired in, the power-fail state CLEAR. -/
structure Journal.Calm (j : Journal) : Prop where
  normal : j.state = .normal
  none_retired : j.retired = 0
  clear : j.taken = false
  mark : j.reErase = none
  owed : j.owedErase = none
  retry : j.retry = none

theorem State.afterProgram_good_within (calm : s.journal.Calm) (other : s.journal.stage ≠ .waiting)
    (none_saved : s.settings.save = none) (within : s.journal.slot ≠ 7) :
    s.afterProgram true r = s.withJournal (s.journal.verified r).onNextSlot := by
  rw [State.afterProgram_of_clear calm.clear other, State.judged_good calm.normal calm.none_retired,
    State.moveOn_within (s := s.withJournal (s.journal.verified r)) within]
  exact State.grantFlash_of_no_work (s := s.withJournal _) calm.retry calm.owed calm.mark none_saved

theorem State.afterProgram_good_last (calm : s.journal.Calm) (other : s.journal.stage ≠ .waiting)
    (unmarked : s.journal.retireOnLeave = false) (last : s.journal.slot = 7) : s.afterProgram true r
      = (s.withJournal (s.journal.verified r).inNextSector).withOp (.erase (s.journal.sector + 2)) := by
  let v := s.withJournal (s.journal.verified r)
  rw [State.afterProgram_of_clear calm.clear other, State.judged_good calm.normal calm.none_retired,
    State.moveOn_unmarked (s := v) last calm.none_retired unmarked,
    State.eraseAhead_unmarked (s := v.withJournal v.journal.inNextSector) calm.normal calm.clear calm.mark calm.owed,
    show (v.withJournal v.journal.inNextSector).journal.nextSector = _ from
      Journal.inNextSector_nextSector (j := v.journal) calm.none_retired]
  exact State.grantFlash_of_busy nofun

theorem State.afterProgram_bad_within (calm : s.journal.Calm) (other : s.journal.stage ≠ .waiting)
    (free : s.flash.op = .none) (within : s.journal.slot ≠ 7) : s.afterProgram false r
      = (s.withJournal s.journal.failed.onNextSlot).withOp
        (.program s.journal.sector (s.journal.slot + 1) r) := by
  have alive := Journal.alive_of_normal calm.normal
  let w := s.withJournal s.journal.failed.onNextSlot
  have moved : (s.withJournal s.journal.failed).moveOn = w := State.moveOn_within within
  rw [State.afterProgram_of_clear calm.clear other, State.judged_bad, moved,
    State.retrying_of_clear (s := w) calm.clear other alive,
    State.grantFlash_of_retry (s := w.withJournal { w.journal with retry := some r }) free calm.clear alive rfl]
  have dropped : { w.journal with retry := none } = w.journal := by
    rw [← show w.journal.retry = none from calm.retry]
  exact congrArg (fun j => (s.withJournal j).withOp (.program s.journal.sector (s.journal.slot + 1) r)) dropped

/-- The rotation has left its sector and the one after the next is being erased. -/
theorem State.moveOn_marked_erases (calm : s.journal.Calm) (marked : s.journal.retireOnLeave = true)
    (last : s.journal.slot = 7) :
    s.Works s.moveOn [s.retiredRecord s.journal.sector] [.journal]
      ∧ s.moveOn.journal = { s.journal.inNextSector with
          retired := sectorFlag s.journal.sector, retireOnLeave := false }
      ∧ s.moveOn.flash = { s.flash with op := .erase (s.journal.sector + 2) } := by
  obtain ⟨w, moved, works, journal, flash⟩ := State.moveOn_marked last calm.none_retired marked calm.normal
  have unmarked : s.journal.leftMarked = { s.journal.inNextSector with
      retired := sectorFlag s.journal.sector, retireOnLeave := false } := by
    simp [Journal.leftMarked, Journal.inNextSector, clearMark, calm.mark, calm.owed]
  rw [unmarked] at journal
  have next : w.journal.nextSector = s.journal.sector + 2 := by
    rw [journal, ← unmarked, Journal.leftMarked_nextSector]
  have erases : w.eraseAhead = w.withOp (.erase (s.journal.sector + 2)) := by
    rw [← next]
    exact State.eraseAhead_unmarked (by rw [journal]; exact calm.normal) (by rw [journal]; exact calm.clear)
      (by rw [journal]; exact calm.mark) (by rw [journal]; exact calm.owed)
  rw [moved, erases]
  exact ⟨works.then_silent rfl, journal, by rw [← flash]; rfl⟩

theorem State.afterProgram_bad_last (calm : s.journal.Calm) (other : s.journal.stage ≠ .waiting)
    (last : s.journal.slot = 7) :
    let t := s.afterProgram false r
    s.Works t [s.retiredRecord s.journal.sector] [.journal]
      ∧ t.journal = { s.journal.failed.inNextSector with
          retired := sectorFlag s.journal.sector, retireOnLeave := false, retry := some r }
      ∧ t.flash = { s.flash with op := .erase (s.journal.sector + 2) } := by
  let v := s.withJournal s.journal.failed
  obtain ⟨works, journal, flash⟩ := State.moveOn_marked_erases (s := v)
    ⟨calm.normal, calm.none_retired, calm.clear, calm.mark, calm.owed, calm.retry⟩ rfl last
  have ended : s.afterProgram false r = v.moveOn.withJournal { v.moveOn.journal with retry := some r } := by
    rw [State.afterProgram_of_clear calm.clear other, State.judged_bad,
      State.retrying_of_clear (s := v.moveOn) (by rw [journal]; exact calm.clear) (by rw [journal]; exact other)
        (by rw [journal]; exact Journal.alive_of_normal calm.normal)]
    exact State.grantFlash_of_busy (s := v.moveOn.withJournal _) (by rw [State.withJournal_flash, flash]; nofun)
  rw [ended]
  exact ⟨(works.after_silent rfl).then_silent rfl, by rw [State.withJournal_journal, journal]; rfl, flash⟩

end

theorem program_isVerifiedOrRetried : Claims.ProgramIsVerifiedOrRetried := by
  intro s left r inflight normal none_retired clear other mark owed retry none_saved unmarked address mem verified
  let p := s.freedWith mem
  have calm : p.journal.Calm := ⟨normal, none_retired, clear, mark, owed, retry⟩
  have ended : s.programEnd left = p.afterProgram (Decidable.decide verified) r :=
    State.programEnd_eq inflight (by cases left <;> rfl)
  refine ⟨s.programEnd left, rfl, ?_⟩
  by_cases good : verified <;> by_cases last : s.journal.slot = 7
  · rw [ended, decide_eq_true good, State.afterProgram_good_last (s := p) calm other unmarked last]
    refine ⟨rfl, fun _ within => absurd last within, fun _ _ => ?_, fun bad => absurd good bad,
      fun bad => absurd good bad⟩
    rw [← last]
    rfl
  · rw [ended, decide_eq_true good, State.afterProgram_good_within (s := p) calm other none_saved last]
    exact ⟨rfl, fun _ _ => rfl, fun _ full => absurd full last, fun bad => absurd good bad,
      fun bad => absurd good bad⟩
  · obtain ⟨works, journal, flash⟩ := State.afterProgram_bad_last (s := p) (r := r) calm other last
    rw [ended, decide_eq_false good]
    refine ⟨by rw [flash]; rfl, fun v => absurd v good, fun v => absurd v good, fun _ within => absurd last within,
      fun _ _ => ⟨?_, by rw [flash]; rfl, works.tells.noticed (by simp) (by decide),
        fun on => works.tells.holds_first on (by simp), (works.after_silent rfl).frame⟩⟩
    rw [journal, ← unmarked]
    rfl
  · rw [ended, decide_eq_false good, State.afterProgram_bad_within (s := p) calm other rfl last]
    exact ⟨rfl, fun v => absurd v good, fun v => absurd v good, fun _ _ => rfl, fun _ full => absurd full last⟩

/-! ### The state EMPTY (R152, R155) -/

section
variable {s : State} {good : Bool} {r : JournalRecord}

/-- The first verified program makes an EMPTY journal NORMAL or DEGRADED by its retired sectors (R152, R155). -/
theorem State.reviewJournal_of_empty (empty : s.journal.state = .empty) (few : retiredCount s.journal.retired ≤ 28) :
    let st : JournalState := if retiredCount s.journal.retired ≤ 7 then .normal else .degraded
    s.reviewJournal true = (s.withJournal { s.journal with state := st }).noteJournal 0 st.code := by
  unfold State.reviewJournal State.enterJournalState stateOfRetired
  by_cases normal : retiredCount s.journal.retired ≤ 7 <;> simp [empty, few, normal]

end

theorem firstVerifiedCheckpoint_endsEmpty : Claims.FirstVerifiedCheckpointEndsEmpty := by
  intro s r inflight within empty clear other mark owed retry none_saved retired few address mem verified
  let p := s.freedWith mem
  let v := p.withJournal (p.journal.verified r)
  let st : JournalState := if retired ≤ 7 then .normal else .degraded
  let w := v.withJournal { v.journal with state := st }
  let n := w.noteJournal 0 st.code
  have reviewed : v.reviewJournal true = n := State.reviewJournal_of_empty empty few
  have journal : n.journal = w.journal := State.noteJournal_journal _ _ _
  have works : s.Works n [s.ownRecord .journal (datumOf 0 st.code)] [.journal] :=
    (w.noteJournal_works 0 st.code).after_silent rfl
  have ended : s.programEnd none = n.withJournal w.journal.onNextSlot := by
    have judged : p.judged true r = n.withJournal w.journal.onNextSlot := by
      show (v.reviewJournal true).moveOn = _
      rw [reviewed, State.moveOn_within (by rw [journal]; exact within), journal]
    rw [State.programEnd_eq (m := mem) inflight rfl, decide_eq_true ⟨rfl, verified⟩,
      State.afterProgram_of_clear (s := p) clear other, judged]
    exact State.grantFlash_of_no_work (s := n.withJournal _) retry owed mark (by
      rw [works.frame]
      exact none_saved)
  have code : datumOf 0 st.code = if retired ≤ 7 then 0 else 1 := by
    by_cases normal : retired ≤ 7 <;> simp [st, normal] <;> rfl
  have works : s.Works (n.withJournal w.journal.onNextSlot) [s.ownRecord .journal (datumOf 0 st.code)] [.journal] :=
    works.then_silent rfl
  have flash : n.flash = p.flash := w.noteJournal_flash 0 st.code
  refine ⟨_, rfl, ?_⟩
  rw [ended]
  refine ⟨rfl, works.tells.noticed (by simp) (by decide), fun on => ?_, ?_⟩
  · rw [← code]
    exact works.tells.holds_first on (by simp)
  · have frame := works.frame
    rw [show (n.withJournal w.journal.onNextSlot).flash = p.flash from flash] at frame
    exact frame

/-! ### The power-fail state TAKEN (R153, R157) -/

section
variable {s : State} {good : Bool} {r : JournalRecord}

/-- The journal once a program has ended while the power-fail state is TAKEN: an erase that it would begin is owed
(R152, R153, R157). -/
def Journal.endedTaken (j : Journal) (good : Bool) (r : JournalRecord) : Journal :=
  let full : Bool := Decidable.decide (j.slot = 7)
  let moved : Journal := { j with
    sector := if full then j.sector + 1 else j.sector
    slot := if full then 0 else j.slot + 1
    owedErase := if full then some (j.sector + 2) else j.owedErase }
  if good then { moved with newest := some ⟨r, j.sector, j.slot⟩ }
  else { moved with
    programFailures := min 65535 (j.programFailures + 1)
    retired := if full then sectorFlag j.sector else 0
    reErase := if full = true ∧ j.reErase = some j.sector then none else j.reErase
    retireOnLeave := !full }

theorem Journal.endedTaken_good_within {j : Journal} (within : j.slot ≠ 7) :
    j.endedTaken true r = (j.verified r).onNextSlot := by
  simp [Journal.endedTaken, within, Journal.verified, Journal.onNextSlot]

theorem Journal.endedTaken_good_last {j : Journal} (last : j.slot = 7) :
    j.endedTaken true r = { (j.verified r).inNextSector with owedErase := some (j.sector + 2) } := by
  simp [Journal.endedTaken, last, Journal.verified, Journal.inNextSector]

theorem Journal.endedTaken_bad_within {j : Journal} (within : j.slot ≠ 7) (none_retired : j.retired = 0) :
    j.endedTaken false r = j.failed.onNextSlot := by
  simp [Journal.endedTaken, within, Journal.failed, Journal.onNextSlot, none_retired]

theorem Journal.endedTaken_bad_last {j : Journal} (last : j.slot = 7) :
    j.endedTaken false r = { j.failed.leftMarked with owedErase := some (j.sector + 2) } := by
  simp [Journal.endedTaken, last, Journal.failed, Journal.leftMarked, clearMark]

theorem Journal.endedTaken_keeps (j : Journal) (good : Bool) (r : JournalRecord) :
    (j.endedTaken good r).taken = j.taken ∧ (j.endedTaken good r).state = j.state
      ∧ (j.endedTaken good r).stage = j.stage ∧ (j.endedTaken good r).pending = j.pending := by
  cases good <;> exact ⟨rfl, rfl, rfl, rfl⟩

/-- A failed program in the last slot retires its sector, with the JOURNAL record and notice; the erase ahead is owed
(R153, R154, R157). -/
theorem State.judged_bad_last_taken (normal : s.journal.state = .normal) (none_retired : s.journal.retired = 0)
    (taken : s.journal.taken = true) (last : s.journal.slot = 7) :
    s.Works (s.judged false r) [s.retiredRecord s.journal.sector] [.journal]
      ∧ (s.judged false r).journal = s.journal.endedTaken false r
      ∧ (s.judged false r).flash = s.flash := by
  let v := s.withJournal s.journal.failed
  obtain ⟨w, moved, works, journal, flash⟩ := State.moveOn_marked (s := v) last none_retired rfl normal
  have next : w.journal.nextSector = s.journal.sector + 2 := by
    rw [journal, Journal.leftMarked_nextSector]
    rfl
  have owes : w.eraseAhead = w.withJournal { w.journal with owedErase := some (s.journal.sector + 2) } := by
    rw [State.eraseAhead_of_taken (by rw [journal]; exact Journal.alive_of_normal normal)
      (by rw [journal]; exact taken), next]
  have ended : s.judged false r = w.withJournal { w.journal with owedErase := some (s.journal.sector + 2) } := by
    rw [State.judged_bad, moved, owes]
    exact State.retrying_of_powerFail (s := w.withJournal _) (.inl (by
      rw [State.withJournal_journal, journal]
      exact taken))
  rw [ended]
  refine ⟨(works.after_silent rfl).then_silent rfl, ?_, flash⟩
  rw [State.withJournal_journal, journal, Journal.endedTaken_bad_last last]
  rfl

/-- Any other end of a program under the warning tells nothing (R152, R153, R157). -/
theorem State.judged_silent_taken (normal : s.journal.state = .normal) (none_retired : s.journal.retired = 0)
    (taken : s.journal.taken = true) (unmarked : s.journal.retireOnLeave = false)
    (spared : s.journal.slot = 7 → good = true) :
    s.judged good r = s.withJournal (s.journal.endedTaken good r) := by
  have alive := Journal.alive_of_normal normal
  cases good with
  | true =>
    let v := s.withJournal (s.journal.verified r)
    rw [State.judged_good normal none_retired]
    by_cases last : s.journal.slot = 7
    · rw [State.moveOn_unmarked (s := v) last none_retired unmarked,
        State.eraseAhead_of_taken (s := v.withJournal v.journal.inNextSector) alive taken,
        show (v.withJournal v.journal.inNextSector).journal.nextSector = _ from
          Journal.inNextSector_nextSector (j := v.journal) none_retired, Journal.endedTaken_good_last last]
      rfl
    · rw [State.moveOn_within (s := v) last, Journal.endedTaken_good_within last]
      rfl
  | false =>
    have within : s.journal.slot ≠ 7 := fun last => nomatch spared last
    let w := s.withJournal s.journal.failed.onNextSlot
    have moved : (s.withJournal s.journal.failed).moveOn = w := State.moveOn_within within
    rw [State.judged_bad, moved, State.retrying_of_powerFail (s := w) (.inl taken),
      Journal.endedTaken_bad_within within none_retired]

/-- What the power-fail checkpoint makes of the journal and the flash once the program in flight has ended (R157). -/
theorem State.afterTakenProgram_ends (alive : s.journal.state ≠ .failed) (free : s.flash.op = .none) :
    let again := good = false
      ∧ s.journal.reErase ≠ some s.journal.sector ∧ s.journal.owedErase ≠ some s.journal.sector
    ∃ (j : Journal) (op : FlashOp),
      s.afterTakenProgram r good = { s with journal := j, flash := { s.flash with op := op } }
        ∧ j.taken = s.journal.taken
        ∧ (s.journal.stage = .waiting → ∃ p : JournalRecord, op = .program s.journal.sector s.journal.slot p
            ∧ p.Captures s (s.journal.pending ||| 32#6)
            ∧ j = { s.journal.captured s.tb.runClock with stage := .firstTry })
        ∧ (s.journal.stage = .firstTry → again →
            op = .program s.journal.sector s.journal.slot r ∧ j = { s.journal with stage := .secondTry })
        ∧ (s.journal.stage = .firstTry → ¬ again → op = .none ∧ j = { s.journal with stage := .done })
        ∧ (s.journal.stage = .secondTry → op = .none ∧ j = { s.journal with stage := .done }) := by
  intro again
  have allowed : s.journal.retryAllowed = true
      ↔ s.journal.reErase ≠ some s.journal.sector ∧ s.journal.owedErase ≠ some s.journal.sector :=
    decide_eq_true_iff
  unfold State.afterTakenProgram
  cases stage : s.journal.stage with
  | waiting =>
    obtain ⟨p, captures, begun⟩ := State.beginPowerFail_of_alive alive
    exact ⟨_, _, begun, rfl, fun _ => ⟨p, rfl, captures, rfl⟩, nofun, nofun, nofun⟩
  | firstTry =>
    by_cases tries : again
    · refine ⟨{ s.journal with stage := .secondTry }, .program s.journal.sector s.journal.slot r, ?_, rfl, nofun,
        fun _ _ => ⟨rfl, rfl⟩, fun _ other => absurd tries other, nofun⟩
      have tried : s.retryPowerFail r = (s.beginProgram r).withStage .secondTry :=
        if_pos ⟨alive, allowed.2 tries.2⟩
      rw [tries.1]
      exact tried
    · refine ⟨{ s.journal with stage := .done }, s.flash.op, ?_, rfl, nofun, fun _ other => absurd other tries,
        fun _ _ => ⟨free, rfl⟩, nofun⟩
      cases good with
      | true => rfl
      | false =>
        have given_up : s.retryPowerFail r = s.withStage .done := if_neg fun may => tries ⟨rfl, allowed.1 may.2⟩
        exact given_up
  | secondTry => exact ⟨_, s.flash.op, rfl, rfl, nofun, nofun, nofun, fun _ => ⟨free, rfl⟩⟩
  | none => exact ⟨s.journal, s.flash.op, rfl, rfl, nofun, nofun, nofun, nofun⟩
  | done => exact ⟨s.journal, s.flash.op, rfl, rfl, nofun, nofun, nofun, nofun⟩

/-- What the judgement of a program under the warning moves and tells (R152, R153, R157). -/
theorem State.judged_of_taken (normal : s.journal.state = .normal) (none_retired : s.journal.retired = 0)
    (taken : s.journal.taken = true) (unmarked : s.journal.retireOnLeave = false) :
    let u := s.judged good r
    let lost := Decidable.decide (s.journal.slot = 7) && !good
    u.journal = s.journal.endedTaken good r ∧ u.flash = s.flash ∧ (∃ es ks, s.Works u es ks)
      ∧ (lost = false → u.ring = s.ring ∧ u.ports = s.ports)
      ∧ (lost = true → s.Tells u [s.retiredRecord s.journal.sector] [.journal]) := by
  intro u lost
  cases known : lost with
  | true =>
    obtain ⟨last, bad⟩ : s.journal.slot = 7 ∧ good = false := by simpa [lost] using known
    subst bad
    obtain ⟨works, journal, flash⟩ := State.judged_bad_last_taken (r := r) normal none_retired taken last
    exact ⟨journal, flash, ⟨_, _, works⟩, nofun, fun _ => works.tells⟩
  | false =>
    have spared : s.journal.slot = 7 → good = true := by simpa [lost] using known
    have silent : u = s.withJournal (s.journal.endedTaken good r) :=
      State.judged_silent_taken normal none_retired taken unmarked spared
    rw [silent]
    exact ⟨rfl, rfl, ⟨[], [], .of_silent rfl⟩, fun _ => ⟨rfl, rfl⟩, nofun⟩

end

theorem program_endsUnderWarning : Claims.ProgramEndsUnderWarning := by
  intro s left r inflight normal none_retired taken unmarked full address mem good moved j again
  let p := s.freedWith mem
  let u := p.judged good r
  obtain ⟨journal, flash, ⟨es, ks, works⟩, silent, told⟩ :
      u.journal = j ∧ u.flash = p.flash ∧ (∃ es ks, p.Works u es ks)
        ∧ ((full && !good) = false → u.ring = s.ring ∧ u.ports = s.ports)
        ∧ ((full && !good) = true → p.Tells u [s.retiredRecord s.journal.sector] [.journal]) :=
    State.judged_of_taken (s := p) normal none_retired taken unmarked
  obtain ⟨same_taken, same_state, same_stage, same_pending⟩ : j.taken = s.journal.taken
      ∧ j.state = s.journal.state ∧ j.stage = s.journal.stage ∧ j.pending = s.journal.pending :=
    s.journal.endedTaken_keeps good r
  obtain ⟨tb, tally, shift⟩ : u.tb = s.tb ∧ u.tally = s.tally ∧ u.shift = s.shift := by
    rw [works.frame]
    exact ⟨rfl, rfl, rfl⟩
  obtain ⟨j', op, ended, kept, waiting, tries, gives_up, stops⟩ :=
    State.afterTakenProgram_ends (s := u) (good := good) (r := r)
      (by rw [journal, same_state]; exact Journal.alive_of_normal normal) (by rw [flash]; rfl)
  have ended : s.programEnd left = { u with journal := j', flash := { u.flash with op := op } } := by
    have judged : s.programEnd left = p.afterProgram good r :=
      State.programEnd_eq inflight (by cases left <;> rfl)
    have still : j'.taken = true := by rw [kept, journal, same_taken, taken]
    rw [judged, State.afterProgram_of_taken (s := p) taken, ended]
    exact State.grantFlash_of_held (.inr still)
  rw [journal, same_stage] at waiting tries gives_up stops
  rw [same_pending, tb] at waiting
  refine ⟨s.programEnd left, rfl, ?_⟩
  rw [ended]
  refine ⟨by rw [flash]; rfl, fun h => ?_, tries, gives_up, stops, silent, fun lost => ?_, ?_⟩
  · obtain ⟨q, program, captures, ends⟩ := waiting h
    exact ⟨q, program, captures.congr tb tally shift (by rw [journal]) (by rw [journal]), ends⟩
  · have tells := told lost
    exact ⟨tells.noticed (by simp) (by decide), fun on => tells.holds_first on (by simp)⟩
  · have frame := ((works.after_silent rfl).then_silent rfl : s.Works { u with
      journal := j', flash := { u.flash with op := op } } es ks).frame
    rw [flash] at frame ⊢
    exact frame

/-! ### A warning released before its program ends (R157; log 25) -/

section
variable {s : State} {good : Bool} {r : JournalRecord}

theorem State.moveOn_last_erases (calm : s.journal.Calm) (last : s.journal.slot = 7) :
    ∃ retired : BitVec 32,
      s.moveOn.journal = { s.journal.inNextSector with retired := retired, retireOnLeave := false }
      ∧ s.moveOn.flash.op = .erase (s.journal.sector + 2) := by
  cases mark : s.journal.retireOnLeave with
  | true =>
    obtain ⟨-, journal, flash⟩ := State.moveOn_marked_erases calm mark last
    exact ⟨_, journal, by rw [flash]⟩
  | false =>
    let w := s.withJournal s.journal.inNextSector
    rw [State.moveOn_unmarked last calm.none_retired mark,
      State.eraseAhead_unmarked (s := w) calm.normal calm.clear calm.mark calm.owed,
      show w.journal.nextSector = _ from Journal.inNextSector_nextSector calm.none_retired, ← mark]
    exact ⟨_, rfl, rfl⟩

theorem State.moveOn_stage (calm : s.journal.Calm) : s.moveOn.journal.stage = s.journal.stage := by
  by_cases last : s.journal.slot = 7
  · obtain ⟨retired, journal, -⟩ := State.moveOn_last_erases calm last
    rw [journal]
    rfl
  · rw [State.moveOn_within last]
    rfl

/-- Verified or failed, the program is followed by the move of the rotation alone (R157). -/
theorem State.judged_of_waiting (calm : s.journal.Calm) (waiting : s.journal.stage = .waiting) :
    ∃ (newest : Option NewestRecord) (failures : Nat) (mark : Bool), s.judged good r = (s.withJournal { s.journal with
      newest := newest, programFailures := failures, retireOnLeave := mark }).moveOn := by
  cases good with
  | true => exact ⟨(s.journal.verified r).newest, _, _, State.judged_good calm.normal calm.none_retired⟩
  | false =>
    have stage : (s.withJournal s.journal.failed).moveOn.journal.stage = .waiting :=
      (State.moveOn_stage (s := s.withJournal s.journal.failed)
        ⟨calm.normal, calm.none_retired, calm.clear, calm.mark, calm.owed, calm.retry⟩).trans waiting
    exact ⟨_, s.journal.failed.programFailures, true,
      State.judged_bad.trans (State.retrying_of_powerFail (.inr stage))⟩

theorem State.beginReleasedPowerFail_of_free (alive : s.journal.state ≠ .failed) (free : s.flash.op = .none) :
    ∃ p : JournalRecord, p.Captures s (s.journal.pending ||| 32#6) ∧ s.beginReleasedPowerFail = { s with
      journal := { s.journal.captured s.tb.runClock with stage := .none }
      flash := { s.flash with op := .program s.journal.sector s.journal.slot p } } := by
  let w := s.withJournal { s.journal with stage := .none, pending := s.journal.pending ||| 32#6 }
  have requested : (s.withStage .none).requestCheckpoint .powerFail = w :=
    State.requestCheckpoint_of_alive (s := s.withStage .none) alive _
  refine ⟨w.capturedRecord, w.capturedRecord_captures.congr rfl rfl rfl rfl rfl, ?_⟩
  unfold State.beginReleasedPowerFail
  simp only [requested]
  rw [if_neg alive, if_pos (show w.flash.op = .none from free)]
  rfl

theorem State.beginReleasedPowerFail_of_busy (alive : s.journal.state ≠ .failed) (busy : s.flash.op ≠ .none) :
    s.beginReleasedPowerFail
      = s.withJournal { s.journal with stage := .none, pending := s.journal.pending ||| 32#6 } := by
  let w := s.withJournal { s.journal with stage := .none, pending := s.journal.pending ||| 32#6 }
  have requested : (s.withStage .none).requestCheckpoint .powerFail = w :=
    State.requestCheckpoint_of_alive (s := s.withStage .none) alive _
  unfold State.beginReleasedPowerFail
  simp only [requested]
  rw [if_neg alive, if_neg (show w.flash.op ≠ .none from busy)]

end

theorem program_outlivesWarning : Claims.ProgramOutlivesWarning := by
  intro s left r inflight normal none_retired clear waiting mark owed retry
  obtain ⟨m, good, ended⟩ : ∃ m good, s.programEnd left = (s.freedWith m).afterProgram good r :=
    ⟨_, _, State.programEnd_eq inflight rfl⟩
  have calm : s.journal.Calm := ⟨normal, none_retired, clear, mark, owed, retry⟩
  obtain ⟨newest, failures, leaves, judged⟩ := State.judged_of_waiting (s := s.freedWith m) (good := good) (r := r)
    calm waiting
  rw [State.afterProgram_of_waiting (s := s.freedWith m) clear waiting, judged] at ended
  let v := (s.freedWith m).withJournal { s.journal with
    newest := newest, programFailures := failures, retireOnLeave := leaves }
  have ended : s.programEnd left = v.moveOn.beginReleasedPowerFail.grantFlash := ended
  have calm : v.journal.Calm := ⟨normal, none_retired, clear, mark, owed, retry⟩
  have alive := Journal.alive_of_normal normal
  refine ⟨s.programEnd left, rfl, ?_⟩
  rw [ended]
  by_cases last : s.journal.slot = 7
  · obtain ⟨retired, journal, erases⟩ := State.moveOn_last_erases (s := v) calm last
    have busy : v.moveOn.flash.op ≠ .none := by
      rw [erases]
      nofun
    let w := v.moveOn.withJournal { v.moveOn.journal with
      stage := .none, pending := v.moveOn.journal.pending ||| 32#6 }
    have requested : v.moveOn.beginReleasedPowerFail = w :=
      State.beginReleasedPowerFail_of_busy (by rw [journal]; exact alive) busy
    rw [requested, State.grantFlash_of_busy (s := w) busy, State.withJournal_journal, journal]
    exact ⟨rfl, retry, fun within => absurd last within, fun _ => ⟨erases, rfl, rfl⟩⟩
  · let w := v.withJournal v.journal.onNextSlot
    have moved : v.moveOn = w := State.moveOn_within (s := v) last
    obtain ⟨p, captures, begun⟩ := State.beginReleasedPowerFail_of_free (s := w) alive rfl
    rw [moved, State.grantFlash_of_busy (s := w.beginReleasedPowerFail) (by rw [begun]; nofun), begun]
    exact ⟨rfl, retry, fun _ => ⟨p, rfl, captures.congr rfl rfl rfl rfl rfl, rfl, rfl⟩,
      fun full => absurd full last⟩

/-- Settles O39. The end of a program is its judgement and then what the power-fail state and the free flash make of
it; each claim is one of the branches. -/
theorem programEndVerifiesOrRetries : Obligations.ProgramEndVerifiesOrRetries :=
  ⟨program_isVerifiedOrRetried, firstVerifiedCheckpoint_endsEmpty, program_endsUnderWarning,
    program_outlivesWarning⟩

end Sys2Proof.Machine
end

section
/-! The handover schedule (R165): the first configured instant strictly after a second, O46. -/

namespace Sys2Proof.Machine

section
variable {instants : List Nat} {x : Second}

/-- The midnight that begins the day of a station second (R165). -/
def dayStart (x : Second) : Nat := x.toNat - x.toNat % 86400

/-- The result lies on the day of the second, at the first instant of the list past it, or, where the list holds
none, on the day after at the first of the list (R165). -/
theorem firstInstantAfter_cases (ne : instants ≠ []) :
    (∃ before m after, instants = before ++ m :: after
        ∧ firstInstantAfter instants x = BitVec.ofNat 32 (dayStart x + 60 * m)
        ∧ x.toNat < dayStart x + 60 * m ∧ ∀ b ∈ before, dayStart x + 60 * b ≤ x.toNat)
      ∨ ∃ m rest, instants = m :: rest
        ∧ firstInstantAfter instants x = BitVec.ofNat 32 (dayStart x + 86400 + 60 * m)
        ∧ ∀ b ∈ instants, dayStart x + 60 * b ≤ x.toNat := by
  rw [firstInstantAfter, ← dayStart]
  simp only [List.find?_map]
  cases found : instants.find? _ with
  | some m =>
    obtain ⟨past, before, after, split, passed⟩ := List.find?_eq_some_iff_append.1 found
    exact .inl ⟨before, m, after, split, rfl, by simpa using past, by simpa using passed⟩
  | none =>
    obtain ⟨m, rest, split⟩ := List.exists_cons_of_ne_nil ne
    subst split
    exact .inr ⟨m, rest, rfl, rfl, by simpa using found⟩

end

/-- Settles O46: an instant of the day of the second is passed over only when it does not lie after the second, and
those behind the result in the rising list lie after it. -/
theorem nextInstantIsTheFirstAfter : Obligations.NextInstantIsTheFirstAfter := by
  intro instants x ne rising range far next
  have midnight : dayStart x % 86400 = 0 ∧ dayStart x ≤ x.toNat ∧ x.toNat < dayStart x + 86400 := by
    unfold dayStart
    omega
  rcases firstInstantAfter_cases (x := x) ne with
    ⟨before, m, after, split, result, past, passed⟩ | ⟨m, rest, split, result, passed⟩
  · have today := range m (by simp [split])
    have value : next = dayStart x + 60 * m := by
      simp only [next, result, BitVec.toNat_ofNat]
      omega
    refine ⟨by omega, ⟨m, by simp [split], by omega⟩, fun y low high ⟨n, member, instant⟩ => ?_⟩
    rw [split, List.mem_append, List.mem_cons] at member
    rw [split, List.pairwise_append, List.pairwise_cons] at rising
    obtain ⟨-, ⟨later, -⟩, -⟩ := rising
    rcases member with earlier | rfl | behind
    · have := passed n earlier
      omega
    · omega
    · have := later n behind
      omega
  · have today := range m (by simp [split])
    have value : next = dayStart x + 86400 + 60 * m := by
      simp only [next, result, BitVec.toNat_ofNat]
      omega
    refine ⟨by omega, ⟨m, by simp [split], by omega⟩, fun y low high ⟨n, member, instant⟩ => ?_⟩
    have := passed n member
    have := range n member
    rw [split, List.mem_cons] at member
    rw [split, List.pairwise_cons] at rising
    obtain ⟨later, -⟩ := rising
    rcases member with rfl | behind
    · omega
    · have := later n behind
      omega

end Sys2Proof.Machine
end

section
/-! The crews' requests (R170, R171, R173): TAKE SHIFT, HAND OVER and WITHDRAW, O48. -/

namespace Sys2Proof.Machine

/-! ### A shift that moves on and its HANDOVER record (R94) -/

section
variable (s : State) (x : Shift) (k : Subkind) (crew : Byte)

/-- The Shift Controller's state has become another, and its HANDOVER record is written. -/
def State.shiftNoted : State := (s.withShift x).noteHandover k crew

theorem State.shiftNoted_tells :
    s.Tells (s.shiftNoted x k crew)
      [s.ownRecord .handover (BitVec.ofNat 16 (k.code * 256 + crew.toNat))] [] :=
  (State.note_tells (s.withShift x) .handover _).after_silence rfl rfl

theorem State.shiftNoted_eq : s.shiftNoted x k crew = { s with
    shift := x, ring := (s.shiftNoted x k crew).ring, ports := (s.shiftNoted x k crew).ports } := by
  obtain ⟨r, p, noted⟩ := (s.withShift x).note_frame .handover (datumOf k.code crew.toNat)
  rw [State.shiftNoted, State.noteHandover, noted]
  rfl

end

/-- A request that its owner accepts by moving the shift on and writing its record is answered OK. -/
theorem State.request_movesShift {s : State} {q : Port} {r : Request} {x : Shift} {k : Subkind} {crew : Byte}
    (waits : (s.port q).waits r = true) (other : r ≠ .nop)
    (decided : s.decide q r = (s.shiftNoted x k crew).ok) (on : s.ring.started = true) :
    let t := s.request q r
    AnsweredAndNoticed q r .ok [] s t
      ∧ t = { s with shift := x, ring := t.ring, ports := t.ports }
      ∧ t.ring.holds s.ring.next (s.ownRecord .handover (BitVec.ofNat 16 (k.code * 256 + crew.toNat))) := by
  intro t
  obtain ⟨⟨o, taken⟩, answered, held⟩ :=
    State.request_records waits other decided (s.shiftNoted_tells x k crew) on
  have whole : t = { s.shiftNoted x k crew with ports := o } := taken
  rw [s.shiftNoted_eq] at whole
  refine ⟨answered, ?_, held⟩
  rw [whole]

/-! ### The later of two seconds (R166, R170) -/

theorem laterOf_eq (a b : Second) : laterOf a b = if (a - b).toNat ≤ 2147483647 then a else b := by
  simp only [laterOf, reached, decide_eq_true_eq]

/-! ### TAKE SHIFT (R170) -/

section
variable (s : State) (crew : Byte)

/-- The shift as a crew takes it: no handover is due, and the summary goes on under the crew. -/
def State.shiftTaken : Shift := { s.shift with
  state := .onShift
  dueStart := none
  overdueSince := none
  missedWatch := none
  identity := { s.shift.identity with
    crew := crew
    start := s.tb.second
    nextDue := s.instantAfter (laterOf s.shift.identity.nextDue s.tb.second) }
  running := s.shift.running.map fun m => { m with crewOut := crew, overdue := m.overdue + s.overdueNow } }

theorem State.takeShift_of_zero : s.takeShift 0 = s.refuse .badValue := rfl

variable {s crew}

theorem State.takeShift_of_onDuty (named : crew ≠ 0) (onDuty : s.shift.identity.crew ≠ 0) :
    s.takeShift crew = s.refuse .wrongState := by
  rw [State.takeShift, if_neg named, if_pos (.inl onDuty)]

theorem State.takeShift_of_noCrew (named : crew ≠ 0) (off : s.shift.identity.crew = 0)
    (stands : s.shift.state ≠ .offered) :
    s.takeShift crew = (s.shiftNoted (s.shiftTaken crew) .taken crew).ok := by
  have closed : (s.shift.running.map fun m => { m with crewOut := crew, overdue := m.overdue + s.overdueNow })
      = (s.shift.running.map fun m => { m with overdue := m.overdue + s.overdueNow }).map
          fun m => { m with crewOut := crew } := by rw [Option.map_map]; rfl
  rw [State.takeShift, if_neg named, if_neg (by simp [off, stands]), State.shiftTaken, closed]
  rfl

end

theorem State.takeShift_namesTheCrew : Claims.TakeShiftNamesTheCrew := by
  intro s q crew waits due later
  refine ⟨_, rfl, ?_, fun named onDuty => ?_, fun named off stands on => ?_⟩
  · rintro rfl
    exact State.request_refused waits (by simp) s.takeShift_of_zero
  · exact State.request_refused waits (by simp) (State.takeShift_of_onDuty named onDuty)
  · obtain ⟨answered, whole, held⟩ :=
      State.request_movesShift waits (by simp) (State.takeShift_of_noCrew named off stands) on
    have shift := congrArg State.shift whole
    refine ⟨answered, shift.trans ?_, held, whole.trans ?_⟩
    · rw [State.shiftTaken, laterOf_eq]
      rfl
    · rw [shift]

/-! ### HAND OVER (R171) -/

section
variable {s : State} {crew : Byte}

theorem State.handOverAllowed_iff : s.handOverAllowed = true ↔
    s.shift.state = .due ∨ (s.shift.state = .onShift ∧ s.cls ≠ 7
      ∧ 1 ≤ (s.shift.identity.nextDue - s.evaluatedSecond).toNat
      ∧ (s.shift.identity.nextDue - s.evaluatedSecond).toNat ≤ 60 * s.settings.working.earlyMargin) := by
  unfold State.handOverAllowed
  split <;> simp [*]

theorem State.handOver_of_zero : s.handOver 0 = s.refuse .badValue := rfl

theorem State.handOver_of_early (named : crew ≠ 0) (early : ¬ s.handOverAllowed = true) :
    s.handOver crew = s.refuse .wrongState := by
  rw [State.handOver, if_neg named, if_pos (Bool.eq_false_of_not_eq_true early)]

theorem State.handOver_of_other (named : crew ≠ 0) (allowed : s.handOverAllowed = true)
    (other : crew ≠ s.shift.identity.crew) : s.handOver crew = s.refuse .wrongCrew := by
  rw [State.handOver, if_neg named, if_neg (by simp [allowed]), if_pos other]

theorem State.handOver_of_onDuty (named : crew ≠ 0) (allowed : s.handOverAllowed = true)
    (onDuty : crew = s.shift.identity.crew) :
    s.handOver crew = (s.shiftNoted
      { s.shift with offer := some ⟨crew, s.tb.runClock⟩, state := .offered } .offered crew).ok := by
  rw [State.handOver, if_neg named, if_neg (by simp [allowed]), if_neg (not_not_intro onDuty)]
  rfl

/-! ### WITHDRAW (R173) -/

theorem State.withdraw_of_noOffer (stands : s.shift.state ≠ .offered) :
    s.withdraw = s.refuse .wrongState := by
  unfold State.withdraw
  split
  · contradiction
  · rfl

theorem State.withdraw_of_offer {o : Offer} (offered : s.shift.state = .offered)
    (offer : s.shift.offer = some o) :
    s.withdraw = (s.shiftNoted s.shift.withoutOffer .withdrawn o.crewOut).ok := by
  rw [State.withdraw, offered, offer]
  rfl

end

theorem State.handOver_offersAndWithdrawRemoves : Claims.HandOverOffersAndWithdrawRemoves := by
  refine ⟨fun s q crew waits => ?_, fun s q waits => ?_⟩
  · intro second ahead allowed
    have judged : s.handOverAllowed = true ↔ allowed := State.handOverAllowed_iff
    refine ⟨_, rfl, ?_, fun named early => ?_, fun named may other => ?_, fun named may onDuty on => ?_⟩
    · rintro rfl
      exact State.request_refused waits (by simp) State.handOver_of_zero
    · exact State.request_refused waits (by simp) (State.handOver_of_early named (mt judged.1 early))
    · exact State.request_refused waits (by simp) (State.handOver_of_other named (judged.2 may) other)
    · obtain ⟨answered, whole, held⟩ :=
        State.request_movesShift waits (by simp) (State.handOver_of_onDuty named (judged.2 may) onDuty) on
      exact ⟨answered, whole, held⟩
  · refine ⟨_, rfl, fun stands => ?_, fun o offered offer on => ?_⟩
    · exact State.request_refused waits (by simp) (State.withdraw_of_noOffer stands)
    · obtain ⟨answered, whole, held⟩ :=
        State.request_movesShift waits (by simp) (State.withdraw_of_offer offered offer) on
      exact ⟨answered, whole, held⟩

/-- Settles O48: each of the three requests is refused or moves the shift on with its HANDOVER record. -/
theorem crewsTakeOfferAndWithdraw : Obligations.CrewsTakeOfferAndWithdraw :=
  ⟨State.takeShift_namesTheCrew, State.handOver_offersAndWithdrawRemoves⟩

end Sys2Proof.Machine
end

section
/-! ACCEPT and the cut of the shift (R168, R174 to R176, R179): O49. -/

namespace Sys2Proof.Machine

/-! ### The files that are CLOSED (R175) -/

theorem State.closedSlots_rise (s : State) : s.closedSlots.Pairwise (· < ·) :=
  (List.pairwise_lt_finRange 16).filter _

theorem State.mem_closedSlots {s : State} {i : SlotId} :
    i ∈ s.closedSlots ↔ ∃ f, s.file i = some f ∧ f.state = .closed := by
  rw [State.closedSlots, List.mem_filter, State.file]
  cases s.trips.slots.get i <;> simp [allSlots]

/-! ### The cut (R175, R176, R179) -/

section
variable (s : State) (crew : Byte)

/-- The running summary closed, with the overdue time so far (R168, R175). -/
def State.summaryCut (m : Summary) : Summary :=
  s.closeSummary crew { m with overdue := m.overdue + s.overdueNow }

/-- The identity of the shift that begins at a cut (R175). -/
def State.identityCut : ShiftIdentity where
  number := s.shift.identity.number + 1
  crew := crew
  start := s.tb.second
  nextDue := s.instantAfter (laterOf s.shift.identity.nextDue s.tb.second)

/-- The summary that opens at a cut (R176). -/
def State.summaryOpened : Summary :=
  (s.withShift { s.shift with identity := s.identityCut crew }).openSummary s.ring.next false

/-- The Shift Controller after a cut (R175). -/
def State.shiftCut : Shift := { s.shift with
  identity := s.identityCut crew
  state := .onShift
  offer := none
  dueStart := none
  overdueSince := none
  missedWatch := none
  log := appendLog s.shift.log (s.shift.running.map (s.summaryCut crew))
  running := some (s.summaryOpened crew) }

theorem State.cutShift_eq :
    s.cutShift crew = (s.shiftNoted (s.shiftCut crew) .cut crew).requestCheckpoint .cut := by
  have closed : s.summaryCut crew
      = s.closeOverdue.closeSummary crew ∘ fun m => { m with overdue := m.overdue + s.overdueNow } := rfl
  rw [State.shiftCut, closed, ← Option.map_map]
  rfl

theorem State.cutShift_tells :
    s.Tells (s.cutShift crew) [s.ownRecord .handover (BitVec.ofNat 16 (6 * 256 + crew.toNat))] [] := by
  rw [s.cutShift_eq crew]
  exact (s.shiftNoted_tells _ .cut crew).then_silence (State.requestCheckpoint_ring _ _)
    (State.requestCheckpoint_ports _ _)

theorem State.cutShift_frame : s.cutShift crew = { s with
    shift := s.shiftCut crew, journal := (s.cutShift crew).journal
    ring := (s.cutShift crew).ring, ports := (s.cutShift crew).ports } := by
  obtain ⟨j, requested⟩ := (s.shiftNoted (s.shiftCut crew) .cut crew).requestCheckpoint_frame .cut
  rw [s.cutShift_eq crew, requested, s.shiftNoted_eq]

/-- The cut requests a checkpoint, which a FAILED journal ignores (R149, R175). -/
theorem State.cutShift_journal (alive : s.journal.state ≠ .failed) :
    (s.cutShift crew).journal = { s.journal with pending := s.journal.pending ||| 8#6 } := by
  rw [s.cutShift_eq crew, s.shiftNoted_eq]
  exact State.requestCheckpoint_journal _ .cut alive

/-- The log takes the summary that has ended, the oldest of twelve going first (R179). -/
theorem State.shiftCut_log {m : Summary} (running : s.shift.running = some m) :
    (s.shiftCut crew).log
      = (if s.shift.log.length < 12 then s.shift.log else s.shift.log.drop 1) ++ [s.summaryCut crew m] := by
  rw [State.shiftCut, running]
  rfl

theorem State.summaryOpened_unit (u : UnitId) : (s.summaryOpened crew).units.get u
    = ⟨⟨0, 0, 0, 0, 0⟩, 0, 0, 0, (s.shift.units.get u).inTest⟩ :=
  Table.get_map _ _ _

end

/-! ### ACCEPT (R174) -/

section
variable {s : State} {crew : Byte}

theorem State.accept_of_zero : s.accept 0 = s.refuse .badValue := rfl

theorem State.accept_of_noOffer (named : crew ≠ 0) (stands : s.shift.state ≠ .offered) :
    s.accept crew = s.refuse .wrongState := by
  rw [State.accept, if_neg named]
  split
  · contradiction
  · rfl

theorem State.accept_of_offer {o : Offer} (named : crew ≠ 0) (offered : s.shift.state = .offered)
    (offer : s.shift.offer = some o) :
    s.accept crew = if crew = o.crewOut then s.refuse .wrongCrew else (s.cutShift crew).ok := by
  rw [State.accept, if_neg named, offered, offer]

/-- An accepted ACCEPT is answered OK and cuts the shift (R175). -/
theorem State.request_cutsShift {q : Port} (waits : (s.port q).waits (.accept crew) = true)
    (accepted : s.accept crew = (s.cutShift crew).ok) (on : s.ring.started = true) :
    let t := s.request q (.accept crew)
    AnsweredAndNoticed q (.accept crew) .ok [] s t
      ∧ t.shift = s.shiftCut crew
      ∧ t.ring.holds s.ring.next (s.ownRecord .handover (BitVec.ofNat 16 (6 * 256 + crew.toNat)))
      ∧ (s.journal.state ≠ .failed →
          t.journal = { s.journal with pending := s.journal.pending ||| 8#6 })
      ∧ t = { s with shift := t.shift, journal := t.journal, ring := t.ring, ports := t.ports } := by
  intro t
  obtain ⟨⟨o, taken⟩, answered, held⟩ :=
    State.request_records waits (by simp) accepted (s.cutShift_tells crew) on
  have whole : t = { s.cutShift crew with ports := o } := taken
  have journal : t.journal = (s.cutShift crew).journal := (congrArg State.journal whole :)
  rw [s.cutShift_frame crew] at whole
  refine ⟨answered, congrArg State.shift whole, held,
    fun alive => journal.trans (s.cutShift_journal crew alive), ?_⟩
  rw [whole]

end

/-- Settles O49: ACCEPT is judged in the order of R174, and the shift that it leaves is the one the cut makes. -/
theorem acceptCutsTheShift : Obligations.AcceptCutsTheShift := by
  intro s q crew waits due later
  refine ⟨_, rfl, ?_, fun named stands => ?_,
    fun o named offered offer => ⟨fun same => ?_, fun m other running on => ?_⟩⟩
  · rintro rfl
    exact State.request_refused waits (by simp) State.accept_of_zero
  · exact State.request_refused waits (by simp) (State.accept_of_noOffer named stands)
  · exact State.request_refused waits (by simp)
      ((State.accept_of_offer named offered offer).trans (if_pos same))
  · obtain ⟨answered, shift, held, journal, whole⟩ :=
      State.request_cutsShift waits ((State.accept_of_offer named offered offer).trans (if_neg other)) on
    refine ⟨answered, ⟨s.closedSlots, s.summaryCut crew m, s.summaryOpened crew, rfl, s.closedSlots_rise,
      fun i => State.mem_closedSlots, rfl, s.summaryOpened_unit crew, shift.trans ?_⟩, held, journal, whole⟩
    rw [← s.shiftCut_log crew running, State.shiftCut, State.identityCut, laterOf_eq]
    rfl

end Sys2Proof.Machine
end
section
/-! What R175, R179, R181 and R187 speak of, and the operations that leave it alone: one lemma for each, in the order
of the model's files, so that the statements about builds and summaries look only at the operations that move
them. -/

namespace Sys2Proof.Machine

/-! ### The phase, the numbered summaries and the places of builds -/

/-- Where a port holds builds: whether slot A, and whether slot B, is BUILDING, and whether it has no orphan. -/
def PortState.places (x : PortState) : Bool × Bool × Bool :=
  (x.slotA.isBuilding, x.slotB.isBuilding, x.orphans.isEmpty)

/-- The phase, the numbers of the shift on duty and of its summary, the shift log, and where builds stand. -/
structure Desk where
  phase : Phase
  number : BitVec 32
  running : Option (BitVec 32)
  log : List Summary
  ports : PerPort (Bool × Bool × Bool)

def State.desk (s : State) : Desk where
  phase := s.phase
  number := s.shift.identity.number
  running := s.shift.running.map Summary.number
  log := s.shift.log
  ports := s.ports.map PortState.places

theorem State.desk_ports_get (s : State) (q : Port) : s.desk.ports.get q = (s.port q).places :=
  PerPort.get_map _ _ _

theorem Slot.builds_eq_nil_iff {x : Slot} : x.builds = [] ↔ x.isBuilding = false := by
  cases x <;> simp [Slot.builds, Slot.isBuilding]

theorem PortState.builds_eq_nil_iff {x : PortState} :
    x.builds = [] ↔ x.slotA.isBuilding = false ∧ x.slotB.isBuilding = false ∧ x.orphans = [] := by
  rw [PortState.builds, List.append_eq_nil_iff, List.append_eq_nil_iff, Slot.builds_eq_nil_iff,
    Slot.builds_eq_nil_iff]
  tauto

section
variable {s t : State}

/-- Latches are no part of the desk. -/
theorem State.desk_of_latched (phase : t.phase = s.phase) (shift : t.shift = s.shift)
    (ports : t.ports = s.latched t) : t.desk = s.desk := by
  unfold State.desk
  rw [phase, shift, ports]
  rfl

/-- The form of the log rests on the numbers of the summaries alone. -/
theorem Shift.logSound_congr {x y : Shift} (number : y.identity.number = x.identity.number)
    (running : y.running.map Summary.number = x.running.map Summary.number) (log : y.log = x.log)
    (h : x.logSound) : y.logSound := by
  obtain ⟨short, rising, last, present⟩ := h
  have opened : y.running.isSome = x.running.isSome := by
    rw [← Option.isSome_map, running, Option.isSome_map]
  refine ⟨log ▸ short, log ▸ rising, ?_, fun m hm => ?_⟩
  · rw [log, number, opened]
    exact last
  · rw [hm, Option.map_some, eq_comm, Option.map_eq_some_iff] at running
    obtain ⟨n, hn, same⟩ := running
    rw [← same, number]
    exact present n hn

theorem State.portsSound_of_desk (h : t.desk = s.desk) (sound : s.portsSound) : t.portsSound := fun q => by
  have places : (t.port q).places = (s.port q).places := by
    rw [← State.desk_ports_get, h, State.desk_ports_get]
  have a := congrArg Prod.fst places
  have b := congrArg (fun x => x.2.1) places
  simp only [PortState.places] at a b
  rw [PortState.sound, a, b]
  exact sound q

theorem State.summariesSound_of_desk (h : t.desk = s.desk) (sound : s.summariesSound) : t.summariesSound := by
  obtain ⟨log, early⟩ := sound
  refine ⟨Shift.logSound_congr (congrArg Desk.number h) (congrArg Desk.running h) (congrArg Desk.log h) log,
    fun starting => ?_⟩
  obtain ⟨bare, closed, none_built⟩ := early (ne_of_eq_of_ne (congrArg Desk.phase h).symm starting)
  refine ⟨(congrArg Desk.log h :).trans bare, ?_, fun q => ?_⟩
  · have running : t.shift.running.map Summary.number = s.shift.running.map Summary.number :=
      congrArg Desk.running h
    rwa [closed, Option.map_none, Option.map_eq_none_iff] at running
  · have places : (t.port q).places = (s.port q).places := by
      rw [← State.desk_ports_get, h, State.desk_ports_get]
    have held := none_built q
    rw [PortState.builds_eq_nil_iff, ← List.isEmpty_iff] at held ⊢
    simp only [PortState.places, Prod.mk.injEq] at places
    obtain ⟨a, b, orphans⟩ := places
    rwa [a, b, orphans]

end

/-! ### Builds that change and stay (R187, R201) -/

theorem changeFirst_isEmpty {α : Type} (c : α → Bool) (f : α → α) (xs : List α) :
    (changeFirst c (fun a => some (f a)) xs).isEmpty = xs.isEmpty := by
  cases xs with
  | nil => rfl
  | cons x rest => by_cases h : c x = true <;> simp [changeFirst, h]

theorem Slot.change_isBuilding (x : Slot) (c : Build → Bool) (f : Build → Build) :
    (x.change c fun b => some (f b)).isBuilding = x.isBuilding := by
  unfold Slot.change
  split
  · split <;> rfl
  · rfl

/-- A build that becomes another stays where it stood. -/
theorem PortState.changeBuild_places (x : PortState) (c : Build → Bool) {g : Build → Option Build}
    {f : Build → Build} (h : ∀ b, g b = some (f b)) : (x.changeBuild c g).places = x.places := by
  obtain rfl : g = fun b => some (f b) := funext h
  unfold PortState.changeBuild PortState.places
  split
  · rw [changeFirst_isEmpty]
  · split
    · rw [Slot.change_isBuilding]
    · rw [Slot.change_isBuilding]

variable (s : State)

/-- A walk whose steps leave the desk alone leaves it alone. -/
theorem State.forEach_desk {ι : Type} (xs : List ι) (f : ι → State → State)
    (h : ∀ x t, (f x t).desk = t.desk) : (s.forEach xs f).desk = s.desk :=
  State.forEach_same State.desk xs f h s

/-! ### Updates of one part of the state -/

@[simp] theorem State.withTb_desk (t : Timebase) : (s.withTb t).desk = s.desk := rfl
@[simp] theorem State.withDue_desk (d : DueMarks) : (s.withDue d).desk = s.desk := rfl
@[simp] theorem State.withSel_desk (x : Selection) : (s.withSel x).desk = s.desk := rfl
@[simp] theorem State.withDist_desk (d : Distribution) : (s.withDist d).desk = s.desk := rfl
@[simp] theorem State.withRing_desk (r : Ring) : (s.withRing r).desk = s.desk := rfl
@[simp] theorem State.withTrips_desk (t : Trips) : (s.withTrips t).desk = s.desk := rfl
@[simp] theorem State.withJournal_desk (j : Journal) : (s.withJournal j).desk = s.desk := rfl
@[simp] theorem State.withFlash_desk (f : Flash) : (s.withFlash f).desk = s.desk := rfl
@[simp] theorem State.withSettings_desk (x : SettingsStore) : (s.withSettings x).desk = s.desk := rfl
@[simp] theorem State.setRef_desk (r : RefId) (x : Reference) : (s.setRef r x).desk = s.desk := rfl
@[simp] theorem State.setLine_desk (l : LineId) (x : Line) : (s.setLine l x).desk = s.desk := rfl
@[simp] theorem State.setMode_desk (u : UnitId) (x : UnitMode) : (s.setMode u x).desk = s.desk := rfl
@[simp] theorem State.setTally_desk (u : UnitId) (x : UnitTally) : (s.setTally u x).desk = s.desk := rfl
@[simp] theorem State.setSlot_desk (i : SlotId) (f : Option TripFile) : (s.setSlot i f).desk = s.desk := rfl
@[simp] theorem State.withOp_desk (x : FlashOp) : (s.withOp x).desk = s.desk := rfl
@[simp] theorem State.withMem_desk (m : Memory) : (s.withMem m).desk = s.desk := rfl
@[simp] theorem State.withStage_desk (x : PowerFailStage) : (s.withStage x).desk = s.desk := rfl
@[simp] theorem State.withSave_desk (x : SaveStage) (w : Settings) : (s.withSave x w).desk = s.desk := rfl
@[simp] theorem State.raiseAll_desk (k : Notice) : (s.raiseAll k).desk = s.desk := rfl
@[simp] theorem State.withPending_desk (queue : List Instr) : (s.withPending queue).desk = s.desk := rfl

/-- The Shift Controller may move all but the numbers and the log. -/
theorem State.withShift_desk {x : Shift} (number : x.identity.number = s.shift.identity.number)
    (running : x.running.map Summary.number = s.shift.running.map Summary.number)
    (log : x.log = s.shift.log) : (s.withShift x).desk = s.desk := by
  unfold State.desk State.withShift
  rw [number, running, log]

/-- Counts of the running summary move while its number stays. -/
theorem State.modSummary_desk {f : Summary → Summary} (h : ∀ m, (f m).number = m.number) :
    (s.modSummary f).desk = s.desk :=
  s.withShift_desk rfl (by rw [Option.map_map]; exact congrArg (Option.map · _) (funext h)) rfl

/-- A port may move all but the places of its builds. -/
theorem State.modPort_desk {q : Port} {f : PortState → PortState}
    (h : (f (s.port q)).places = (s.port q).places) : (s.modPort q f).desk = s.desk := by
  have ports : (s.modPort q f).ports.map PortState.places = s.ports.map PortState.places := by
    apply PerPort.ext_get
    intro each
    rw [PerPort.get_map, PerPort.get_map, State.modPort, State.setPort]
    by_cases same : each = q
    · rw [same, PerPort.get_set_same]
      exact h
    · rw [PerPort.get_set_other _ _ same]
  exact congrArg (Desk.mk _ _ _ _) ports

/-! ### Records and checkpoint requests -/

@[simp] theorem State.complete_desk (e : Entry) : (s.complete e).desk = s.desk :=
  State.desk_of_latched (s.complete_phase e) (s.complete_shift e) (s.complete_latched e)

@[simp] theorem State.append_desk (e : Entry) : (s.append e).desk = s.desk := by
  unfold State.append; split <;> simp

@[simp] theorem State.note_desk (k : Kind) (d : BitVec 16) : (s.note k d).desk = s.desk :=
  s.append_desk _

@[simp] theorem State.noteUnit_desk (k : Kind) (u : UnitId) (t : Stamp) (d : BitVec 16) (b : Bool) :
    (s.noteUnit k u t d b).desk = s.desk :=
  s.append_desk _

@[simp] theorem State.requestCheckpoint_desk (c : Cause) : (s.requestCheckpoint c).desk = s.desk := by
  unfold State.requestCheckpoint; split <;> simp

@[simp] theorem State.countRose_desk : s.countRose.desk = s.desk := by
  unfold State.countRose; simp only; split <;> simp

/-! ### Shift Controller -/

@[simp] theorem State.noteHandover_desk (k : Subkind) (crew : Byte) :
    (s.noteHandover k crew).desk = s.desk :=
  s.note_desk _ _

@[simp] theorem State.fallDue_desk : s.fallDue.desk = s.desk := by
  simp only [State.fallDue, State.raiseAll_desk, State.noteHandover_desk]
  exact s.withShift_desk rfl rfl rfl

@[simp] theorem State.missInstant_desk : s.missInstant.desk = s.desk := by
  simp only [State.missInstant, State.raiseAll_desk, State.noteHandover_desk]
  exact (State.withShift_desk _ rfl rfl rfl).trans (s.modSummary_desk fun _ => rfl)

@[simp] theorem State.evaluateSchedule_desk : s.evaluateSchedule.desk = s.desk := by
  unfold State.evaluateSchedule
  repeat' split
  all_goals simp

@[simp] theorem State.shiftStepKnown_desk : s.shiftStepKnown.desk = s.desk := by
  rw [State.shiftStepKnown, State.evaluateSchedule_desk]
  exact s.modSummary_desk fun _ => rfl

@[simp] theorem State.shiftSeesClass_desk : s.shiftSeesClass.desk = s.desk :=
  s.modSummary_desk fun _ => rfl

@[simp] theorem State.endGrace_desk : s.endGrace.desk = s.desk := by
  unfold State.endGrace
  split
  · simp only [State.raiseAll_desk, State.noteHandover_desk]
    exact s.withShift_desk rfl rfl rfl
  · rfl

@[simp] theorem State.lapseOffer_desk : s.lapseOffer.desk = s.desk := by
  unfold State.lapseOffer
  repeat' split
  · rw [State.noteHandover_desk]
    exact s.withShift_desk rfl rfl rfl
  all_goals rfl

@[simp] theorem State.closeOverdue_desk : s.closeOverdue.desk = s.desk :=
  (State.withShift_desk _ rfl rfl rfl).trans (s.modSummary_desk fun _ => rfl)

@[simp] theorem State.summaryMillisecond_desk : s.summaryMillisecond.desk = s.desk :=
  s.modSummary_desk fun _ => rfl

@[simp] theorem State.modSummaryUnit_desk (u : UnitId) (f : SummaryUnit → SummaryUnit) :
    (s.modSummaryUnit u f).desk = s.desk :=
  s.modSummary_desk fun _ => rfl

@[simp] theorem State.shiftTakesMode_desk (u : UnitId) (k : Mode) (b : Bool) :
    (s.shiftTakesMode u k b).desk = s.desk := by
  unfold State.shiftTakesMode
  simp only
  split
  · exact (State.modSummaryUnit_desk _ u _).trans (s.withShift_desk rfl rfl rfl)
  · exact s.withShift_desk rfl rfl rfl

@[simp] theorem State.shiftTakesTrip_desk (u : UnitId) : (s.shiftTakesTrip u).desk = s.desk :=
  s.modSummaryUnit_desk u _

@[simp] theorem State.shiftTakesTest_desk (u : UnitId) (b : Bool) : (s.shiftTakesTest u b).desk = s.desk :=
  (State.modSummaryUnit_desk _ u _).trans (s.withShift_desk rfl rfl rfl)

/-! ### Tally Unit -/

@[simp] theorem State.millisecondBoundary_desk : s.millisecondBoundary.desk = s.desk := by
  unfold State.millisecondBoundary
  split
  · exact State.summaryMillisecond_desk _
  · rfl

@[simp] theorem State.noteRise_desk (n : Nat) : (s.noteRise n).desk = s.desk := by
  unfold State.noteRise; split <;> simp

@[simp] theorem State.tallyTakesMode_desk (u : UnitId) (k : Mode) (b : Bool) :
    (s.tallyTakesMode u k b).desk = s.desk := by
  unfold State.tallyTakesMode; split <;> simp

@[simp] theorem State.tallyTakesClosing_desk (u : UnitId) :
    (s.tallyTakesClosing u).desk = s.desk := by simp [State.tallyTakesClosing]

@[simp] theorem State.tallyTakesTrip_desk (u : UnitId) (x : Second) (c : Nat) :
    (s.tallyTakesTrip u x c).desk = s.desk := by simp [State.tallyTakesTrip]

@[simp] theorem State.tallyTakesFirstOut_desk (u : UnitId) (l : Option LineId) :
    (s.tallyTakesFirstOut u l).desk = s.desk := rfl

@[simp] theorem State.lapsePermit_desk (u : UnitId) : (s.lapsePermit u).desk = s.desk := by
  unfold State.lapsePermit; split <;> simp

/-! ### Trip File Table -/

@[simp] theorem State.modFile_desk (i : SlotId) (f : TripFile → TripFile) :
    (s.modFile i f).desk = s.desk := rfl

@[simp] theorem State.openFile_desk (i : SlotId) (u : UnitId) (t : Stamp) :
    (s.openFile i u t).desk = s.desk := rfl

@[simp] theorem State.openSomeFile_desk (u : UnitId) (t : Stamp) :
    (s.openSomeFile u t).1.desk = s.desk := by
  unfold State.openSomeFile
  repeat' split
  all_goals simp

@[simp] theorem State.countTrip_desk (u : UnitId) (t : Stamp) (b : Bool) :
    (s.countTrip u t b).desk = s.desk := by
  unfold State.countTrip; split <;> simp

@[simp] theorem State.trip_desk (u : UnitId) (t : Stamp) : (s.trip u t).desk = s.desk := by
  unfold State.trip
  simp only
  repeat' split
  all_goals simp

@[simp] theorem State.tripsTake_desk (r : Role) (c : Change) : (s.tripsTake r c).desk = s.desk := by
  unfold State.tripsTake
  simp only
  repeat' split
  all_goals simp

@[simp] theorem State.closeFile_desk (i : SlotId) (f : TripFile) (b : Bool) :
    (s.closeFile i f b).desk = s.desk := by
  unfold State.closeFile; split <;> simp

@[simp] theorem State.judgeBreaker_desk (i : SlotId) (f : TripFile) :
    (s.judgeBreaker i f).desk = s.desk := by
  unfold State.judgeBreaker; split <;> simp

@[simp] theorem State.windowEnd_desk (i : SlotId) : (s.windowEnd i).desk = s.desk := by
  unfold State.windowEnd
  repeat' split
  all_goals simp

@[simp] theorem State.cutFile_desk (i : SlotId) : (s.cutFile i).desk = s.desk := by
  unfold State.cutFile
  repeat' split
  all_goals simp

@[simp] theorem State.restartTrips_desk : s.restartTrips.desk = s.desk :=
  s.forEach_desk _ _ fun i t => t.cutFile_desk i

/-! ### Mode Detector -/

@[simp] theorem State.settleOn_desk (u : UnitId) (c : Candidate) :
    (s.settleOn u c).desk = s.desk := by simp [State.settleOn]

@[simp] theorem State.settle_desk (u : UnitId) : (s.settle u).desk = s.desk := by
  unfold State.settle
  repeat' split
  all_goals simp

@[simp] theorem State.settleFormed_desk (u : UnitId) : (s.settleFormed u).desk = s.desk := by
  unfold State.settleFormed
  repeat' split
  all_goals simp

@[simp] theorem State.derive_desk (u : UnitId) (t : Stamp) : (s.derive u t).desk = s.desk := by
  unfold State.derive
  simp only
  repeat' split
  all_goals simp

@[simp] theorem State.handLevel_desk (u : UnitId) (k : LevelName) (b : Bool) (t : Stamp) :
    (s.handLevel u k b t).desk = s.desk := by
  unfold State.handLevel
  simp only
  repeat' split
  all_goals simp

@[simp] theorem State.closeTest_desk (u : UnitId) (n : Nat) : (s.closeTest u n).desk = s.desk := by
  simp [State.closeTest]

@[simp] theorem State.expireTest_desk (u : UnitId) : (s.expireTest u).desk = s.desk := by
  unfold State.expireTest; split <;> simp

@[simp] theorem State.baselineUnit_desk (u : UnitId) (x : ModeLevels) :
    (s.baselineUnit u x).desk = s.desk := by
  unfold State.baselineUnit
  simp only
  repeat' split
  all_goals simp

@[simp] theorem State.restartUnit_desk (u : UnitId) : (s.restartUnit u).desk = s.desk := by
  unfold State.restartUnit; split <;> simp

@[simp] theorem State.restartModes_desk : s.restartModes.desk = s.desk :=
  s.forEach_desk _ _ fun u t => t.restartUnit_desk u

/-! ### Line Scanner -/

@[simp] theorem State.noteLevel_desk (l : LineId) (b : Bool) (t : Stamp) (c d : Bool) :
    (s.noteLevel l b t c d).desk = s.desk := by simp [State.noteLevel]

@[simp] theorem State.noteChatter_desk (l : LineId) (k : Kind) (t : Stamp) (n : Nat) (b : Bool) :
    (s.noteChatter l k t n b).desk = s.desk := by simp [State.noteChatter]

@[simp] theorem State.handModeLevel_desk (l : LineId) (b : Bool) (t : Stamp) :
    (s.handModeLevel l b t).desk = s.desk := by
  unfold State.handModeLevel; split <;> simp

@[simp] theorem State.passOn_desk (l : LineId) (b : Bool) (t : Stamp) :
    (s.passOn l b t).desk = s.desk := by simp [State.passOn]

@[simp] theorem State.beginChatter_desk (l : LineId) (b : Bool) (t : Stamp) :
    (s.beginChatter l b t).desk = s.desk := by
  unfold State.beginChatter
  simp only
  repeat' split
  all_goals simp

@[simp] theorem State.countChatter_desk (l : LineId) (b : Bool) (t : Stamp) :
    (s.countChatter l b t).desk = s.desk := by
  unfold State.countChatter
  simp only
  repeat' split
  all_goals simp

@[simp] theorem State.acceptChange_desk (l : LineId) (b : Bool) (t : Stamp) :
    (s.acceptChange l b t).desk = s.desk := by
  unfold State.acceptChange
  simp only
  repeat' split
  all_goals simp

@[simp] theorem State.resolve_desk (l : LineId) (c : PendingChange) :
    (s.resolve l c).desk = s.desk := by
  unfold State.resolve; split <;> simp

@[simp] theorem State.closeChatterWindow_desk (l : LineId) :
    (s.closeChatterWindow l).desk = s.desk := by
  unfold State.closeChatterWindow; split <;> simp

@[simp] theorem State.leaveChatter_desk (l : LineId) : (s.leaveChatter l).desk = s.desk := by
  unfold State.leaveChatter
  simp only
  repeat' split
  all_goals simp

@[simp] theorem State.endChatter_desk (l : LineId) : (s.endChatter l).desk = s.desk := by
  unfold State.endChatter; split <;> simp

@[simp] theorem State.fastEdge_desk (l : LineId) (b : Bool) : (s.fastEdge l b).desk = s.desk := by
  unfold State.fastEdge
  simp only
  repeat' split
  all_goals simp

@[simp] theorem State.endFastDebounce_desk (l : LineId) : (s.endFastDebounce l).desk = s.desk := by
  unfold State.endFastDebounce
  repeat' split
  all_goals simp

@[simp] theorem State.sampleLine_desk (t : Stamp) (l : LineId) :
    (s.sampleLine t l).desk = s.desk := by
  unfold State.sampleLine
  simp only
  repeat' split
  all_goals simp

@[simp] theorem State.pinsOfScan_desk (pins : BitVec 48) : (s.pinsOfScan pins).desk = s.desk := rfl

@[simp] theorem State.scan_desk (pins : BitVec 48) : (s.scan pins).desk = s.desk := by
  unfold State.scan
  split
  · exact (State.forEach_desk _ _ _ fun l t => t.sampleLine_desk _ l).trans (by simp)
  · rfl

@[simp] theorem State.takeBaseline_desk (pins : BitVec 48) :
    (s.takeBaseline pins).desk = s.desk := by
  unfold State.takeBaseline
  exact State.forEach_desk _ _ _ fun u t => t.baselineUnit_desk u _

@[simp] theorem State.awaitBaseline_desk : s.awaitBaseline.desk = s.desk := rfl

/-! ### Distribution Driver -/

@[simp] theorem State.beginStrobe_desk : s.beginStrobe.desk = s.desk := rfl

@[simp] theorem State.clockWord_desk : s.clockWord.desk = s.desk := by
  unfold State.clockWord; split <;> simp

@[simp] theorem State.endWord_desk : s.endWord.desk = s.desk := by
  unfold State.endWord; split <;> simp

@[simp] theorem State.releaseStrobe_desk : s.releaseStrobe.desk = s.desk := by
  unfold State.releaseStrobe; split <;> simp

@[simp] theorem State.judgeEcho_desk (b : Bool) : (s.judgeEcho b).desk = s.desk := by
  unfold State.judgeEcho
  simp only
  repeat' split
  all_goals simp

@[simp] theorem State.checkEcho_desk (b : Bool) : (s.checkEcho b).desk = s.desk := by
  unfold State.checkEcho; split <;> simp

@[simp] theorem State.setReadsBack_desk (b : Bool) : (s.setReadsBack b).desk = s.desk := rfl

@[simp] theorem State.makeStepKnown_desk : s.makeStepKnown.desk = s.desk := by simp [State.makeStepKnown]

/-! ### Reference Monitor -/

@[simp] theorem State.setLost_desk : s.setLost.desk = s.desk := rfl

@[simp] theorem State.clearLost_desk (q : Port) : (s.clearLost q).desk = s.desk := rfl

@[simp] theorem State.recordSelection_desk (x : Option RefId) :
    (s.recordSelection x).desk = s.desk := by simp [State.recordSelection]

@[simp] theorem State.moveDisagree_desk (b : Bool) : (s.moveDisagree b).desk = s.desk := by simp [State.moveDisagree]

@[simp] theorem State.recordRefState_desk (r : RefId) (x : RefState) :
    (s.recordRefState r x).desk = s.desk := by simp [State.recordRefState]

@[simp] theorem State.takeMessage_desk (r : RefId) (m : Arrived) :
    (s.takeMessage r m).desk = s.desk := rfl

@[simp] theorem State.takeArrived_desk (r : RefId) : (s.takeArrived r).desk = s.desk := by
  unfold State.takeArrived; split <;> simp

@[simp] theorem State.wholeMessage_desk (r : RefId) (b : List Byte) :
    (s.wholeMessage r b).desk = s.desk := by
  unfold State.wholeMessage; split <;> simp

@[simp] theorem State.timeMessage_desk (r : RefId) (b : List Byte) :
    (s.timeMessage r b).desk = s.desk := by
  unfold State.timeMessage
  repeat' split
  all_goals simp

@[simp] theorem State.messageByte_desk (r : RefId) (b : Byte) (h : Bool) (n : Nat) :
    (s.messageByte r b h n).desk = s.desk := by simp [State.messageByte]

@[simp] theorem State.dropPartial_desk (r : RefId) : (s.dropPartial r).desk = s.desk := by
  unfold State.dropPartial; split <;> simp

@[simp] theorem State.restartRef_desk (r : RefId) : (s.restartRef r).desk = s.desk := by
  unfold State.restartRef
  simp only
  repeat' split
  all_goals simp

@[simp] theorem State.restartSelection_desk : s.restartSelection.desk = s.desk := by
  unfold State.restartSelection; split <;> simp

@[simp] theorem State.restartComparison_desk : s.restartComparison.desk = s.desk := by
  unfold State.restartComparison; split <;> simp

@[simp] theorem State.restartReferences_desk : s.restartReferences.desk = s.desk := by simp [State.restartReferences]

/-! ### Settings Store -/

@[simp] theorem State.loadSettings_desk : s.loadSettings.desk = s.desk := by
  unfold State.loadSettings; split <;> simp

@[simp] theorem State.reloadSettings_desk : s.reloadSettings.desk = s.desk := rfl

@[simp] theorem State.readIdentity_desk : s.readIdentity.desk = s.desk := rfl

/-! ### Tally Journal and flash -/

@[simp] theorem State.noteJournal_desk (a b : Nat) : (s.noteJournal a b).desk = s.desk := by simp [State.noteJournal]

@[simp] theorem State.enterJournalState_desk (x : JournalState) :
    (s.enterJournalState x).desk = s.desk := by simp [State.enterJournalState]

@[simp] theorem State.reviewJournal_desk (b : Bool) : (s.reviewJournal b).desk = s.desk := by
  unfold State.reviewJournal
  simp only
  repeat' split
  all_goals simp

@[simp] theorem State.retire_desk (x : Fin 32) : (s.retire x).desk = s.desk := by
  unfold State.retire; split <;> simp

theorem PortState.answerSave_places (x : PortState) (body : List Byte) :
    (x.answerSave body).places = x.places :=
  x.changeBuild_places _ fun _ => rfl

@[simp] theorem State.endSave_desk (o : SaveOutcome) : (s.endSave o).desk = s.desk := by
  unfold State.endSave
  split
  · rfl
  · simp only
    rw [State.modPort_desk _ (PortState.answerSave_places _ _)]
    split
    · rfl
    · rfl

@[simp] theorem State.beginSettingsWork_desk : s.beginSettingsWork.desk = s.desk := by
  unfold State.beginSettingsWork; split <;> simp

@[simp] theorem State.beginErase_desk (x : Fin 32) : (s.beginErase x).desk = s.desk := rfl

@[simp] theorem State.beginProgram_desk (r : JournalRecord) : (s.beginProgram r).desk = s.desk := rfl

@[simp] theorem State.beginCheckpoint_desk : s.beginCheckpoint.desk = s.desk := rfl

@[simp] theorem State.grantFlash_desk : s.grantFlash.desk = s.desk := by
  unfold State.grantFlash
  simp only
  repeat' split
  all_goals simp

@[simp] theorem State.checkpointBegin_desk : s.checkpointBegin.desk = s.desk := by
  unfold State.checkpointBegin; split <;> simp

@[simp] theorem State.intervalRequest_desk : s.intervalRequest.desk = s.desk := by
  unfold State.intervalRequest; split <;> simp

@[simp] theorem State.paceRequest_desk : s.paceRequest.desk = s.desk := by
  unfold State.paceRequest; split <;> simp

@[simp] theorem State.leaveSector_desk (x : Fin 32) : (s.leaveSector x).desk = s.desk := by
  unfold State.leaveSector; split <;> simp

@[simp] theorem State.eraseAhead_desk : s.eraseAhead.desk = s.desk := by
  unfold State.eraseAhead
  repeat' split
  all_goals simp

@[simp] theorem State.moveOn_desk : s.moveOn.desk = s.desk := by
  unfold State.moveOn
  simp only
  repeat' split
  all_goals simp

@[simp] theorem State.beginPowerFail_desk : s.beginPowerFail.desk = s.desk := by
  unfold State.beginPowerFail; split <;> simp

@[simp] theorem State.retryPowerFail_desk (r : JournalRecord) :
    (s.retryPowerFail r).desk = s.desk := by
  unfold State.retryPowerFail; split <;> simp

@[simp] theorem State.beginReleasedPowerFail_desk : s.beginReleasedPowerFail.desk = s.desk := by
  unfold State.beginReleasedPowerFail
  simp only
  repeat' split
  all_goals simp

@[simp] theorem State.afterTakenProgram_desk (r : JournalRecord) (b : Bool) :
    (s.afterTakenProgram r b).desk = s.desk := by
  unfold State.afterTakenProgram
  repeat' split
  all_goals simp

@[simp] theorem State.programVerified_desk (x : Fin 32) (y : Fin 8) (r : JournalRecord) :
    (s.programVerified x y r).desk = s.desk := by simp [State.programVerified]

@[simp] theorem State.programFailed_desk (r : JournalRecord) :
    (s.programFailed r).desk = s.desk := by
  unfold State.programFailed
  simp only
  repeat' split
  all_goals simp

@[simp] theorem State.endProgram_desk (x : Fin 32) (y : Fin 8) (r : JournalRecord) (l : Option (List Byte)) :
    (s.endProgram x y r l).desk = s.desk := by
  unfold State.endProgram
  simp only
  repeat' split
  all_goals simp

@[simp] theorem State.programEnd_desk (l : Option (List Byte)) : (s.programEnd l).desk = s.desk := by
  unfold State.programEnd; split <;> simp

@[simp] theorem State.scanJournal_desk : s.scanJournal.desk = s.desk := by
  unfold State.scanJournal; split <;> simp

@[simp] theorem State.continueRecovery_desk : s.continueRecovery.desk = s.desk := by
  unfold State.continueRecovery
  repeat' split
  all_goals simp

@[simp] theorem State.leaveRetired_desk (x : Fin 32) : (s.leaveRetired x).desk = s.desk := by
  unfold State.leaveRetired; split <;> simp

@[simp] theorem State.countEraseFailure_desk : s.countEraseFailure.desk = s.desk := rfl

@[simp] theorem State.recoveryEraseFailed_desk (x : Fin 32) :
    (s.recoveryEraseFailed x).desk = s.desk := by simp [State.recoveryEraseFailed]

@[simp] theorem State.eraseFailed_desk (x : Fin 32) : (s.eraseFailed x).desk = s.desk := by simp [State.eraseFailed]

@[simp] theorem State.endErase_desk (x : Fin 32) (l : List Byte) :
    (s.endErase x l).desk = s.desk := by
  unfold State.endErase
  simp only
  repeat' split
  all_goals simp

@[simp] theorem State.eraseEnd_desk (l : List Byte) : (s.eraseEnd l).desk = s.desk := by
  unfold State.eraseEnd; split <;> simp

@[simp] theorem State.settingsEraseEnd_desk (l : List Byte) :
    (s.settingsEraseEnd l).desk = s.desk := by
  unfold State.settingsEraseEnd
  simp only
  repeat' split
  all_goals simp

@[simp] theorem State.settingsProgramEnd_desk (l : Option (List Byte)) :
    (s.settingsProgramEnd l).desk = s.desk := by
  unfold State.settingsProgramEnd; split <;> simp

@[simp] theorem State.abandonErase_desk (x : Fin 32) : (s.abandonErase x).desk = s.desk := rfl

@[simp] theorem State.abandonSettingsWork_desk : s.abandonSettingsWork.desk = s.desk :=
  State.endSave_desk _ _

@[simp] theorem State.abandonWaitingSave_desk : s.abandonWaitingSave.desk = s.desk := by
  unfold State.abandonWaitingSave; split <;> simp

@[simp] theorem State.stopFlash_desk : s.stopFlash.desk = s.desk := by
  unfold State.stopFlash; split <;> simp

@[simp] theorem State.takeWarning_desk : s.takeWarning.desk = s.desk := by
  unfold State.takeWarning
  simp only
  repeat' split
  all_goals simp

@[simp] theorem State.powerFailWarning_desk : s.powerFailWarning.desk = s.desk := by
  unfold State.powerFailWarning
  repeat' split
  all_goals simp

@[simp] theorem State.powerFailRelease_desk : s.powerFailRelease.desk = s.desk := by
  unfold State.powerFailRelease
  repeat' split
  all_goals simp

@[simp] theorem State.restartJournal_desk : s.restartJournal.desk = s.desk := by
  unfold State.restartJournal; split <;> simp

/-! ### Start-up and ports -/

@[simp] theorem State.announceJournal_desk : s.announceJournal.desk = s.desk := by
  unfold State.announceJournal
  simp only
  repeat' split
  all_goals simp

@[simp] theorem State.start_desk (d : BitVec 16) : (s.start d).desk = s.desk := by
  unfold State.start
  exact (State.forEach_desk _ _ _ fun e t => t.complete_desk e).trans (by simp)

/-! ### What the owners make of requests -/

@[simp] theorem State.status_desk (q : Port) : (s.status q).state.desk = s.desk :=
  s.modPort_desk rfl

@[simp] theorem State.identify_desk (q : Port) : (s.identify q).state.desk = s.desk := rfl

@[simp] theorem State.readTime_desk : s.readTime.state.desk = s.desk := rfl

@[simp] theorem State.readReferences_desk (q : Port) : (s.readReferences q).state.desk = s.desk := rfl

@[simp] theorem State.readLines_desk (unit : Byte) : (s.readLines unit).state.desk = s.desk := by
  unfold State.readLines
  repeat' split
  all_goals simp

@[simp] theorem State.readUnit_desk (unit : Byte) : (s.readUnit unit).state.desk = s.desk := by
  unfold State.readUnit; split <;> simp

@[simp] theorem State.readEvents_desk (q : Port) (count : Byte) :
    (s.readEvents q count).state.desk = s.desk := rfl

@[simp] theorem State.seekEvents_desk (q : Port) (selector : Byte) (seq : EventSeq) :
    (s.seekEvents q selector seq).state.desk = s.desk := by
  unfold State.seekEvents; split <;> simp

@[simp] theorem State.listTripFiles_desk : s.listTripFiles.state.desk = s.desk := rfl

@[simp] theorem State.readTripFile_desk (slot : Byte) :
    (s.readTripFile slot).state.desk = s.desk := by
  unfold State.readTripFile; split <;> simp

@[simp] theorem State.readSummary_desk (index part : Byte) :
    (s.readSummary index part).state.desk = s.desk := by
  unfold State.readSummary
  repeat' split
  all_goals simp

@[simp] theorem State.readJournal_desk (part : Byte) : (s.readJournal part).state.desk = s.desk := by
  unfold State.readJournal
  repeat' split
  all_goals simp

@[simp] theorem State.readSettings_desk (item qual : Byte) :
    (s.readSettings item qual).state.desk = s.desk := by
  unfold State.readSettings
  simp only
  repeat' split
  all_goals simp

@[simp] theorem State.clearTripFile_desk (slot : Byte) (x : Second) :
    (s.clearTripFile slot x).state.desk = s.desk := by
  unfold State.clearTripFile
  repeat' split
  all_goals simp

@[simp] theorem State.presetTally_desk (b : PresetBody) : (s.presetTally b).state.desk = s.desk := by
  unfold State.presetTally
  repeat' split
  all_goals simp

@[simp] theorem State.lockPresets_desk : s.lockPresets.state.desk = s.desk := by
  unfold State.lockPresets
  split
  · rfl
  · exact State.note_desk _ _ _

@[simp] theorem State.saveSettings_desk : s.saveSettings.state.desk = s.desk := by
  unfold State.saveSettings; split <;> simp

@[simp] theorem State.setTest_desk (unit : Byte) : (s.setTest unit).state.desk = s.desk := by
  unfold State.setTest
  repeat' split
  all_goals simp

@[simp] theorem State.endTest_desk (unit : Byte) : (s.endTest unit).state.desk = s.desk := by
  unfold State.endTest
  repeat' split
  all_goals simp

@[simp] theorem State.takeShift_desk (crew : Byte) : (s.takeShift crew).state.desk = s.desk := by
  unfold State.takeShift
  repeat' split
  · rfl
  · rfl
  · rw [State.ok_state, State.noteHandover_desk, ← s.closeOverdue_desk]
    refine (State.modSummary_desk _ fun _ => ?_).trans ?_
    · rfl
    · exact s.closeOverdue.withShift_desk rfl rfl rfl

@[simp] theorem State.handOver_desk (crew : Byte) : (s.handOver crew).state.desk = s.desk := by
  unfold State.handOver
  repeat' split
  case isFalse.isFalse.isFalse =>
    rw [State.ok_state, State.noteHandover_desk]
    exact s.withShift_desk rfl rfl rfl
  all_goals rfl

@[simp] theorem State.withdraw_desk : s.withdraw.state.desk = s.desk := by
  unfold State.withdraw
  split
  · rw [State.ok_state, State.noteHandover_desk]
    exact s.withShift_desk rfl rfl rfl
  · rfl

@[simp] theorem State.acknowledgeTripFile_desk (slot : Byte) (x : Second) :
    (s.acknowledgeTripFile slot x).state.desk = s.desk := by
  unfold State.acknowledgeTripFile
  repeat' split
  all_goals simp

@[simp] theorem State.permitPreset_desk (unit : Byte) :
    (s.permitPreset unit).state.desk = s.desk := by
  unfold State.permitPreset
  repeat' split
  all_goals simp

/-! ### Timebase -/

@[simp] theorem State.reviewAlarm_desk (old : Nat) : (s.reviewAlarm old).desk = s.desk := by
  unfold State.reviewAlarm
  simp only
  split <;> simp

@[simp] theorem State.classMoved_desk (old : Nat) : (s.classMoved old).desk = s.desk := by
  unfold State.classMoved; split <;> simp

@[simp] theorem State.secondBoundary_desk : s.secondBoundary.desk = s.desk := by
  unfold State.secondBoundary
  split
  · simp [State.growUncertainty]
  · rfl

@[simp] theorem State.handStepOff_desk (t : Timebase) (kind : Kind) (datum : BitVec 16) :
    (s.handStepOff t kind datum).desk = s.desk := by
  simp [State.handStepOff]

@[simp] theorem State.stepTime_desk (e : Int) (claim : Nat) : (s.stepTime e claim).desk = s.desk := by
  simp [State.stepTime]

@[simp] theorem State.pulseReport_desk (capture : Capture) (second : Second) (claim : Nat) :
    (s.pulseReport capture second claim).desk = s.desk := by
  unfold State.pulseReport State.slew
  simp only
  repeat' split
  all_goals simp

@[simp] theorem State.selectionMoved_desk (old new : Option RefId) :
    (s.selectionMoved old new).desk = s.desk := by
  obtain ⟨t, l, frame⟩ := s.selectionMoved_frame old new
  rw [frame]
  rfl

@[simp] theorem State.restartTimebase_desk : s.restartTimebase.desk = s.desk := by
  unfold State.restartTimebase; split <;> simp

@[simp] theorem State.cycle_desk : s.cycle.desk = s.desk := rfl

/-! ### Selection, comparison and seconds -/

@[simp] theorem State.evaluateSelection_desk : s.evaluateSelection.desk = s.desk := by
  unfold State.evaluateSelection; split <;> simp

@[simp] theorem State.judgePair_desk (agrees naming : Bool) : (s.judgePair agrees naming).desk = s.desk := by
  unfold State.judgePair
  repeat' split
  all_goals simp

@[simp] theorem State.dropUnpaired_desk : s.dropUnpaired.desk = s.desk := by
  simp [State.dropUnpaired]

@[simp] theorem State.expireUnpaired_desk : s.expireUnpaired.desk = s.desk := by
  unfold State.expireUnpaired; split <;> simp

@[simp] theorem State.comparePulse_desk (m : Mark) : (s.comparePulse m).desk = s.desk := by
  unfold State.comparePulse
  repeat' split
  case h_2.isTrue => exact State.judgePair_desk _ _ _
  case h_2.isFalse => exact s.dropUnpaired_desk
  all_goals rfl

@[simp] theorem State.dropComparison_desk : s.dropComparison.desk = s.desk := by
  unfold State.dropComparison
  simp only
  split <;> simp

@[simp] theorem State.moveRef_desk (r : RefId) (new : RefState) : (s.moveRef r new).desk = s.desk := by
  unfold State.moveRef
  simp only
  repeat' split
  all_goals simp

@[simp] theorem State.failSecond_desk (r : RefId) (cause : FailCause) :
    (s.failSecond r cause).desk = s.desk := by
  simp [State.failSecond]

@[simp] theorem State.expirePulse_desk (r : RefId) : (s.expirePulse r).desk = s.desk := by
  unfold State.expirePulse State.loseRef; split <;> simp

@[simp] theorem State.failLate_desk (r : RefId) : (s.failLate r).desk = s.desk := by
  unfold State.failLate; split <;> simp

@[simp] theorem State.passSecond_desk (r : RefId) (m : MessageInfo) : (s.passSecond r m).desk = s.desk := by
  unfold State.passSecond
  simp only
  repeat' split
  all_goals simp

@[simp] theorem State.reportPulse_desk (r : RefId) (edge : Capture) (m : MessageInfo) :
    (s.reportPulse r edge m).desk = s.desk := by
  unfold State.reportPulse; split <;> simp

@[simp] theorem State.closeSecond_desk (r : RefId) (edge : Capture) : (s.closeSecond r edge).desk = s.desk := by
  unfold State.closeSecond
  simp only
  repeat' split
  all_goals simp

@[simp] theorem State.placeEdge_desk (r : RefId) (edge : Capture) : (s.placeEdge r edge).desk = s.desk := by
  unfold State.placeEdge
  repeat' split
  all_goals simp

@[simp] theorem State.endPeriod_desk (r : RefId) (last : SeenEdge) (sh : LevelSpan) (edge : Capture)
    (high : Bool) : (s.endPeriod r last sh edge high).desk = s.desk := by
  unfold State.endPeriod State.decidePolarity
  simp only
  repeat' split
  all_goals simp

@[simp] theorem State.learn_desk (r : RefId) (edge : Capture) (high : Bool) :
    (s.learn r edge high).desk = s.desk := by
  unfold State.learn
  simp only
  repeat' split
  case h_2 => exact State.endPeriod_desk _ _ _ _ _ _
  all_goals rfl

@[simp] theorem State.relisten_desk (r : RefId) (active : Bool) : (s.relisten r active).desk = s.desk := by
  unfold State.relisten
  simp only
  split <;> simp

@[simp] theorem State.secondEdge_desk (r : RefId) (active : Bool) :
    (s.secondEdge r active).desk = s.desk := by
  unfold State.secondEdge
  simp only
  split <;> simp

@[simp] theorem State.pulseEdge_desk (r : RefId) (high : Bool) : (s.pulseEdge r high).desk = s.desk := by
  unfold State.pulseEdge State.startListen
  simp only
  repeat' split
  all_goals simp

/-! ### Settings and requests that move the Timebase -/

@[simp] theorem State.applySettings_desk (w : Settings) : (s.applySettings w).desk = s.desk := by
  unfold State.applySettings
  simp only
  repeat' split
  all_goals simp

@[simp] theorem State.writeSettings_desk (item qual : Byte) (v : List Byte) :
    (s.writeSettings item qual v).state.desk = s.desk := by
  unfold State.writeSettings; split <;> simp

@[simp] theorem State.setTime_desk (second : Second) (micros : BitVec 24) :
    (s.setTime second micros).state.desk = s.desk := by
  unfold State.setTime
  repeat' split
  all_goals simp

@[simp] theorem State.selectReference_desk (mode : Byte) : (s.selectReference mode).state.desk = s.desk := by
  unfold State.selectReference; split <;> simp

end Sys2Proof.Machine
end

section
/-! A port keeps its form (R187) and, where no build stood, stays without one: frames, owners' replies, CLEAR PORT
and restart. -/

namespace Sys2Proof.Machine

/-- At most one slot stays BUILDING, and a port without builds stays without. -/
structure PortState.Keeps (x y : PortState) : Prop where
  sound : x.sound → y.sound
  bare : x.builds = [] → y.builds = []

section
variable {x y z : PortState}

theorem PortState.Keeps.trans (h : x.Keeps y) (g : y.Keeps z) : x.Keeps z :=
  ⟨g.sound ∘ h.sound, g.bare ∘ h.bare⟩

theorem PortState.sound_iff : x.sound ↔ ¬ (x.slotA.isBuilding = true ∧ x.slotB.isBuilding = true) := by
  rw [← Bool.and_eq_true, Bool.not_eq_true]
  rfl

/-- Nothing new is BUILDING, and no orphan comes where there was none. -/
theorem PortState.Keeps.of_fewer (a : y.slotA.isBuilding = true → x.slotA.isBuilding = true)
    (b : y.slotB.isBuilding = true → x.slotB.isBuilding = true) (orphans : x.orphans = [] → y.orphans = []) :
    x.Keeps y where
  sound := by
    rw [PortState.sound_iff, PortState.sound_iff]
    exact fun few ⟨ha, hb⟩ => few ⟨a ha, b hb⟩
  bare := by
    simp only [PortState.builds_eq_nil_iff, ← Bool.not_eq_true]
    exact fun ⟨noA, noB, none_left⟩ => ⟨mt a noA, mt b noB, orphans none_left⟩

theorem PortState.Keeps.of_same (a : y.slotA = x.slotA) (b : y.slotB = x.slotB) (orphans : y.orphans = x.orphans) :
    x.Keeps y :=
  .of_fewer (by rw [a]; exact id) (by rw [b]; exact id) (by rw [orphans]; exact id)

end

/-! ### Builds changed, finished and discarded (R187, R189) -/

theorem Slot.change_building_only {x : Slot} {c : Build → Bool} {f : Build → Option Build}
    (h : (x.change c f).isBuilding = true) : x.isBuilding = true := by
  cases x with
  | building b => rfl
  | empty | finished | sending => exact h

theorem Slot.finish_building_only {x : Slot} {n : Nat} (h : (x.finish n).isBuilding = true) :
    x.isBuilding = true := by
  cases x with
  | building b => rfl
  | empty | finished | sending => exact h

section
variable (x : PortState)

theorem PortState.changeBuild_keeps (c : Build → Bool) (f : Build → Option Build) :
    x.Keeps (x.changeBuild c f) := by
  unfold PortState.changeBuild
  split
  · exact .of_fewer id id fun bare => by rw [bare]; rfl
  · split
    · exact .of_fewer Slot.change_building_only id id
    · exact .of_fewer id Slot.change_building_only id

theorem PortState.finishBuild_keeps : x.Keeps x.finishBuild := by
  unfold PortState.finishBuild
  split
  · exact .of_fewer Slot.finish_building_only Slot.finish_building_only id
  · exact .of_same rfl rfl rfl

theorem PortState.discardOrphan_keeps : x.Keeps x.discardOrphan :=
  .of_fewer id id fun bare => by rw [PortState.discardOrphan, bare]; rfl

/-- The owner's reply, and the end of a NOP (R187, R194). -/
theorem PortState.reply_keeps (r : Request) (reply : Reply) : x.Keeps ((x.settle r reply).finishNop r) := by
  have settled : x.Keeps (x.settle r reply) := x.changeBuild_keeps _ _
  refine settled.trans ?_
  unfold PortState.finishNop
  split
  · exact PortState.finishBuild_keeps _
  · exact .of_same rfl rfl rfl

/-! ### Slots filled, bound and emptied (R186, R187, R189, R195) -/

/-- A response, or what else is not a build, in a slot (R187). -/
theorem PortState.place_keeps (sentA : Bool) {slot : Slot} (h : slot.isBuilding = false) :
    x.Keeps (x.place sentA slot) := by
  unfold PortState.place
  split
  · exact .of_fewer (fun building => by simp [h] at building) id id
  · exact .of_fewer id (fun building => by simp [h] at building) id

theorem PortState.finishNow_keeps (sentA : Bool) (r : Response) : x.Keeps (x.finishNow sentA r) :=
  (x.place_keeps sentA rfl).trans (.of_same rfl rfl rfl)

theorem PortState.refuse_keeps (sentA : Bool) (code : Byte) (result : Result) :
    x.Keeps (x.refuse sentA code result) :=
  (x.finishNow_keeps sentA _).trans (.of_same rfl rfl rfl)

/-- A build takes a slot of a port that is not busy (R187). -/
theorem PortState.place_building_sound {x : PortState} (free : x.busy = false) (sentA : Bool) (b : Build) :
    (x.place sentA (.building b)).sound := by
  obtain ⟨a, b⟩ := Bool.or_eq_false_iff.1 free
  unfold PortState.place
  split
  · simp [PortState.sound, b]
  · simp [PortState.sound, a]

theorem Slot.bind_isBuilding (slot : Slot) : slot.bind.isBuilding = slot.isBuilding := by
  cases slot <;> rfl

theorem PortState.bindEarliest_keeps : x.Keeps x.bindEarliest := by
  unfold PortState.bindEarliest
  repeat' split
  all_goals exact .of_fewer (by simp [Slot.bind_isBuilding]) (by simp [Slot.bind_isBuilding]) id

theorem PortState.beginFrame_keeps (starting : Bool) : x.Keeps (x.beginFrame starting) :=
  x.bindEarliest_keeps.trans (.of_same rfl rfl rfl)

theorem PortState.ensureFrame_keeps (starting : Bool) : x.Keeps (x.ensureFrame starting) := by
  unfold PortState.ensureFrame
  split
  · exact .of_same rfl rfl rfl
  · exact x.beginFrame_keeps starting

theorem Slot.dropSending_isBuilding (slot : Slot) :
    slot.dropSending.isBuilding = true ↔ slot.isBuilding = true := by
  cases slot <;> rfl

theorem PortState.closeFrame_keeps (starting : Bool) : x.Keeps (x.closeFrame starting) :=
  (x.ensureFrame_keeps starting).trans <|
    .of_fewer (Slot.dropSending_isBuilding _).mp (Slot.dropSending_isBuilding _).mp id

theorem PortState.abortFrame_keeps (starting : Bool) : x.Keeps (x.abortFrame starting) :=
  (x.closeFrame_keeps starting).trans (.of_same rfl rfl rfl)

theorem Slot.keepSending_isBuilding (slot : Slot) : slot.keepSending.isBuilding = false := by
  cases slot <;> rfl

/-- Emptied slots leave no build in a slot; the orphans are the builds there were (R189). -/
theorem PortState.emptySlots_keeps : x.Keeps x.emptySlots where
  sound _ := by simp [PortState.sound, PortState.emptySlots, Slot.keepSending_isBuilding]
  bare bare := PortState.builds_eq_nil_iff.2
    ⟨Slot.keepSending_isBuilding _, Slot.keepSending_isBuilding _, bare⟩

theorem PortState.clear_keeps : x.Keeps x.clear :=
  x.emptySlots_keeps.trans (PortState.finishNow_keeps _ _ _)

theorem PortState.restart_keeps : x.Keeps x.restart :=
  x.emptySlots_keeps.trans (.of_same rfl rfl rfl)

/-! ### The end of a frame (R187) -/

/-- A request is handed on only to a port that is not busy, and not before the power-on sequence has ended. -/
theorem PortState.verdict_hand {x : PortState} {starting : Bool} {q : Port} {bytes : List Byte} {r : Request}
    (h : x.verdict starting q bytes = .hand r) : starting = false ∧ x.busy = false := by
  unfold PortState.verdict at h
  split at h
  · cases h
  · split at h
    · cases h
    · split at h
      · cases h
      · exact ⟨by simpa using ‹¬ starting = true›, by simpa using ‹¬ x.busy = true›⟩

theorem PortState.apply_keeps (sentA : Bool) (code : Byte) {v : Verdict} (h : ∀ r, v ≠ .hand r) :
    x.Keeps (x.apply sentA code v) := by
  cases v with
  | refuse result => exact x.refuse_keeps sentA code result
  | clear => exact x.clear_keeps
  | drop => exact .of_same rfl rfl rfl
  | hand r => exact absurd rfl (h r)

theorem PortState.endFrame_sound {x : PortState} (sound : x.sound) (starting : Bool) (q : Port)
    (bytes : List Byte) (code : Byte) : (x.endFrame starting q bytes code).sound := by
  unfold PortState.endFrame
  cases judged : x.endVerdict starting q bytes with
  | hand r => exact PortState.place_building_sound (PortState.verdict_hand judged).2 _ _
  | refuse | clear | drop =>
    exact ((x.closeFrame_keeps starting).trans (PortState.apply_keeps _ _ _ (by simp))).sound sound

theorem PortState.endFrame_bare {x : PortState} (bare : x.builds = []) (q : Port) (bytes : List Byte)
    (code : Byte) : (x.endFrame true q bytes code).builds = [] := by
  have refused : ∀ r, x.endVerdict true q bytes ≠ .hand r := fun r handed =>
    absurd (PortState.verdict_hand handed).1 (by decide)
  exact ((x.closeFrame_keeps true).trans (PortState.apply_keeps _ _ _ refused)).bare bare

end

end Sys2Proof.Machine
end

section
/-! Every step keeps at most one build in a port's slots, and the shift log at twelve summaries numbered in order
(R175, R176, R179, R181, R187): O60. -/

namespace Sys2Proof.Machine

/-- A move of the machine keeps the form of the ports, and that of the summaries. -/
structure State.Keeps (s t : State) : Prop where
  ports : s.portsSound → t.portsSound
  summaries : s.summariesSound → t.summariesSound

section
variable {s t v : State}

theorem State.Keeps.refl (s : State) : s.Keeps s := ⟨id, id⟩

theorem State.Keeps.trans (h : s.Keeps t) (g : t.Keeps v) : s.Keeps v :=
  ⟨g.ports ∘ h.ports, g.summaries ∘ h.summaries⟩

theorem State.Keeps.of_desk (h : t.desk = s.desk) : s.Keeps t :=
  ⟨State.portsSound_of_desk h, State.summariesSound_of_desk h⟩

/-- What follows on a desk that is left alone. -/
theorem State.Keeps.then_desk (h : s.Keeps t) (g : v.desk = t.desk) : s.Keeps v := h.trans (.of_desk g)

/-- The ports move alone: each keeps its form, and until the power-on sequence has ended no build comes. -/
theorem State.Keeps.of_ports (phase : t.phase = s.phase) (shift : t.shift = s.shift)
    (sound : ∀ q, (s.port q).sound → (t.port q).sound)
    (bare : s.phase ≠ .running → ∀ q, (s.port q).builds = [] → (t.port q).builds = []) : s.Keeps t where
  ports few q := sound q (few q)
  summaries := by
    rintro ⟨log, early⟩
    unfold State.summariesSound
    rw [phase, shift]
    refine ⟨log, fun starting => ?_⟩
    obtain ⟨no_log, closed, none_built⟩ := early starting
    exact ⟨no_log, closed, fun q => bare starting q (none_built q)⟩

theorem State.forEach_keepsForms {ι : Type} (xs : List ι) (f : ι → State → State)
    (h : ∀ (x : ι) (t : State), t.Keeps (f x t)) (s : State) : s.Keeps (s.forEach xs f) :=
  State.forEach_keeps (fun t => s.Keeps t) xs f (fun x t ht => ht.trans (h x t)) (.refl s)

theorem State.modPort_port (q each : Port) (f : PortState → PortState) :
    (s.modPort q f).port each = if each = q then f (s.port q) else s.port each := by
  unfold State.modPort State.setPort State.port
  split
  · rename_i same
    rw [same, PerPort.get_set_same]
  · rename_i other
    exact PerPort.get_set_other _ _ other

theorem State.modPort_keeps {q : Port} {f : PortState → PortState} (h : (s.port q).Keeps (f (s.port q))) :
    s.Keeps (s.modPort q f) := by
  refine .of_ports rfl rfl (fun each => ?_) fun _ each => ?_
  all_goals
    rw [State.modPort_port]
    split
  · rename_i same
    exact same ▸ h.sound
  · exact id
  · rename_i same
    exact same ▸ h.bare
  · exact id

end

/-! ### The log at a cut (R175, R179) -/

/-- Summaries whose numbers rise by one, the last one below a given number. -/
structure SummariesRise (xs : List Summary) (next : BitVec 32) : Prop where
  rising : ∀ (i : Nat) (m n : Summary), xs[i]? = some m → xs[i + 1]? = some n → n.number = m.number + 1
  last : ∀ m, xs.getLast? = some m → m.number + 1 = next

section
variable {xs : List Summary} {next : BitVec 32}

theorem SummariesRise.drop (h : SummariesRise xs next) : SummariesRise (xs.drop 1) next where
  rising i m n hm hn := by
    rw [List.getElem?_drop] at hm hn
    exact h.rising (1 + i) m n hm hn
  last m hm := by
    rw [List.getLast?_drop] at hm
    split at hm
    · cases hm
    · exact h.last m hm

theorem SummariesRise.push (h : SummariesRise xs next) {c : Summary} (number : c.number = next) :
    SummariesRise (xs ++ [c]) (next + 1) where
  rising i m n hm hn := by
    rcases Nat.lt_trichotomy (i + 1) xs.length with inside | at_end | beyond
    · rw [List.getElem?_append_left (by omega)] at hm hn
      exact h.rising i m n hm hn
    · rw [List.getElem?_append_left (by omega)] at hm
      rw [at_end, List.getElem?_concat_length, Option.some.injEq] at hn
      rw [← hn, number, h.last m (by rw [List.getLast?_eq_getElem?, ← at_end]; exact hm)]
    · rw [List.getElem?_eq_none (by simp; omega)] at hn
      cases hn
  last m hm := by
    rw [List.getLast?_concat, Option.some.injEq] at hm
    rw [← hm, number]

end

/-- The log takes the summary of the shift that ends, and the summary that opens has the next number. -/
theorem State.shiftCut_logSound {s : State} (h : s.shift.logSound) (crew : Byte) :
    (s.shiftCut crew).logSound := by
  obtain ⟨short, rising, last, present⟩ := h
  cases running : s.shift.running with
  | none =>
    have bare : s.shift.log = [] := by
      cases ended : s.shift.log.getLast? with
      | none => exact List.getLast?_eq_none_iff.1 ended
      | some m =>
        obtain ⟨-, opened⟩ := last m ended
        rw [running] at opened
        cases opened
    have log : (s.shiftCut crew).log = [] := by
      rw [State.shiftCut, running]
      exact bare
    unfold Shift.logSound
    rw [log]
    refine ⟨Nat.zero_le _, by simp, by simp, fun m hm => ?_⟩
    cases hm
    rfl
  | some m =>
    have rise : SummariesRise s.shift.log s.shift.identity.number :=
      ⟨rising, fun n hn => (last n hn).1⟩
    have closed : (s.summaryCut crew m).number = s.shift.identity.number := present m running
    have pushed : SummariesRise (s.shiftCut crew).log (s.shift.identity.number + 1) := by
      rw [s.shiftCut_log crew running]
      split
      · exact rise.push closed
      · exact rise.drop.push closed
    refine ⟨?_, pushed.rising, fun n hn => ⟨pushed.last n hn, rfl⟩, fun n hn => ?_⟩
    · rw [s.shiftCut_log crew running]
      unfold Config.logSize at short ⊢
      split
      all_goals
        simp only [List.length_append, List.length_drop, List.length_singleton]
        omega
    · cases hn
      rfl

theorem State.cutShift_portsSound {s : State} (h : s.portsSound) (crew : Byte) :
    (s.cutShift crew).portsSound := fun q => by
  rw [State.port, (s.cutShift_tells crew).ports, State.latched, PerPort.get_map2]
  exact h q

theorem State.cutShift_summariesSound {s : State} (h : s.summariesSound) (running : s.phase = .running)
    (crew : Byte) : (s.cutShift crew).summariesSound := by
  rw [s.cutShift_frame crew]
  exact ⟨State.shiftCut_logSound h.1 crew, fun starting => absurd running starting⟩

/-! ### Power, recovery and the end of the sequence (R181, R196) -/

section
variable {s : State}

/-- A part without summaries and builds has the form that it has during the power-on sequence. -/
theorem State.summariesSound_of_bare (log : s.shift.log = []) (closed : s.shift.running = none)
    (none_built : ∀ q, (s.port q).builds = []) : s.summariesSound := by
  refine ⟨?_, fun _ => ⟨log, closed, none_built⟩⟩
  unfold Shift.logSound
  rw [log, closed]
  exact ⟨Nat.zero_le _, by simp, by simp, by simp⟩

/-- The power-on values have both forms in any phase. -/
theorem State.reset_keeps (s : State) (p : Phase) : s.Keeps { State.reset with phase := p } where
  ports _ := fun q => (State.reset_port q).symm ▸ PortState.powerOn_sound
  summaries _ := State.summariesSound_of_bare rfl rfl fun q => by
    have fresh : (State.port { State.reset with phase := p } q) = PortState.powerOn := State.reset_port q
    rw [fresh]
    rfl

theorem State.dark_keeps : s.Keeps s.dark := (s.reset_keeps .off).then_desk rfl

theorem State.powerOn_keeps : s.Keeps s.powerOn := by
  refine (s.reset_keeps .recovering).then_desk ?_
  simp only [State.powerOn, State.continueRecovery_desk, State.scanJournal_desk, State.readIdentity_desk,
    State.loadSettings_desk]
  rfl

/-- What recovery hands over moves the number of the shift at most. -/
theorem State.handOverRecovered_desk (s : State) :
    ∃ identity, s.handOverRecovered.desk = (s.withShift { s.shift with identity := identity }).desk := by
  unfold State.handOverRecovered
  split
  · exact ⟨_, rfl⟩
  · exact ⟨_, rfl⟩

theorem State.endRecovery_keeps : s.Keeps s.endRecovery := by
  unfold State.endRecovery
  split
  · rename_i done
    simp only [State.recoveryDone, Bool.and_eq_true, decide_eq_true_eq] at done
    obtain ⟨⟨⟨recovering, -⟩, -⟩, -⟩ := done
    obtain ⟨identity, recovered⟩ := s.handOverRecovered_desk
    let u : State := { s.withShift { s.shift with identity := identity } with phase := .baselining }
    have handed : s.handOverRecovered.announceJournal.awaitBaseline.desk
        = (s.withShift { s.shift with identity := identity }).desk := by
      rw [State.awaitBaseline_desk, State.announceJournal_desk, recovered]
    have taken : s.Keeps u := by
      refine ⟨fun few => few, fun ⟨_, early⟩ => ?_⟩
      obtain ⟨log, closed, none_built⟩ := early (by rw [recovering]; nofun)
      exact State.summariesSound_of_bare log closed none_built
    exact taken.then_desk (congrArg (fun d : Desk => { d with phase := .baselining }) handed)
  · exact .refl s

/-- The first summary opens with the number of the shift on duty (R181). -/
theorem State.endSequence_keeps (baselining : s.phase = .baselining) : s.Keeps s.endSequence := by
  let opened := s.withShift { s.shift with running := some (s.openSummary s.ring.next true) }
  let u : State := { opened with phase := .running }
  have started : s.Keeps u := by
    refine ⟨fun few => few, fun ⟨_, early⟩ => ⟨?_, fun starting => absurd rfl starting⟩⟩
    obtain ⟨log, -, -⟩ := early (by rw [baselining]; nofun)
    have bare : u.shift.log = [] := log
    unfold Shift.logSound
    rw [bare]
    refine ⟨Nat.zero_le _, by simp, by simp, fun m hm => ?_⟩
    cases hm
    rfl
  exact started.then_desk
    (congrArg (fun d : Desk => { d with phase := .running }) (opened.start_desk _))

theorem State.baseline_keeps (pins : BitVec 48) : s.Keeps (s.baseline pins) := by
  have levels := s.takeBaseline_desk pins
  unfold State.baseline
  split
  · split
    · rename_i baselining
      have phase : (s.takeBaseline pins).phase = s.phase := congrArg Desk.phase levels
      exact (State.Keeps.of_desk levels).trans (State.endSequence_keeps (phase.trans baselining))
    · exact .of_desk levels
  · exact .refl s

/-! ### Restart (R195, R199) -/

theorem State.restartPorts_keeps : s.Keeps s.restartPorts := by
  have restarted (q : Port) : (s.port q).Keeps (s.restartPorts.port q) := by
    have port : s.restartPorts.port q = (s.port q).restart.raise .restart := by
      simp only [State.restartPorts, State.raiseAll, State.port, PerPort.get_map]
    rw [port]
    exact (s.port q).restart_keeps.trans (.of_same rfl rfl rfl)
  exact .of_ports rfl rfl (fun q => (restarted q).sound) fun _ q => (restarted q).bare

theorem State.restart_keeps : s.Keeps s.restart := by
  unfold State.restart State.restartBlocks
  split
  · refine State.Keeps.trans (.of_desk ?_) State.restartPorts_keeps
    simp
  · exact .refl s

/-! ### Requests (R170 to R175, R187) -/

/-- Of the owners' decisions, a restart empties the ports, an accepted ACCEPT cuts the shift, and the others leave
the desk alone. -/
theorem State.decide_cases (s : State) (q : Port) (r : Request) :
    (s.decide q r).state.desk = s.desk ∨ (s.decide q r).state = s.restart
      ∨ ∃ crew, (s.decide q r).state = s.cutShift crew := by
  cases r
  case restart => exact .inr (.inl rfl)
  case accept crew =>
    simp only [State.decide, State.accept]
    repeat' split
    case h_1.isFalse => exact .inr (.inr ⟨crew, rfl⟩)
    all_goals exact .inl rfl
  all_goals exact .inl (by simp [State.decide])

/-- Only a part whose power-on sequence has ended holds a request. -/
theorem State.running_of_waits {q : Port} {r : Request} (h : s.summariesSound)
    (waits : (s.port q).waits r = true) : s.phase = .running := by
  by_contra starting
  obtain ⟨-, -, none_built⟩ := h.2 starting
  have none_waits : (s.port q).waits r = (s.port q).builds.any (Build.waits r) := rfl
  rw [none_built q, List.any_nil, waits] at none_waits
  cases none_waits

theorem State.take_keeps (q : Port) (r : Request) : s.Keeps (s.take q r) := by
  unfold State.take
  split
  · rename_i waits
    have replied := State.modPort_keeps (s := (s.decide q r).state) (q := q)
      (f := fun x => (x.settle r (s.decide q r).reply).finishNop r) (PortState.reply_keeps _ _ _)
    refine State.Keeps.trans ?_ replied
    rcases s.decide_cases q r with same | restarted | ⟨crew, cut⟩
    · exact .of_desk same
    · exact restarted ▸ State.restart_keeps
    · rw [cut]
      exact ⟨fun few => State.cutShift_portsSound few crew,
        fun h => State.cutShift_summariesSound h (State.running_of_waits h waits) crew⟩
  · exact .refl s

/-! ### Frames (R183, R186 to R188) -/

theorem State.frameBegin_keeps (q : Port) : s.Keeps (s.frameBegin q) := by
  unfold State.frameBegin
  split
  · exact .refl s
  · refine (State.take_keeps q .nop).trans (State.modPort_keeps ?_)
    split
    · exact .of_same rfl rfl rfl
    · exact PortState.beginFrame_keeps _ _

theorem State.frameAbort_keeps (q : Port) : s.Keeps (s.frameAbort q) := by
  unfold State.frameAbort
  split
  · exact .refl s
  · exact (State.take_keeps q .nop).trans (State.modPort_keeps (PortState.abortFrame_keeps _ _))

/-- The port of a frame that ends, the code it echoes whatever it is. -/
theorem State.modPort_endFrame_keeps (q : Port) (bytes : List Byte) (code : Byte) :
    s.Keeps (s.modPort q fun x => x.endFrame s.isStarting q bytes code) := by
  refine .of_ports rfl rfl (fun each few => ?_) fun starting each bare => ?_
  all_goals
    rw [State.modPort_port]
    split
  · rename_i same
    exact PortState.endFrame_sound (same ▸ few) _ _ _ _
  · exact few
  · rename_i same
    rw [State.isStarting, decide_eq_true starting]
    exact PortState.endFrame_bare (same ▸ bare) _ _ _
  · exact bare

theorem State.endFrame_keeps (q : Port) (bytes : List Byte) : s.Keeps (s.endFrame q bytes) := by
  unfold State.endFrame
  split
  · exact (State.modPort_endFrame_keeps q [] _).then_desk rfl
  · exact State.modPort_endFrame_keeps q _ _

theorem State.frameEnd_keeps (q : Port) (bytes : List Byte) : s.Keeps (s.frameEnd q bytes) := by
  have ended : s.Keeps ((s.answerNop q).endFrame q bytes) :=
    (State.take_keeps q .nop).trans (State.endFrame_keeps q bytes)
  unfold State.frameEnd
  simp only
  split
  · exact .refl s
  · split
    · exact ended.trans (State.take_keeps q .restart)
    · exact ended

theorem State.responseFinished_keeps (q : Port) (orphan : Bool) : s.Keeps (s.responseFinished q orphan) := by
  refine State.modPort_keeps ?_
  split
  · exact PortState.discardOrphan_keeps _
  · exact PortState.finishBuild_keeps _

theorem State.request_keeps (q : Port) (r : Request) : s.Keeps (s.request q r) := by
  unfold State.request
  split
  · exact State.take_keeps q r
  · exact (State.frameEnd_keeps q _).trans (State.take_keeps q r)

/-! ### The oscillator cycle -/

theorem State.servePrompt_keeps : s.Keeps s.servePrompt :=
  State.forEach_keepsForms _ _ (fun q _ =>
    State.forEach_keepsForms _ _ (fun (b : Build) _ => State.take_keeps q b.request) _) s

theorem State.serveScan_keeps : s.Keeps s.serveScan := by
  refine (State.baseline_keeps s.pins).then_desk ?_
  rw [State.serveScan, State.withDue_desk, State.scan_desk]

theorem State.serveLines_keeps : s.Keeps s.serveLines := by
  have debounced := s.forEach_desk fastLines (fun l t => t.endFastDebounce l) fun l t => t.endFastDebounce_desk l
  refine ((State.Keeps.of_desk debounced).trans State.serveScan_keeps).then_desk ?_
  exact State.forEach_desk _ _ _ fun l t => by rw [State.endChatter_desk, State.closeChatterWindow_desk]

theorem State.serveMessages_desk (s : State) : s.serveMessages.desk = s.desk :=
  s.forEach_desk _ _ fun r t => t.takeArrived_desk r

theorem State.serveDriver_desk (s : State) : s.serveDriver.desk = s.desk := by
  simp [State.serveDriver]

theorem State.serveReferences_desk (s : State) : s.serveReferences.desk = s.desk := by
  unfold State.serveReferences
  rw [State.expireUnpaired_desk]
  exact s.forEach_desk _ _ fun r t => by simp

theorem State.serveUnits_desk (s : State) : s.serveUnits.desk = s.desk := by
  unfold State.serveUnits
  simp only
  rw [State.forEach_desk _ _ _ fun u t => t.lapsePermit_desk u,
    State.forEach_desk _ _ _ fun i t => t.windowEnd_desk i,
    State.forEach_desk _ _ _ fun u t => by simp]

theorem State.serveFlash_desk (s : State) : s.serveFlash.desk = s.desk := by
  unfold State.serveFlash
  simp only
  split <;> simp

theorem State.serveDue_keeps : s.Keeps s.serveDue := by
  unfold State.serveDue
  extract_lets a
  have boundaries : s.Keeps a := State.servePrompt_keeps.then_desk (by simp [a, State.serveMessages_desk])
  have references : s.Keeps a.serveDriver.serveReferences :=
    boundaries.then_desk (by rw [State.serveReferences_desk, State.serveDriver_desk])
  exact (references.trans State.serveLines_keeps).then_desk
    (by simp [State.serveFlash_desk, State.serveUnits_desk])

theorem State.oscillatorCycle_keeps : s.Keeps s.oscillatorCycle := by
  unfold State.oscillatorCycle
  split
  · exact .refl s
  · exact State.serveDue_keeps.then_desk (State.cycle_desk _)

/-! ### Every step -/

/-- What a watched event leaves alone stays alone where it is not watched. -/
theorem State.watched_keeps {t : State} (h : t.desk = s.desk) : s.Keeps (if s.watching then t else s) := by
  split
  · exact .of_desk h
  · exact .refl s

/-- The power, recovery, the baseline, restarts, frames, requests and the cycle move the desk; no other command
does. -/
theorem exec_keeps (i : Instr) {t : State} (ht : exec i s = .next t) : s.Keeps t := by
  cases i
  case powerOn => cases ht; exact State.powerOn_keeps
  case powerLoss => cases ht; exact State.dark_keeps
  case endOfRecovery => cases ht; exact State.endRecovery_keeps
  case baseline pins => cases ht; exact State.baseline_keeps pins
  case restartLine => cases ht; exact State.restart_keeps
  case oscillatorCycle => cases ht; exact State.oscillatorCycle_keeps
  case pulseEdge r rising => cases ht; exact State.watched_keeps (s.pulseEdge_desk r rising)
  case timeMessage r bytes => cases ht; exact State.watched_keeps (s.timeMessage_desk r bytes)
  case messageByte r b stop gap => cases ht; exact State.watched_keeps (s.messageByte_desk r b stop gap)
  case frameBegin q => cases ht; exact State.frameBegin_keeps q
  case frameEnd q bytes => cases ht; exact State.frameEnd_keeps q bytes
  case frameAbort q => cases ht; exact State.frameAbort_keeps q
  case responseFinished q orphan => cases ht; exact State.responseFinished_keeps q orphan
  case readLines q look =>
    cases ht
    exact (State.Keeps.of_desk (s.pinsOfScan_desk _)).trans (State.request_keeps q _)
  case secondBoundary | powerFailWarning | powerFailRelease | millisecondBoundary | messageByteTimeout
      | pulseLossTimeout | latePulse | unpairedMarkTimeout | strobeRelease | wordEnd | dclkDdataChange
      | echoCheck | fastLineEdge | fastLineDebounceEnd | scanInstant | chatterWindowClose | chatterOff
      | settling | testExpiry | windowEnd | permitLapse | checkpointInterval | countPace | checkpointBegin
      | programEnd | eraseEnd | settingsEraseEnd | settingsProgramEnd | graceEnd | offerLapse =>
    cases ht
    exact .of_desk (by simp)
  all_goals cases ht; exact State.request_keeps _ _

/-- The empty queue leaves the state alone, and a command taken from the queue keeps both forms, since the queue is no
part of either. -/
theorem step_keeps {t : State} (ht : step s = .next t) : s.Keeps t := by
  unfold step at ht
  split at ht
  · cases ht; exact .refl s
  · exact (State.Keeps.of_desk (s.withPending_desk _)).trans (exec_keeps _ ht)

end

/-- Settles O60: a step keeps both forms. -/
theorem portsAndShiftLogStayInOrder : Obligations.PortsAndShiftLogStayInOrder :=
  ⟨fun _ _ few ht => (step_keeps ht).ports few, fun _ _ ordered ht => (step_keeps ht).summaries ordered⟩

end Sys2Proof.Machine
end
